-- ==== Sys2Proof/Word.lean ====
section
/-!
DEFINITION. The word types of the stack and their plainest arithmetic: bytes, lines, little-endian byte lists (R3).
-/
namespace Sys2Proof

/-- Eight bits, the smallest unit of stored data. -/
abbrev Byte := BitVec 8

/-- A line is always 64 B (R4). -/
abbrev Line := BitVec 512

/-- The `n` bytes of a value, least significant byte first (R3). -/
def leBytes : Nat → Nat → List Byte
  | 0, _ => []
  | n + 1, v => BitVec.ofNat 8 (v % 256) :: leBytes n (v / 256)

/-- The value of a list of bytes, least significant byte first (R3). -/
def leNat : List Byte → Nat
  | [] => 0
  | b :: bs => b.toNat + 256 * leNat bs

/-- Field [hi:lo] of a value; bit 0 is the least significant (R3). -/
def field (v hi lo : Nat) : Nat := v / 2 ^ lo % 2 ^ (hi + 1 - lo)

/-- Bit `i` of a value. -/
def bitAt (v i : Nat) : Bool := v / 2 ^ i % 2 == 1

/-- One as a number for true, zero for false. -/
def bit (b : Bool) : Nat := if b then 1 else 0

/-- A two's complement pattern of `w` bits read as an integer. -/
def toSigned (w v : Nat) : Int :=
  if v < 2 ^ (w - 1) then (v : Int) else (v : Int) - (2 : Int) ^ w

/-- An integer written as a two's complement pattern of `w` bits. -/
def ofSigned (w : Nat) (i : Int) : Nat := (i % (2 : Int) ^ w).toNat

/-- A sum that stays at the largest value of its type (R384). -/
def satAdd (w a b : Nat) : Nat := min (a + b) (2 ^ w - 1)

/-- The numbers `lo` to `lo + n - 1`, ascending. -/
def span (lo n : Nat) : List Nat := (List.range n).map (lo + ·)

/-- Byte list padded with zeros, or cut, to `n` bytes. -/
def fitBytes (n : Nat) (bs : List Byte) : List Byte :=
  (bs ++ List.replicate n 0#8).take n

/-- The bytes of a line, byte 0 first. -/
def lineBytes (l : Line) : List Byte := leBytes 64 l.toNat

/-- The line that 64 bytes make, byte 0 least significant. -/
def lineOfBytes (bs : List Byte) : Line := BitVec.ofNat 512 (leNat bs)

/-- The value of `n` bytes of a line from byte `off`. -/
def lineField (l : Line) (off n : Nat) : Nat := l.toNat / 2 ^ (8 * off) % 2 ^ (8 * n)

end Sys2Proof
end

