-- ==== Sys2Proof/Syntax.lean ====
section
/-!
DEFINITION. The commands and events that the stack takes, as plain data: the operand types and the one inductive of
commands, one constructor per row of the operation table.
-/
namespace Sys2Proof

/-- An operation body (R364), its header fields as numbers. `reserved` is whether every reserved header field is zero. -/
structure OpBody where
  op : Nat
  flags : Nat := 0
  tag : Nat
  index : Nat
  sub : Nat
  count : Nat := 0
  selector : Nat := 0
  offset : Nat := 0
  reserved : Bool := true
  data : List Byte := []
  deriving DecidableEq, Repr

/-- Where an operation comes from: an Ouvend OPERATION frame with its DEST, or the head of a host port's MGT buffer. -/
inductive OpSource where
  | ouvend (dest : Nat) (body : OpBody)
  | mgt (port : Nat)
  deriving DecidableEq, Repr

/-- A body fits its header fields and carries at most 240 bytes (R364). -/
def OpBody.wf (b : OpBody) : Bool :=
  decide (b.op < 256) && decide (b.flags < 256) && decide (b.tag < 65536) && decide (b.index < 65536) &&
  decide (b.sub < 256) && decide (b.count < 256) && decide (b.selector < 65536) && decide (b.offset < 4294967296) &&
  decide (b.data.length ≤ 240)

/-- The source's operands lie in their fields. -/
def OpSource.wf : OpSource → Bool
  | .ouvend dest body => decide (dest < 64) && body.wf
  | .mgt port => decide (port < 4)

/-- The source's operation has a property; what a port's buffer holds is read when the command executes. -/
def OpSource.holds (src : OpSource) (p : OpBody → Bool) : Bool :=
  src.wf && match src with | .ouvend _ b => p b | .mgt _ => true

/-- The operation is `op` of an object in the run `lo` to `hi` of an index. -/
def OpBody.namesRun (op index lo hi : Nat) (b : OpBody) : Bool := b.op == op && b.index == index && decide (lo ≤ b.sub) && decide (b.sub ≤ hi)

/-- The operation is `op` of one object. -/
def OpBody.names (op index sub : Nat) (b : OpBody) : Bool := b.namesRun op index sub sub

/-- The operation is `op` of any object. -/
def OpBody.does (op : Nat) (b : OpBody) : Bool := b.op == op

/-- A read of the corrected-bit or error counter of a checker (R87). -/
def OpBody.readsChecker (b : OpBody) : Bool := b.namesRun 1 0x2231 0x00 0xD7 || b.namesRun 1 0x2232 0x00 0xD7

/-- GET, or a reserved OP, which is refused like a GET that is malformed (Table 13.6). -/
def OpBody.isGet (b : OpBody) : Bool := !(decide (2 ≤ b.op) && decide (b.op ≤ 5))

/-- SET, or a CMD, which the SET row carries where the object has no action (Table 13.10 row 8). -/
def OpBody.isSet (b : OpBody) : Bool := b.op == 2 || b.op == 3

/-- A back-channel message (Table 3.4). -/
inductive BcMsg where
  | nop
  | hello (rates rate : Nat)
  | setPreset (pos preset : Nat)
  | setTaps (pos : Nat) (cm2 cm1 c0 cp1 cp2 : Int)
  | reply (pos status : Nat)
  | done (mask : Nat)
  deriving DecidableEq, Repr

/-- What training settled on one received position (R49, R55): the analogue outcome enters the model as an operand. -/
structure Trained where
  pos : Nat
  ctle : Nat
  /-- Full-scale of the ADC. -/
  fullScale : Nat
  gain : Int
  ffe : List Int
  dfe : Int
  /-- Estimates of the four levels, lowest first. -/
  levels : List Int
  deriving DecidableEq, Repr

/-- Ranges of Table 2.7. -/
def Trained.wf (t : Trained) : Bool :=
  decide (t.pos < 9) && decide (t.ctle < 8) && decide (t.fullScale < 128) && decide (128 ≤ t.gain) && decide (t.gain ≤ 1024) && t.ffe.length == 16 &&
  t.ffe.all (fun c => decide (-512 ≤ c) && decide (c < 512)) && decide (0 ≤ t.dfe) && decide (t.dfe ≤ 96) &&
  t.levels.length == 4 && t.levels.all (fun c => decide (-1024 ≤ c) && decide (c < 1024))

/-- What the LMS of a lane accumulated over the 144 data symbols of each codeword of a flit (R53), for the gain, the 16 FFE taps, the
DFE tap and the four level estimates in that order: the products of error and sample are analogue, so the sums are operands. -/
structure LaneUpdate where
  pos : Nat
  first : List Int
  second : List Int
  deriving DecidableEq, Repr

/-- One sum for each of the 22 adapted values. -/
def LaneUpdate.wf (u : LaneUpdate) : Bool := decide (u.pos < 9) && u.first.length == 22 && u.second.length == 22

/-- The eye of one TSV as a retraining measures it (R189, R190): its group of Table 15.11, its number there, width and centre in % of a UI. -/
structure Eye where
  group : Nat
  tsv : Nat
  width : Nat
  centre : Nat
  deriving DecidableEq, Repr

def Eye.wf (e : Eye) : Bool := decide (e.group < 12) && decide (e.tsv < 64) && decide (e.width ≤ 100) && decide (e.centre ≤ 100)

/-- The fields of a back-channel message fit their bytes; a position is one of the nine (Table 3.4). -/
def BcMsg.wf : BcMsg → Bool
  | .hello rates rate => decide (rates < 256) && decide (rate < 256)
  | .setPreset pos n => decide (pos < 9) && decide (n < 256)
  | .setTaps pos cm2 cm1 c0 cp1 cp2 => decide (pos < 9) && [cm2, cm1, c0, cp1, cp2].all (fun c => decide (-128 ≤ c) && decide (c < 128))
  | .reply pos status => decide (pos < 9) && decide (status < 256)
  | .done mask => decide (mask < 512)
  | .nop => true


/-- The commands and events of the stack: one constructor per row of the operation table, in its order. A command written without an operand that has a default concerns the link as a whole, or reports no measurement and no replay. -/
inductive Instr where
  /-- RESET_N_RELEASE (R439): Release of RESET_N samples ADDR[4:0], starts the time counter and arms the trip comparators. -/
  | resetNRelease (strap : Nat) (failed : List Nat)
  /-- END_OF_POWER_UP (R442): Zero-fill and mirror writes complete, the stack enters ACTIVE and starts link bring-up. -/
  | endOfPowerUp (found : List (List Byte))
  /-- RESET_N_LOW (R440): RESET_N driven low resets the whole stack, AO included, within 1 µs. -/
  | resetNLow
  /-- PWR_OK_FALL (R441): PWR_OK falls while RESET_N is high; lanes idle, channels self-refresh and base-die domains are gated. -/
  | pwrOkFall
  /-- SHUTDOWN (R451): Command 0xC010:01 starts an orderly shutdown, optionally with the shutdown BIST. -/
  | shutdown (src : OpSource)
  /-- SHUTDOWN_READY (R451): Shutdown reaches step 5: lanes idle, domains gated, generated rails removed; 0xC010:02 reads 4. -/
  | shutdownReady
  /-- TERMINATION_SENSE (R74): Periodic 100 µs sensing of far-end termination in DETECT. -/
  | terminationSense (up dn : List Nat)
  /-- HELLO (R78): Back-channel HELLO received; the attempt rate is fixed and PATTERN runs at it. -/
  | hello (ls rates rate : Nat)
  /-- SET_PRESET (R79): Back-channel request for a transmitter preset, checked under R41 and R45 and answered with REPLY. -/
  | setPreset (ls pos preset : Nat)
  /-- SET_TAPS (R79): Back-channel request for five tap coefficients, checked under R41 and R45 and answered with REPLY. -/
  | setTaps (ls pos : Nat) (cm2 cm1 c0 cp1 cp2 : Int)
  /-- REPLY (R79): Back-channel REPLY received with the far transmitter's status for a requested tap set. -/
  | reply (ls pos status : Nat)
  /-- DONE (R79): Back-channel DONE received naming the usable positions; when all are exchanged LOCK begins and lane maps are derived. -/
  | done (ls mask : Nat)
  /-- PATTERN_TIMEOUT (R73): PATTERN exceeds its 20 ms limit and the bring-up attempt fails. -/
  | patternTimeout (ls : Option Nat := none)
  /-- PILOT_LOCK (R81): A lane takes pilot lock after 64 consecutive pilot pairs of correct sign. -/
  | pilotLock (lane : Nat) (freq : Int) (snr : Nat)
  /-- CODEWORD_DECODE (R70): A downstream codeword completes LDPC decoding, converging or failing to converge. -/
  | codewordDecode (ls : Nat) (frames : List (List Int)) (decoded : BitVec 2304) (iters : Nat)
  /-- LANESET_LOCKED (R81): 16 consecutive good codewords lock a receive laneset. -/
  | lanesetLocked (ls : Nat)
  /-- LOCK_TIMEOUT (R82): LOCK exceeds 1 ms; unlocked mapped lanes take their lanesets out of service. -/
  | lockTimeout (ls : Option Nat := none)
  /-- CAPABILITY_BLOCK (R83): A CAPABILITY flit's block is received and compared with earlier blocks. -/
  | capabilityBlock (carrier : Nat) (block : BitVec 512)
  /-- EXCHANGE_TIMEOUT (R85): EXCHANGE exceeds 100 µs and the attempt fails. -/
  | exchangeTimeout (ls : Option Nat := none)
  /-- LINK_DOWN_PAUSE_END (R86): The 100 ms pause after a failed 28 GBd attempt ends and bring-up restarts at the start rate. -/
  | linkDownPauseEnd
  /-- RETRAIN_LINK (R86): Command 0x2200:06 starts a new link bring-up. -/
  | retrainLink (src : OpSource)
  /-- LANE_LOCK_LOST (R52): A lane's pilots match neither pattern for 32 frames; the lane is out of lock and handed to repair. -/
  | laneLockLost (lane : Nat)
  /-- LANE_PAIRING_FAILURE (R72): Pairing errors in 4 consecutive frames fail the lane. -/
  | lanePairingFailure (lane : Nat)
  /-- LANE_WINDOW_END (R89): A 2^20-bit window ends and the lane is judged healthy, degrading or failed. -/
  | laneWindowEnd (lane : Nat)
  /-- WAKE_LOCK_TIMEOUT (R89): A mapped lane without pilot lock 1 µs after wake is failed and the laneset withdrawn. -/
  | wakeLockTimeout (lane : Nat)
  /-- ADC_CALIBRATION (R49): Background ADC offset, gain and skew calibration every 1 ms. -/
  | adcCalibration (lane : Nat := 144) (cal : List (Int × Int × Int) := [])
  /-- DRIFT_HOLD_END (R56): The drift hold expires and adaptation resumes from the frozen values. -/
  | driftHoldEnd (lane : Nat)
  /-- BACKGROUND_RETRAIN_COMPLETE (R59): A spare switch-over completes; the old lane becomes spare and the next waiting request starts. -/
  | backgroundRetrainComplete (ls : Nat) (trained : Trained)
  /-- REPAIR_REQ (R91): Link-control REPAIR_REQ received; the transmitter starts mirroring the stripe lane on the spare. -/
  | repairReq (ls stripe pos : Nat)
  /-- MIRROR_ON (R91): Link-control MIRROR_ON received; the receiver trains the spare on mirrored symbols. -/
  | mirrorOn (ls stripe pos count : Nat)
  /-- SPARE_TRAINED (R91): The spare's receiver finishes training and SWITCH is sent naming a codeword count. -/
  | spareTrained (ls : Nat) (trained : Trained)
  /-- SWITCH (R91): Link-control SWITCH received naming the codeword of the switch. -/
  | switch (ls stripe pos count : Nat)
  /-- SPARE_SWITCH_OVER (R91): The named codeword count is reached and the stripe lane is taken from the spare. -/
  | spareSwitchOver (ls : Nat)
  /-- REPAIR_DONE (R91): Link-control REPAIR_DONE received; the old position becomes an idle spare. -/
  | repairDone (ls stripe pos : Nat)
  /-- LANESET_WITHDRAWAL (R93): A laneset is withdrawn, its unacknowledged flits replayed on the port's other lanesets, and retrained. -/
  | lanesetWithdrawal (ls : Nat) (failed : Option Nat)
  /-- TRAIN (R93): Link-control TRAIN carries a back-channel message during a withdrawal; wakes a parked laneset. -/
  | train (ls : Nat) (msg : BcMsg)
  /-- REJOIN (R93): Link-control REJOIN returns a withdrawn laneset to flit assignment. -/
  | rejoin (ls : Nat)
  /-- TEST_START (R88): Link-control TEST_START asks the far end to send a test pattern. -/
  | testStart (ls pattern : Nat)
  /-- TEST_END (R88): Link-control TEST_END ends a pattern test. -/
  | testEnd (ls : Nat)
  /-- REFUSE (R88): Link-control REFUSE from the host refuses a pattern test; 0x2233 completes NOT_READY. -/
  | refuse (ls : Nat)
  /-- PATTERN_TEST (R88): Command 0x2233 withdraws a laneset and starts or ends a PRBS pattern test. -/
  | patternTest (src : OpSource)
  /-- REPAIR_REQUEST (R105): Command 0x2221 requests repair of a lane of a laneset. -/
  | repairRequest (src : OpSource)
  /-- CLEAR_CHECKER_COUNTERS (R87): Command 0x2234 clears both pattern checker counters of a lane. -/
  | clearCheckerCounters (src : OpSource)
  /-- CHECKER_COUNTER_READ (R87): A read of a checker counter latches both counters. -/
  | checkerCounterRead (src : OpSource) (bits errors : Nat)
  /-- CHECKER_SYNC (R87): A pattern checker synchronises when 64 bits agree. -/
  | checkerSync (lane : Nat)
  /-- CHECKER_SYNC_LOSS (R87): 32 errors within 256 bits lose checker synchronisation. -/
  | checkerSyncLoss (lane bits errors : Nat)
  /-- LANESET_WAKE (R99): The sender wakes a parked laneset with the preamble, wake word and sync flits. -/
  | lanesetWake (ls : Nat)
  /-- WAKE_DETECTOR_FIRE (R100): A lane detector fires on a run of alternating symbols and opens an acquisition window. -/
  | wakeDetectorFire (lane : Nat) (run : Nat := 16) (last : Nat := 0)
  /-- ACQUISITION_WINDOW_CLOSE (R100): An acquisition window closes without recognition, a false reception is counted. -/
  | acquisitionWindowClose (lane : Nat)
  /-- WAKE_WORD_RECOGNISED (R100): The correlator recognises the wake word on a lane; on five lanes the laneset wakes. -/
  | wakeWordRecognised (lane : Nat) (signs : List Bool := []) (last : Nat := 0)
  /-- WAKE_ACK_TIMEOUT (R101): No flit acknowledged within 1 µs of a wake; the wake sequence is repeated. -/
  | wakeAckTimeout (ls : Nat)
  /-- FLIT_RECEIVE (R110): A flit is received on an in-service laneset and handled by its CRC, ACK and type. -/
  | flitReceive (ls : Nat) (given : Option (List Byte × Bool)) (updates : List LaneUpdate) (began : Nat)
  /-- REPLAY_REQ (R133): A received REPLAY_REQ resends the laneset's retry-buffer entries after LAST_SEQ. -/
  | replayReq (ls : Nat) (last : Option Nat)
  /-- REPLAY_REQ_REPEAT (R134): No intact flit within 200 ns; the REPLAY_REQ is sent again. -/
  | replayReqRepeat (ls : Nat)
  /-- REPEATED_REPLAY_WITHDRAWAL (R134): Failed flits reach the replay repeat limit and the laneset is withdrawn. -/
  | repeatedReplayWithdrawal (ls : Nat)
  /-- QUIET_IDLE_ENTER (R135): After the entry delay of idle flits the transmitter enters quiet idle at an even frame. -/
  | quietIdleEnter (ls : Nat)
  /-- QUIET_IDLE_EXIT (R135): Quiet idle ends with the first non-quiet even frame carrying a flit. -/
  | quietIdleExit (ls : Nat)
  /-- LANESET_PARK (R136): A transmitter stops assigning DATA flits to a laneset it will park. -/
  | lanesetPark (ls : Nat)
  /-- PARK_FLITS_SEND (R136): Once every flit is acknowledged two PARK flits are sent and electrical idle follows. -/
  | parkFlitsSend (ls : Nat)
  /-- PARK_FLIT (R136): A received PARK flit makes the following electrical idle count as parking. -/
  | parkFlit (ls : Nat)
  /-- RD_REQUEST (R113): A host RD slot is taken for execution: checks, route lookup, admission. -/
  | rdRequest (port : Nat)
  /-- WR_REQUEST (R113): A host posted WR slot with its data is taken for execution. -/
  | wrRequest (port : Nat)
  /-- WRC_REQUEST (R113): A host WRC slot is taken for execution and completes at visibility. -/
  | wrcRequest (port : Nat)
  /-- ATOM (R117): A host atomic slot is taken for execution and sent to the line's read-modify-write unit. -/
  | atom (port : Nat)
  /-- RMW_ATOMIC (R118): The read-modify-write unit applies an atomic in its turn and returns ARSP. -/
  | rmwAtomic (ch : Nat)
  /-- FENCE (R119): A FENCE slot orders the port's requests, and jobs with JOBS = 1. -/
  | fence (port : Nat)
  /-- FENCE_COMPLETE (R119): All earlier work of the port completes and the FENCE completion is sent. -/
  | fenceComplete (port : Nat)
  /-- RELEASE (R120): A RELEASE marks a range of parcels released. -/
  | release (port : Nat)
  /-- READ_RESPONSE (R122): Read lines return and are sent in RSP entries. -/
  | readResponse (pc : Nat)
  /-- SHARE_WINDOW_END (R208): A share window ends and classes below their minimum share are promoted. -/
  | shareWindowEnd
  /-- ADMISSION_QUEUE_RELEASE (R210): The outstanding count falls and the oldest queued transaction of the class is admitted. -/
  | admissionQueueRelease (track cls : Nat)
  /-- ARBITER_DECISION (R213): A grant path grants the oldest transfer of the highest occupied input. -/
  | arbiterDecision (pc : Nat)
  /-- GRANT_CUT (R218): A transfer at input 14 or 15 cuts a lower grant between lines. -/
  | grantCut (pc : Nat)
  /-- WRITE_QUEUE_ENTRY (R216): A write transfer enters its pseudo-channel's write queue and becomes visible. -/
  | writeQueueEntry (pc : Nat)
  /-- WRITE_DRAIN (R217): A drain transfer moves up to 4 lines from the write queue to the array. -/
  | writeDrain (pc : Nat)
  /-- ROUTE_TABLE_REBUILD_COMPLETE (R150): The SRAM bank is rewritten from the mirror and the rebuild counted. -/
  | routeTableRebuildComplete
  /-- JOURNAL_RECORD_APPLY (R149): The placement engine applies a journal record to both mirror images. -/
  | journalRecordApply
  /-- SLOT_ZEROING (R153): A FREE_DIRTY slot is zeroed in the background and becomes FREE_ZEROED. -/
  | slotZeroing (track : Nat)
  /-- PARCEL_RECREATE_RESUME (R154): A write waiting for a zeroed slot resumes when zeroing or an unpark provides one. -/
  | parcelRecreateResume
  /-- WARM_UP_END (R156): Warm-up time and access count are both met and moves may start. -/
  | warmUpEnd
  /-- HEAT_EPOCH (R157): At the epoch boundary every heat counter is halved. -/
  | heatEpoch
  /-- MOVE_START (R159): A queued move takes a destination slot, marks the entry moving and clears the dirty bitmap. -/
  | moveStart
  /-- MOVE_COPY_DONE (R159): The copy of lines 0 to 1,023 ends and recopy begins. -/
  | moveCopyDone (parcel : Nat) (replayed : Bool := false)
  /-- MOVE_RECOPY_PASS (R159): A recopy pass ends; another follows or the swap begins. -/
  | moveRecopyPass (parcel : Nat) (replayed : Bool := false)
  /-- MOVE_SWAP (R159): Accesses are held, dirty lines recopied, the new entry journaled and written, and the hold released. -/
  | moveSwap (parcel : Nat) (replayed : Bool := false)
  /-- MOVE_PROGRESS_TIMEOUT (R160): A move without progress for the timeout is abandoned. -/
  | moveProgressTimeout (parcel : Nat)
  /-- TRACK_GATE (R165): A compacted track holds no parcel and its array areas are gated and slots marked PARKED. -/
  | trackGate (track : Nat)
  /-- TRACK_UNPARK (R166): A parked track is powered again and zero-filled. -/
  | trackUnpark (track : Nat)
  /-- TRACK_UNPARK_COMPLETE (R166): Zero-fill of an unparked track ends and its slots become FREE_ZEROED. -/
  | trackUnparkComplete (track : Nat)
  /-- PIN (R167): Command 0x4001:04 pins a run of parcels. -/
  | pin (src : OpSource)
  /-- UNPIN (R167): Command 0x4001:05 unpins a run of parcels. -/
  | unpin (src : OpSource)
  /-- ARRAY_RESET (R18): Command 0x1110:03 resets a die's logic through self-refresh and retraining. -/
  | arrayReset (src : OpSource)
  /-- ARRAY_RESET_COMPLETE (R18): The die leaves self-refresh and its channels resume. -/
  | arrayResetComplete (die : Nat) (eyes : List (List Eye) := [])
  /-- ACT (R183): Die command opening a row; draws from the neighbour refresh LFSR. -/
  | act (pc bank row : Nat) (bad : Bool)
  /-- PRE (R170): Die command closing the open row of one bank. -/
  | pre (pc bank : Nat) (bad : Bool)
  /-- PREA (R170): Die command closing every open row of a pseudo-channel. -/
  | prea (pc : Nat) (bad : Bool)
  /-- REFPB (R177): Die command refreshing the next 8 rows of the next bank in rotation. -/
  | refpb (pc : Nat) (bad : Bool)
  /-- TRR (R184): Die command refreshing one named row as targeted refresh. -/
  | trr (pc bank row : Nat) (bad : Bool)
  /-- SRE (R182): Die command entering self-refresh with the owed count and band floor. -/
  | sre (pc : Nat) (bad : Bool)
  /-- SRX (R182): Die command leaving self-refresh. -/
  | srx (pc : Nat) (bad : Bool)
  /-- MRW (R170): Die command writing a mode register. -/
  | mrw (pc reg value : Nat) (bad : Bool)
  /-- RESYNC (R186): Die command ending an alert. -/
  | resync (ch : Nat)
  /-- RD (R171): Die column command reading one line; bit 72·b + s of `noise` is what TSV s adds in beat b, the DQ TSVs first, then the CB TSVs (R282). -/
  | rd (pc bank col : Nat) (noise : BitVec 576) (bad : Bool)
  /-- WR (R185): Die column command writing one line, checked by write CRC; `noise` as for RD, and above it what the WCRC TSV adds. -/
  | wr (pc bank col : Nat) (bad : Bool) (noise : BitVec 592)
  /-- RDA (R172): Die column command reading one line and closing the row. -/
  | rda (pc bank col : Nat) (noise : BitVec 576) (bad : Bool)
  /-- WRA (R172): Die column command writing one line and closing the row. -/
  | wra (pc bank col : Nat) (bad : Bool) (noise : BitVec 592)
  /-- TRAIN_COMMAND (R189): Die column command running one training burst. -/
  | trainCommand (pc : Nat) (bad : Bool)
  /-- ALERT (R186): An alert frame makes the controller roll back, send RESYNC and replay its buffer. -/
  | alert (ch : Nat) (again : Bool)
  /-- RETRY_BUFFER_RELEASE (R186): A command's alert window closes without alert and it leaves the retry buffer. -/
  | retryBufferRelease (ch : Nat)
  /-- REPLAY_LIMIT (R187): A command fails 4 times; the channel is retrained, or the gear lowered, or the channel failed. -/
  | replayLimit (ch : Nat) (eyes : List Eye) (again : Bool := false)
  /-- ROW_IDLE_CLOSE (R172): A row unused for the idle time is closed. -/
  | rowIdleClose (pc bank : Nat)
  /-- REFRESH_DUE (R178): A REFPB falls due and the owed count rises, or emergency refresh is raised at the limit. -/
  | refreshDue (pc : Nat)
  /-- TRR_ESCALATION (R184): A queued targeted row waits past the escalation time and moves to input 14. -/
  | trrEscalation (pc : Nat)
  /-- RETRAINING_WINDOW (R189): A channel's periodic retraining window opens and the TSVs are retrained. -/
  | retrainingWindow (ch : Nat) (eyes : List Eye)
  /-- RETRAINING_WINDOW_ESCALATION (R189): A retraining window waiting 10 ms enters input 14. -/
  | retrainingWindowEscalation (ch : Nat)
  /-- GEAR_CHANGE (R191): A track changes gear through self-refresh and timing-set swap. -/
  | gearChange (track : Nat)
  /-- GEAR_CHANGE_COMPLETE (R191): Retraining at the new gear ends and the track resumes. -/
  | gearChangeComplete (track : Nat) (eyes : List (List Eye) := [])
  /-- SELF_REFRESH_RATE_STEP (R193): A die comparator crossing in self-refresh changes the self-refresh rate. -/
  | selfRefreshRateStep (die step : Nat)
  /-- PRIORITY_SCRUB_LINE (R196): Priority scrub reads and checks the next line of a retention-suspect bank. -/
  | priorityScrubLine (pc : Nat)
  /-- WRITE_BACK (R285): A corrected or poisoned line enters the read-modify-write unit and the write queue, or is dropped. -/
  | writeBack (ch : Nat)
  /-- PATROL_SCRUB_ROW (R291): Patrol scrub reads the position that has fallen due and acts by Table 10.4. -/
  | patrolScrubRow (pc : Nat) (upsets : List (Nat × BitVec 576))
  /-- HARD_ERROR_CHECK (R293): After a write-back drains, scrub re-reads the line and detects a hard error. -/
  | hardErrorCheck (pc : Nat) (noise : BitVec 576)
  /-- SCRUB_LATE (R294): A pass has not ended at the end of its interval and is counted late. -/
  | scrubLate (pc : Nat)
  /-- INJECT_STORED_LINE (R299): Command 0x9B00:03 inverts check symbols of a stored line. -/
  | injectStoredLine (src : OpSource)
  /-- INJECT_FLIT_CRC (R298): Command 0x9B00:04 inverts the CRC of the next DATA flit on a laneset. -/
  | injectFlitCrc (src : OpSource)
  /-- INJECT_WRITE_CRC (R298): Command 0x9B00:05 inverts the WCRC of the next write burst on a channel. -/
  | injectWriteCrc (src : OpSource)
  /-- INJECT_COMMAND_PARITY (R298): Command 0x9B00:06 inverts the parity of the next command on a channel. -/
  | injectCommandParity (src : OpSource)
  /-- INJECT_OUVEND_CRC (R298): Command 0x9B00:08 inverts the CRC of the next Ouvend reply. -/
  | injectOuvendCrc (src : OpSource)
  /-- INJECT_ROUTE_ENTRY (R299): Command 0x9B00:09 inverts check bits of a route entry. -/
  | injectRouteEntry (src : OpSource)
  /-- COPY (R231): COPY job descriptor: admitted, split by placement and run. -/
  | copy (port : Nat)
  /-- FILL (R231): FILL job descriptor writing a pattern over W1. -/
  | fill (port : Nat)
  /-- GATHER (R231): GATHER job descriptor. -/
  | gather (port : Nat)
  /-- SCATTER (R231): SCATTER job descriptor. -/
  | scatter (port : Nat)
  /-- REDUCE (R232): REDUCE job descriptor in the fixed reduction order. -/
  | reduce (port : Nat)
  /-- SCAN (R231): SCAN job descriptor writing matching indices. -/
  | scan (port : Nat)
  /-- HISTOGRAM (R231): HISTOGRAM job descriptor. -/
  | histogram (port : Nat)
  /-- ATOMIC_BATCH (R246): ATOMIC-BATCH job descriptor with its position journal. -/
  | atomicBatch (port : Nat)
  /-- CHECKSUM (R231): CHECKSUM job descriptor computing CRC-32C. -/
  | checksum (port : Nat)
  /-- KERNEL (R237): KERNEL job descriptor bound to the active kernel version and run on the home engine. -/
  | kernel (port : Nat)
  /-- ABORT (R240): ABORT job descriptor stops a job before its commit point. -/
  | abort (port : Nat)
  /-- ABORT_JOB (R240): Command 0x6006 aborts a job of a port. -/
  | abortJob (src : OpSource)
  /-- PART_START (R238): A free engine takes the highest-class, oldest part from its queue. -/
  | partStart (eng : Nat)
  /-- ENGINE_DOMAIN_ON (R237): A gated ENG domain powers up and its waiting part is placed. -/
  | engineDomainOn (track : Nat)
  /-- PARTIAL_RESULT (R238): A non-home part's partial result reaches the home engine over the Ringroad. -/
  | partialResult (eng : Nat)
  /-- COMMIT_GRANT (R239): A part asks to issue its last write and the scheduler grants the commit point. -/
  | commitGrant (eng : Nat)
  /-- JOB_COMPLETE (R234): The job's final write is visible; completion record and JCPL sent and the slot freed. -/
  | jobComplete (port job : Nat)
  /-- SPECULATIVE_READ (R243): A stream unit runs ahead and issues a speculative read. -/
  | speculativeRead (eng su : Nat)
  /-- ENGINE_FAULT (R245): An engine resets on its own fault; parts are re-placed, resumed or ended. -/
  | engineFault (eng : Nat)
  /-- RESET_ENGINE (R245): Command 0x6015 resets an engine. -/
  | resetEngine (src : OpSource)
  /-- ENGINE_WATCHDOG (R278): A part retires no instruction for the watchdog interval and the engine resets. -/
  | engineWatchdog (eng : Nat)
  /-- JOB_TIMEOUT (R253): A job exceeds the run time limit and ends with TIMEOUT. -/
  | jobTimeout (port job : Nat)
  /-- BEGIN_KERNEL_LOAD (R241): Command 0x6100:03 reserves a physical slot for a kernel number. -/
  | beginKernelLoad (src : OpSource)
  /-- KERNEL_IMAGE_APPEND (R241): Write of 0x6100:02 appends image bytes. -/
  | kernelImageAppend (src : OpSource)
  /-- ACTIVATE_KERNEL (R241): Command 0x6100:04 checks the image CRC and makes it the active version. -/
  | activateKernel (src : OpSource)
  /-- RETIRE_KERNEL (R242): Command 0x6105 retires a kernel number. -/
  | retireKernel (src : OpSource)
  /-- NOP (R261): Instruction doing nothing. -/
  | kNop (eng : Nat)
  /-- END (R276): Instruction ending the kernel with OK after the commit grant. -/
  | kEnd (eng : Nat)
  /-- ENDP (R276): Instruction ending the kernel with POISONED after the commit grant. -/
  | kEndp (eng : Nat)
  /-- TRAP (R274): Instruction trapping with a user code. -/
  | kTrap (eng : Nat)
  /-- KERNEL_FENCE (R261): Instruction waiting until every write of the part is visible. -/
  | kFence (eng : Nat)
  /-- MILESTONE (R261): Instruction asserting the Milestone trigger. -/
  | kMilestone (eng : Nat)
  /-- TIME (R261): Instruction reading the stack time counter. -/
  | kTime (eng : Nat)
  /-- JR (R261): Instruction jumping to a register address. -/
  | kJr (eng : Nat)
  /-- JALR (R261): Instruction jumping to a register address and linking. -/
  | kJalr (eng : Nat)
  /-- ADD (R262): Integer add, scalar, immediate or vector lanes. -/
  | kAdd (eng : Nat)
  /-- SUB (R262): Integer subtract. -/
  | kSub (eng : Nat)
  /-- MUL (R262): Integer multiply, low 64 bits. -/
  | kMul (eng : Nat)
  /-- MULHU (R262): Unsigned multiply, high 64 bits. -/
  | kMulhu (eng : Nat)
  /-- MULHS (R262): Signed multiply, high 64 bits. -/
  | kMulhs (eng : Nat)
  /-- DIVU (R262): Unsigned divide. -/
  | kDivu (eng : Nat)
  /-- DIVS (R262): Signed divide. -/
  | kDivs (eng : Nat)
  /-- REMU (R262): Unsigned remainder. -/
  | kRemu (eng : Nat)
  /-- REMS (R262): Signed remainder. -/
  | kRems (eng : Nat)
  /-- AND (R261): Bitwise AND. -/
  | kAnd (eng : Nat)
  /-- OR (R261): Bitwise OR. -/
  | kOr (eng : Nat)
  /-- XOR (R261): Bitwise XOR. -/
  | kXor (eng : Nat)
  /-- SLL (R261): Shift left logical. -/
  | kSll (eng : Nat)
  /-- SRL (R261): Shift right logical. -/
  | kSrl (eng : Nat)
  /-- SRA (R261): Shift right arithmetic. -/
  | kSra (eng : Nat)
  /-- MINS (R261): Signed minimum. -/
  | kMins (eng : Nat)
  /-- MAXS (R261): Signed maximum. -/
  | kMaxs (eng : Nat)
  /-- MINU (R261): Unsigned minimum. -/
  | kMinu (eng : Nat)
  /-- MAXU (R261): Unsigned maximum. -/
  | kMaxu (eng : Nat)
  /-- MOV (R261): Scalar move of the second operand. -/
  | kMov (eng : Nat)
  /-- POPC (R261): Population count. -/
  | kPopc (eng : Nat)
  /-- CLZ (R261): Count leading zeros. -/
  | kClz (eng : Nat)
  /-- EQ (R261): Compare equal to predicate. -/
  | kEq (eng : Nat)
  /-- NE (R261): Compare not equal to predicate. -/
  | kNe (eng : Nat)
  /-- LTS (R261): Signed less-than compare. -/
  | kLts (eng : Nat)
  /-- LES (R261): Signed less-or-equal compare. -/
  | kLes (eng : Nat)
  /-- LTU (R261): Unsigned less-than compare. -/
  | kLtu (eng : Nat)
  /-- LEU (R261): Unsigned less-or-equal compare. -/
  | kLeu (eng : Nat)
  /-- FEQ (R261): Floating-point equal compare. -/
  | kFeq (eng : Nat)
  /-- FLT (R261): Floating-point less-than compare. -/
  | kFlt (eng : Nat)
  /-- FLE (R261): Floating-point less-or-equal compare. -/
  | kFle (eng : Nat)
  /-- FADD (R263): Floating-point add, scalar or vector. -/
  | kFadd (eng : Nat)
  /-- FSUB (R263): Floating-point subtract. -/
  | kFsub (eng : Nat)
  /-- FMUL (R263): Floating-point multiply. -/
  | kFmul (eng : Nat)
  /-- FDIV (R263): Floating-point divide. -/
  | kFdiv (eng : Nat)
  /-- FMA (R263): Fused multiply-add. -/
  | kFma (eng : Nat)
  /-- FMIN (R263): Floating-point minimum. -/
  | kFmin (eng : Nat)
  /-- FMAX (R263): Floating-point maximum. -/
  | kFmax (eng : Nat)
  /-- FSQRT (R263): Floating-point square root. -/
  | kFsqrt (eng : Nat)
  /-- CVTI (R263): Signed integer to float conversion. -/
  | kCvti (eng : Nat)
  /-- CVTF (R263): Float to signed integer conversion, toward zero, saturating. -/
  | kCvtf (eng : Nat)
  /-- CVTW (R261): Conversion between FP32 and FP64. -/
  | kCvtw (eng : Nat)
  /-- BCST (R261): Broadcast a scalar to every vector lane. -/
  | kBcst (eng : Nat)
  /-- EXT (R261): Extract a vector lane to a scalar. -/
  | kExt (eng : Nat)
  /-- INS (R261): Insert a scalar into a vector lane. -/
  | kIns (eng : Nat)
  /-- RSUM (R263): Horizontal sum over enabled lanes. -/
  | kRsum (eng : Nat)
  /-- RMIN (R263): Horizontal minimum over enabled lanes. -/
  | kRmin (eng : Nat)
  /-- RMAX (R263): Horizontal maximum over enabled lanes. -/
  | kRmax (eng : Nat)
  /-- VMOV (R273): Vector copy including the poison tag. -/
  | kVmov (eng : Nat)
  /-- PAND (R261): Predicate AND. -/
  | kPand (eng : Nat)
  /-- POR (R261): Predicate OR. -/
  | kPor (eng : Nat)
  /-- PXOR (R261): Predicate XOR. -/
  | kPxor (eng : Nat)
  /-- PANDN (R261): Predicate AND NOT. -/
  | kPandn (eng : Nat)
  /-- PNOT (R261): Predicate NOT. -/
  | kPnot (eng : Nat)
  /-- PANY (R261): Test whether any predicate bit is set. -/
  | kPany (eng : Nat)
  /-- PCNT (R261): Count predicate bits set. -/
  | kPcnt (eng : Nat)
  /-- PFROM (R261): Load a predicate from a scalar. -/
  | kPfrom (eng : Nat)
  /-- PTO (R261): Copy a predicate to a scalar. -/
  | kPto (eng : Nat)
  /-- VTAG (R273): Test a vector register's poison tag. -/
  | kVtag (eng : Nat)
  /-- STAG (R273): Test a scalar register's poison tag. -/
  | kStag (eng : Nat)
  /-- SNEXT (R265): Read the next line of a sequential stream into a vector register. -/
  | kSnext (eng : Nat)
  /-- SGET (R265): Read a line at an offset of a random stream. -/
  | kSget (eng : Nat)
  /-- SPUT (R268): Write the next line of a sequential write stream, holding it. -/
  | kSput (eng : Nat)
  /-- SSET (R265): Write a line at an offset of a read-write stream. -/
  | kSset (eng : Nat)
  /-- SCLOSE (R266): Close a stream unit. -/
  | kSclose (eng : Nat)
  /-- SPOS (R261): Read a stream's next offset. -/
  | kSpos (eng : Nat)
  /-- SCRATCH_LOAD (R271): Load from scratch into a register. -/
  | kScratchLoad (eng : Nat)
  /-- SCRATCH_STORE (R271): Store a register to scratch. -/
  | kScratchStore (eng : Nat)
  /-- SATOM (R269): Engine atomic update on a window element. -/
  | kSatom (eng : Nat)
  /-- LOCK (R270): Take a line lock in ascending order. -/
  | kLock (eng : Nat)
  /-- UNLOCK (R270): Free one line lock. -/
  | kUnlock (eng : Nat)
  /-- UNLOCKA (R270): Free all line locks. -/
  | kUnlocka (eng : Nat)
  /-- LI (R261): Load an immediate into a scalar. -/
  | kLi (eng : Nat)
  /-- LIH (R261): Load an immediate into the high half of a scalar. -/
  | kLih (eng : Nat)
  /-- VBCSTI_W (R261): Broadcast an immediate to every 32-bit lane. -/
  | kVbcstiW (eng : Nat)
  /-- VBCSTI_D (R261): Broadcast an immediate to every 64-bit lane. -/
  | kVbcstiD (eng : Nat)
  /-- BR (R261): PC-relative branch. -/
  | kBr (eng : Nat)
  /-- CALL (R261): PC-relative call setting a link register. -/
  | kCall (eng : Nat)
  /-- SOPEN (R264): Open a stream unit on a window in a mode. -/
  | kSopen (eng : Nat)
  /-- REGULATOR_FAULT (R305): A generated rail outside tolerance for 10 µs raises REGULATOR_FAULT. -/
  | regulatorFault (rail track : Nat)
  /-- CLOCK_CHECK (R310): Millisecond check of every clock against XCK. -/
  | clockCheck (locked inRange : Bool) (offset : Int)
  /-- XCK_STOP (R310): XCK stopped for 10 µs; PMU and AO clocks switch to the ring oscillator. -/
  | xckStop
  /-- XCK_RESUME (R401): XCK returns and the time counter advances by 20 per cycle again. -/
  | xckResume
  /-- IDLE_ENTRY (R311): No activity for the idle delay moves the stack to IDLE. -/
  | idleEntry
  /-- ENGINE_GATE (R311): ENGt goes OFF after its engines run no part for the gating delay. -/
  | engineGate (track : Nat)
  /-- GATING_BUDGET_TICK (R308): Each second every domain's gating budget gains one transition. -/
  | gatingBudgetTick
  /-- IDLE_LANESET_PARK (R312): After the idle park delay upstream lanesets but the last of each port are parked. -/
  | idleLanesetPark
  /-- UNPARK_CALL (R312): After the unpark delay in ACTIVE, power management calls for unparking. -/
  | unparkCall
  /-- POWER_MEASUREMENT (R313): Every 100 µs the power mean is compared with the cap and one cap action taken or undone. -/
  | powerMeasurement (watts volts vddqc vpp : List Nat)
  /-- SLEEP_REQUEST (R316): Command 0x7000:03 starts the sleep query phase. -/
  | sleepRequest (src : OpSource)
  /-- AUTOMATIC_SLEEP (R316): The stack requests sleep after the automatic sleep delay in IDLE. -/
  | automaticSleep
  /-- SLEEP_VOTE_TIMEOUT (R316): A block that has not voted in 20 µs refuses. -/
  | sleepVoteTimeout (block : Nat)
  /-- SLEEP_STOP_STEP (R316): A sleep block completes its stop step and the next block begins. -/
  | sleepStopStep (sreFails : Option Nat := none)
  /-- SLEEP_LINK_PARK_TIMEOUT (R317): A downstream laneset not parked 100 µs after the last PARK makes LINK refuse. -/
  | sleepLinkParkTimeout
  /-- WAKE0 (R320): The WAKE0 pin reads active on two AO cycles. -/
  | wake0 (high : Bool)
  /-- WAKE1 (R320): The WAKE1 pin reads active on two AO cycles. -/
  | wake1 (high : Bool)
  /-- WAKE_COMPLETE (R322): The wake completes, the stack enters ACTIVE and the held Ouvend frame executes. -/
  | wakeComplete (lost : List (Nat × Nat × BitVec 576))
  /-- SENSOR_SAMPLE (R327): A sensor gate ends and readings are taken. -/
  | sensorSample (sensors : List (Nat × Nat))
  /-- SENSOR_FAILED (R328): A sensor disagreeing for 10 ms, or out of range, is failed. -/
  | sensorFailed (sensor : Nat)
  /-- DISTRUST_EVALUATION (R333): Every 1 ms the stewards evaluate the thermal model for every die. -/
  | distrustEvaluation
  /-- DISTRUST_ARM (R334): Distrust is armed 2 s after power-up or a trip restart. -/
  | distrustArm
  /-- GEAR_CEILING_STEP (R331): The thermal gear ceiling drops every 10 ms or rises every 100 ms. -/
  | gearCeilingStep (track : Nat)
  /-- COOLANT_WARM (R348): Outlet rise above threshold for 1 s raises COOLANT_WARM. -/
  | coolantWarm (slice : Nat)
  /-- TRIP_COMPARATOR (R337): A first-stage comparator fires and the hardware trip sequence runs. -/
  | tripComparator (sensor : Nat)
  /-- SECOND_STAGE_TRIP (R340): A second-stage comparator fires and DRAM power is removed. -/
  | secondStageTrip (sensor : Nat)
  /-- DRAM_MONITOR_WINDOW (R340): Once a second the rails are powered for 2 ms to read core sensors. -/
  | dramMonitorWindow (sensors : List (Nat × Nat))
  /-- TRIP_RESTART (R341): Comparators released and sensors cool for 100 ms; the restart sequence runs. -/
  | tripRestart (eyes : List (List Eye) := [])
  /-- PREAMBLE_DETECT (R358): The Ouvend detector fires on a preamble run and opens a search window. -/
  | preambleDetect (amplitude : Nat) (delimiter : Bool) (reference : Nat := amplitude)
  /-- FALSE_DETECTION (R358): A search window closes without a start delimiter. -/
  | falseDetection
  /-- OUVEND_FRAME_ERROR (R357): A frame with bad CRC, length, type or source is discarded and counted. -/
  | ouvendFrameError (frame : List Byte)
  /-- POLL (R361): A POLL is answered with a held final answer or a STATUS frame. -/
  | poll (dest : Nat)
  /-- BEACON (R402): A BEACON synchronises the stack time counter. -/
  | beacon (time : Nat)
  /-- GET (R366): Dictionary GET of one object, aggregated over a group. -/
  | get (src : OpSource)
  /-- SET (R366): Dictionary SET of an object without behaviour of its own, or its shadow. -/
  | set (src : OpSource)
  /-- LIST (R368): Dictionary LIST describing objects. -/
  | list (src : OpSource)
  /-- BLOCK_GET (R366): Dictionary BLOCK-GET of consecutive subindices. -/
  | blockGet (src : OpSource)
  /-- FINAL_ANSWER (R370): A PENDING operation completes and its final answer is held or sent. -/
  | finalAnswer (path : Nat)
  /-- BEGIN_LOADING (R379): Command 0x1010:02 opens a LOADING session. -/
  | beginLoading (src : OpSource)
  /-- COMMIT (R381): Command 0x1010:03 checks and installs all shadows. -/
  | commit (src : OpSource)
  /-- DISCARD (R379): Command 0x1010:04 drops every shadow. -/
  | discard (src : OpSource)
  /-- LOADING_ABANDONED (R380): The LOADING owner is silent for the idle timeout and the session is discarded. -/
  | loadingAbandoned
  /-- FORCE (R391): Command 0x8000:09 forces one occurrence of the selected source. -/
  | force (src : OpSource)
  /-- CLEAR (R390): Command 0x8000:0A clears STATUS and latch of an inactive source. -/
  | clear (src : OpSource)
  /-- CLEAR_OCCURRENCES (R384): Command 0x8000:0B clears a source's COUNT. -/
  | clearOccurrences (src : OpSource)
  /-- CLEAR_ALL_INACTIVE (R390): Command 0x8001:04 clears every inactive source. -/
  | clearAllInactive (src : OpSource)
  /-- EMPTY_FIRST_AND_LAST_FAULT (R394): Command 0x8012:04 empties the first and last fault registers. -/
  | emptyFirstAndLastFault (src : OpSource)
  /-- ENTER_GREY_MODE (R405): Command 0x8300:02 enters Grey mode. -/
  | enterGreyMode (src : OpSource)
  /-- RESUME (R407): Command 0x8300:03 leaves Grey mode when allowed. -/
  | resume (src : OpSource)
  /-- ARM (R396): Command 0x9000:01 arms the Milestone trigger. -/
  | arm (src : OpSource)
  /-- TRIGGER (R396): Command 0x9000:08 is a dictionary Milestone trigger event. -/
  | trigger (src : OpSource)
  /-- MILESTONE_BALL_EDGE (R397): A falling edge on the MILESTONE ball fires an armed trigger. -/
  | milestoneBallEdge
  /-- MILESTONE_RELEASE (R397): After 100 ns the stack releases the MILESTONE ball. -/
  | milestoneRelease
  /-- SNAPSHOT_READ (R399): GET of 0x9020:02 returns the latched value of the named object. -/
  | snapshotRead (src : OpSource)
  /-- STEWARD_MISMATCH (R403): A lockstep mismatch restarts the stewards. -/
  | stewardMismatch
  /-- STEWARD_WATCHDOG (R403): No steward instruction for 1 ms restarts the stewards. -/
  | stewardWatchdog
  /-- STEWARD_RESTART_COMPLETE (R403): The stewards finish their restart and resume the dictionary. -/
  | stewardRestartComplete
  /-- FUSE_WORD_READ (R414): GET of 0xA003:02 reads a fuse word, from the marginal cache if held. -/
  | fuseWordRead (src : OpSource)
  /-- FUSE_WORD_STRICT_READ (R414): GET of 0xA003:03 reads a fuse word at the strict reference. -/
  | fuseWordStrictRead (src : OpSource)
  /-- BURN_WORD (R417): Command 0xA004:02 burns a fuse word with verify and reburn. -/
  | burnWord (src : OpSource) (failing : Nat)
  /-- FINALISE_REGION (R416): Command 0xA004:03 computes and burns a region digest. -/
  | finaliseRegion (src : OpSource)
  /-- CALIBRATION_OVERRIDE (R424): Write of 0xA020:04 loads one calibration record into the shadows. -/
  | calibrationOverride (src : OpSource)
  /-- APPLY_CALIBRATION (R425): Command 0xA020:03 waits for a quiescent point to apply the shadows. -/
  | applyCalibration (src : OpSource)
  /-- CALIBRATION_QUIESCENT_POINT (R425): A quiescent point is reached and changed shadows take effect. -/
  | calibrationQuiescentPoint
  /-- APPLY_TIMEOUT (R425): No quiescent point within 1 ms; APPLY answers NOT_READY. -/
  | applyTimeout
  /-- LIFECYCLE_TRANSITION (R427): Command 0xA040:01 burns a lifecycle group after authorisation where required. -/
  | lifecycleTransition (src : OpSource)
  /-- INTERCONNECT_REPORT_WRITE (R433): SET of 0xB000:01 in the report window appends the report and checks it when whole. -/
  | interconnectReportWrite (src : OpSource)
  /-- PROCEED_WITHOUT_REPORT (R433): Command 0xB000:03 closes the report window. -/
  | proceedWithoutReport (src : OpSource)
  /-- REPORT_WINDOW_TIMEOUT (R433): The report window closes 20 ms after opening. -/
  | reportWindowTimeout
  /-- RUN_SHUTDOWN_BIST (R435): Command 0xB010:01 runs the shutdown BIST. -/
  | runShutdownBist (src : OpSource)
  /-- BIST_COMPLETE (R435): The BIST builds the report and sets its result. -/
  | bistComplete (found lanes : List (List Byte)) (layers : List Nat)
  /-- DEBUG_LINE_READ (R430): GET of 0xB200:02 reads 72 raw bytes through the debug port. -/
  | debugLineRead (src : OpSource)
  /-- DEBUG_LINE_WRITE (R430): SET of 0xB200:02 writes 72 raw bytes through the debug port. -/
  | debugLineWrite (src : OpSource)
  /-- ARRAY_TEST (R430): Command 0xB300:01 runs march patterns over a parked die. -/
  | arrayTest (src : OpSource)
  /-- ARRAY_TEST_COMPLETE (R430): The array test ends, zero-fills the die and gates it again. -/
  | arrayTestComplete (failing : Nat)
  /-- TAP_RESET (R429): TRST_N or test-logic reset selects IDCODE. -/
  | tapReset
  /-- EXTEST (R429): Boundary-scan EXTEST, honoured only while RESET_N is low. -/
  | extest (cells : Nat)
  /-- IDCODE (R429): Boundary-scan IDCODE instruction. -/
  | idcode
  /-- SAMPLE_PRELOAD (R429): Boundary-scan SAMPLE/PRELOAD instruction. -/
  | samplePreload (cells : Nat)
  /-- CLAMP (R429): Boundary-scan CLAMP instruction. -/
  | clamp (cells : Nat)
  /-- HIGHZ (R429): Boundary-scan HIGHZ instruction. -/
  | highz
  /-- INTERNAL_SCAN (R429): Internal scan and array test access, MFG and RETURN only. -/
  | internalScan (code : Nat)
  /-- BYPASS (R429): Boundary-scan BYPASS instruction and every other code. -/
  | bypass (code : Nat)
  /-- LOCK_WAIT_TIMEOUT (R248): A lock request that has waited 0x6040:01 ends the younger of the waiting and holding jobs with RETRY and releases its locks. -/
  | lockWaitTimeout (eng : Nat)
  /-- ENGINE_BACK_IN_SERVICE (R245): A reset engine returns to service within 50 µs and becomes a candidate for parts again. -/
  | engineBackInService (eng : Nat)
  /-- DONE_SEND (R79): The stack's receiver finishes judging its lanes usable and sends DONE for the laneset, naming the usable positions, by 19 ms after the first HELLO. -/
  | doneSend (ls mask : Nat) (seeds : List Nat) (trained : List Trained) (markers : List (List Int) := [])
  /-- ILLEGAL (R258): An instruction word with a reserved code, a non-zero unused field or an out-of-range register field traps ILLEGAL. -/
  | kIllegal (eng : Nat)
  /-- PC_RANGE (R256): A fetch at or beyond the image length traps PC_RANGE and ends the part. -/
  | kPcRange (eng : Nat)
  /-- LOSS_OF_RAILS (R311): The input rails are lost and the stack goes to OFF, losing every value, the image included (R343). -/
  | lossOfRails
  deriving DecidableEq, Repr

end Sys2Proof
end

