-- ==== Sys2Proof/Machine/FaultSources.lean ====
section
/-!
DEFINITION. The fault sources and their default severities (Tables 14.11, 14.13 and 15.13; R385, R410, R471).
-/
namespace Sys2Proof.Machine

/-- One assigned fault source: number, name and default severity (Table 14.3 codes). -/
structure SourceRow where
  num : Nat
  name : String
  sev : Nat
  deriving DecidableEq, Repr

/-- The assigned numbers, ascending. -/
def sourceRows : List SourceRow := [
  ⟨0, "STEWARD_MISMATCH", 1⟩,
  ⟨1, "STEWARD_MISMATCH_REPEAT", 3⟩,
  ⟨2, "STEWARD_WATCHDOG", 1⟩,
  ⟨3, "GREY_BY_COMMAND", 0⟩,
  ⟨4, "MILESTONE_FIRED", 0⟩,
  ⟨5, "TIME_STEP", 0⟩,
  ⟨6, "OUVEND_ADDRESS_CLASH", 1⟩,
  ⟨7, "LOADING_ABANDONED", 0⟩,
  ⟨16, "LANE_LOCK_LOST", 1⟩,
  ⟨17, "LANE_DRIFT", 0⟩,
  ⟨18, "DRIFT_RETRAIN_WAITING", 1⟩,
  ⟨19, "SPARE_LOST", 1⟩,
  ⟨20, "LINK_DOWN", 0⟩,
  ⟨21, "PORT_DOWN", 2⟩,
  ⟨80, "PROTOCOL_ERROR", 2⟩,
  ⟨81, "TAG_REUSED", 0⟩,
  ⟨112, "CLASS_OVERCOMMIT", 0⟩,
  ⟨128, "ROUTE_ENTRY_CORRECTED", 1⟩,
  ⟨129, "ROUTE_TABLE_UNCORRECTABLE", 3⟩,
  ⟨160, "CMD_PARITY", 1⟩,
  ⟨161, "WRITE_CRC", 1⟩,
  ⟨162, "REPLAY_LIMIT", 1⟩,
  ⟨163, "CHANNEL_FAILED", 2⟩,
  ⟨164, "TSV_REMAP", 1⟩,
  ⟨165, "TSV_NO_SPARE", 1⟩,
  ⟨166, "EMERGENCY_REFRESH", 0⟩,
  ⟨167, "RETENTION_SUSPECT", 1⟩,
  ⟨272, "LINE_CORRECTED", 1⟩,
  ⟨273, "POISONED_CORRECTED", 1⟩,
  ⟨274, "LINE_UNCORRECTABLE", 2⟩,
  ⟨275, "POISON_WRITTEN", 0⟩,
  ⟨276, "WRITEBACK_DROPPED", 0⟩,
  ⟨277, "HARD_ERROR", 1⟩,
  ⟨278, "FREE_LINE_REWRITTEN", 1⟩,
  ⟨279, "SCRUB_LATE", 0⟩,
  ⟨280, "SELFTEST_CODEC", 3⟩,
  ⟨281, "SELFTEST_UNIT", 1⟩,
  ⟨282, "INJECTION", 0⟩,
  ⟨320, "REGULATOR_FAULT", 3⟩,
  ⟨321, "CLOCK_FAULT", 3⟩,
  ⟨322, "DOMAIN_WEAR", 0⟩,
  ⟨323, "CAP_UNMET", 0⟩,
  ⟨324, "SLEEP_REFUSED", 0⟩,
  ⟨325, "INPUT_RAIL_OUT", 1⟩,
  ⟨352, "THERMAL_TRIP", 2⟩,
  ⟨353, "TRIP_DRAM_LOST", 2⟩,
  ⟨354, "SENSOR_FAILED", 1⟩,
  ⟨355, "SENSOR_DISTRUST", 1⟩,
  ⟨356, "BAND_RUSSET", 0⟩,
  ⟨357, "BASE_HOT", 0⟩,
  ⟨358, "THERMAL_WEAR", 0⟩,
  ⟨359, "COOLANT_WARM", 0⟩,
  ⟨360, "COOLANT_HOT", 1⟩,
  ⟨384, "FUSE_MARGINAL", 1⟩,
  ⟨385, "FUSE_REGION_DISCARDED", 3⟩,
  ⟨386, "FUSE_UNFINALISED", 0⟩,
  ⟨387, "CALIB_CRC", 1⟩,
  ⟨388, "FUSE_BURN_FAILED", 1⟩,
  ⟨389, "LIFECYCLE_AUTH_FAILED", 0⟩,
  ⟨390, "REPORT_REJECTED", 0⟩,
  ⟨391, "BIST_FAILED", 1⟩
]

/-- The row of a source, if its number is assigned (R385). -/
def sourceRow (n : Nat) : Option SourceRow := sourceRows.find? (fun r => r.num == n)

/-- Default severity; an unassigned number reads INFO (R385). -/
def sourceSev (n : Nat) : Nat := match sourceRow n with | some r => r.sev | none => 0

def Src.stewardMismatch : Nat := 0
def Src.stewardMismatchRepeat : Nat := 1
def Src.stewardWatchdog : Nat := 2
def Src.greyByCommand : Nat := 3
def Src.milestoneFired : Nat := 4
def Src.timeStep : Nat := 5
def Src.ouvendAddressClash : Nat := 6
def Src.loadingAbandoned : Nat := 7
def Src.laneLockLost : Nat := 16
def Src.laneDrift : Nat := 17
def Src.driftRetrainWaiting : Nat := 18
def Src.spareLost : Nat := 19
def Src.linkDown : Nat := 20
def Src.portDown : Nat := 21
def Src.protocolError : Nat := 80
def Src.tagReused : Nat := 81
def Src.classOvercommit : Nat := 112
def Src.routeEntryCorrected : Nat := 128
def Src.routeTableUncorrectable : Nat := 129
def Src.cmdParity : Nat := 160
def Src.writeCrc : Nat := 161
def Src.replayLimit : Nat := 162
def Src.channelFailed : Nat := 163
def Src.tsvRemap : Nat := 164
def Src.tsvNoSpare : Nat := 165
def Src.emergencyRefresh : Nat := 166
def Src.retentionSuspect : Nat := 167
def Src.lineCorrected : Nat := 272
def Src.poisonedCorrected : Nat := 273
def Src.lineUncorrectable : Nat := 274
def Src.poisonWritten : Nat := 275
def Src.writebackDropped : Nat := 276
def Src.hardError : Nat := 277
def Src.freeLineRewritten : Nat := 278
def Src.scrubLate : Nat := 279
def Src.selftestCodec : Nat := 280
def Src.selftestUnit : Nat := 281
def Src.injection : Nat := 282
def Src.regulatorFault : Nat := 320
def Src.clockFault : Nat := 321
def Src.domainWear : Nat := 322
def Src.capUnmet : Nat := 323
def Src.sleepRefused : Nat := 324
def Src.inputRailOut : Nat := 325
def Src.thermalTrip : Nat := 352
def Src.tripDramLost : Nat := 353
def Src.sensorFailed : Nat := 354
def Src.sensorDistrust : Nat := 355
def Src.bandRusset : Nat := 356
def Src.baseHot : Nat := 357
def Src.thermalWear : Nat := 358
def Src.coolantWarm : Nat := 359
def Src.coolantHot : Nat := 360
def Src.fuseMarginal : Nat := 384
def Src.fuseRegionDiscarded : Nat := 385
def Src.fuseUnfinalised : Nat := 386
def Src.calibCrc : Nat := 387
def Src.fuseBurnFailed : Nat := 388
def Src.lifecycleAuthFailed : Nat := 389
def Src.reportRejected : Nat := 390
def Src.bistFailed : Nat := 391

end Sys2Proof.Machine
end

