-- ==== Sys2Proof/Config.lean ====
section
/-!
DEFINITION. What the spec leaves open: free values. None has a body, so nothing in Lean can tell their value.
-/
namespace Sys2Proof.Config

/-- The byte a DRAM cell holds after power-on, before zero-fill: `epoch` counts the times DRAM power was lost (assumption 8). -/
opaque powerOnByte : Nat → Nat → BitVec 8

/-- What a line of a journal ring holds, by the unapplied records as numbers: the spec gives records no form (R148, assumption 62). -/
opaque journalLine : (line : Nat) → List Nat → Nat

/-- The non-zero seed of an upstream laneset's scrambler, by laneset (R67, assumption 19). -/
opaque scramblerSeed : Nat → Nat

/-- The seed of a channel's neighbour-refresh generator, by serial number and channel (R183, assumption 18). -/
opaque lfsrSeed : Nat → Nat → Nat

/-- The rows that lie `distance` physical rows from a row of a bank, by the die's row-remap table and row adjacency code, whose meaning the spec leaves to the die (R184, assumption 24). -/
opaque neighbours : (die code bank row distance : Nat) → List Nat

/-- The TSV remaps, as report entries of 8 bytes, that the data words of a TSVREPAIR region ask for; the spec gives no format for them (R432, assumption 25). -/
opaque fuseRepairs : List Nat → List (List (BitVec 8))

/-- How far the stack's G(f) lies from the exact level, by tap set, frequency and rate, in 1/1,000 dB; the spec bounds it by ±0.02 dB (R44, assumption 15). -/
opaque maskError : List Int → Nat → Nat → Int

/-- The challenge drawn at boot, by boot count (assumption 20). -/
opaque challenge : Nat → Nat

/-- The nominal calibration value that ROM holds for a record type and unit (assumption 21). -/
opaque romCalibration : Nat → Nat → Nat

/-- Sign and payload of the NaN that a floating-point operation returns, by its operands: IEEE 754 leaves them to the implementation (assumption 40). -/
opaque nanPayload : List Nat → Nat

/-- A value the spec leaves unspecified, fresh at each use: `site` tells the uses apart, the counter the occasions (assumption 23). -/
opaque freeValue : Nat → Nat → Nat

end Sys2Proof.Config
end

