-- ==== Sys2Proof/Machine/Codes.lean ====
section
/-!
DEFINITION. The codes of the link and the bus: the CRCs (R77, R109, R231, R356), the quasi-cyclic LDPC code (R64, R65), the
PRBS31 sequence of the scrambler (R67), and the striping of a codeword over lanes (R66, R68).
-/
namespace Sys2Proof.Machine

/-! Cyclic redundancy checks. -/

/-- One shift of a reflected CRC register. -/
def crcShift (poly s : Nat) : Nat := if s % 2 = 1 then (s / 2) ^^^ poly else s / 2

/-- A byte into a reflected CRC register, bit 0 first. -/
def crcByte (poly s : Nat) (b : Byte) : Nat :=
  let s := s ^^^ b.toNat
  (List.range 8).foldl (fun t _ => crcShift poly t) s

/-- A reflected CRC of `w` bits: register of ones, result inverted. -/
def crcRefl (poly w : Nat) (bs : List Byte) : Nat :=
  bs.foldl (crcByte poly) (2 ^ w - 1) ^^^ (2 ^ w - 1)

/-- CRC-64 of flits: ECMA-182 polynomial, bit-reversed (R109). -/
def crc64 (bs : List Byte) : Nat := crcRefl 0xC96C5795D7870F42 64 bs

/-- CRC-32 of Ouvend frames: IEEE 802.3 polynomial, reflected (R356). -/
def crc32 (bs : List Byte) : Nat := crcRefl 0xEDB88320 32 bs

/-- CRC-32C: Castagnoli polynomial, reflected (R231). -/
def crc32c (bs : List Byte) : Nat := crcRefl 0x82F63B78 32 bs

/-- A byte into a CRC-8 register, most significant bit first. -/
def crc8Byte (s : Nat) (b : Byte) : Nat :=
  (List.range 8).foldl (fun t _ => if t ≥ 128 then (t * 2 % 256) ^^^ 0x07 else t * 2) (s ^^^ b.toNat)

/-- CRC-8 of back-channel messages: x^8 + x^2 + x + 1, initial value 0 (Table 3.4). -/
def crc8 (bs : List Byte) : Nat := bs.foldl crc8Byte 0

/-! The LDPC code (R64). -/

/-- Base matrix of shifts (Table 3.1) for the information columns: column j lacks row j mod 4; elsewhere a·j + b. -/
def ldpcShift (row col : Nat) : Option Nat :=
  if col < 32 then
    if col % 4 = row then none
    else match row with
      | 0 => some (col % 64)
      | 1 => some ((2 * col + 7) % 64)
      | 2 => some ((3 * col + 19) % 64)
      | _ => some ((4 * col + 42) % 64)
  else match col, row with
    | 32, 0 => some 1
    | 32, 2 => some 0
    | 32, 3 => some 1
    | 33, 0 => some 0
    | 33, 1 => some 0
    | 34, 1 => some 0
    | 34, 2 => some 0
    | 35, 2 => some 0
    | 35, 3 => some 0
    | _, _ => none

/-- Block column j of a word: code bits c[64j] to c[64j + 63]. -/
def ldpcBlock (w j : Nat) : Nat := w / 2 ^ (64 * j) % 2 ^ 64

/-- A block turned so that bit r is code bit c[64j + ((r + s) mod 64)]. -/
def turn64 (v s : Nat) : Nat := v / 2 ^ s + v % 2 ^ s * 2 ^ (64 - s)

/-- The XOR that block row `row` takes over the columns listed: bit r is the sum of check r (R64). -/
def ldpcRow (w row : Nat) (cols : List Nat) : Nat :=
  cols.foldl (fun acc j => match ldpcShift row j with
    | some s => acc ^^^ turn64 (ldpcBlock w j) s
    | none => acc) 0

/-- Every check is satisfied (R64). -/
def ldpcOk (w : Nat) : Bool := (List.range 4).all (fun i => ldpcRow w i (List.range 36) == 0)

/-- The codeword of 2,048 information bits (R65). -/
def ldpcEncode (info : Nat) : Nat :=
  let lam := fun i => ldpcRow info i (List.range 32)
  let p32 := lam 0 ^^^ lam 1 ^^^ lam 2 ^^^ lam 3
  let p33 := lam 0 ^^^ turn64 p32 1
  let p34 := lam 1 ^^^ p33
  let p35 := lam 3 ^^^ turn64 p32 1
  info + 2 ^ 2048 * (p32 + 2 ^ 64 * (p33 + 2 ^ 64 * (p34 + 2 ^ 64 * p35)))

/-- Bits set of a 2,304-bit word on one stripe lane (R68). -/
def stripeBits (w s : Nat) : Nat :=
  ((List.range 144).map (fun d => bit (bitAt w (16 * d + 2 * s)) + bit (bitAt w (16 * d + 2 * s + 1)))).sum

/-! The scrambler (R67). -/

/-- A stretch of `n` bits follows s[n] = s[n − 28] xor s[n − 31] from the 31 bits before it. -/
def prbs31Follows (before w n : Nat) : Bool :=
  let x := before % 2 ^ 31 + w * 2 ^ 31
  ((x / 2 ^ 31) ^^^ (x / 2 ^ 3) ^^^ x) % 2 ^ n == 0

/-- The next `n` sequence bits after a window of 31, bit 0 first. -/
def prbs31 : Nat → Nat → Nat
  | _, 0 => 0
  | win, n + 1 =>
    let b := (bit (bitAt win 3) + bit (bitAt win 0)) % 2
    b + 2 * prbs31 (win / 2 + b * 2 ^ 30) n

/-- One step of the CRC-16 with polynomial 0x1021 on one bit. -/
def crc16Bit (r : Nat) (b : Bool) : Nat :=
  let s := r * 2 % 65536
  if bitAt r 15 == b then s else s ^^^ 0x1021

/-- The CRC-16 of a write burst from 0xFFFF, each byte bit 0 first (R185). -/
def burstCrc (bs : List Byte) : Nat :=
  bs.foldl (fun r b => (List.range 8).foldl (fun r i => crc16Bit r (bitAt b.toNat i)) r) 0xFFFF

end Sys2Proof.Machine
end

