-- ==== Sys2Proof/Machine/LaneCode.lean ====
section
/-!
DEFINITION. What lanes carry, symbol by symbol: the Gray mapping and the precoder (R36, R37), the lane frame and its pilots
(R38 to R40), the share of a stripe lane (R68), the scrambler (R67), training frames and back-channel messages (R75 to R77),
the wake sequence and its correlator (R99, R100).
-/
namespace Sys2Proof.Machine

/-! Symbols (Table 2.2). -/

/-- Symbol index of a bit pair, the first bit in time the high bit (R36). -/
def symIndex (first second : Bool) : Nat :=
  match first, second with
  | false, false => 0
  | false, true => 1
  | true, true => 2
  | true, false => 3

/-- The bit pair of a symbol index. -/
def symPair (x : Nat) : Bool × Bool := (decide (2 ≤ x % 4), x % 4 == 1 || x % 4 == 2)

/-- The level of a symbol index (R36). -/
def symLevel (x : Nat) : Int := 2 * (x : Int) - 3

/-- The index of a decided level. -/
def levelIndex (l : Int) : Nat := ((l + 3) / 2).toNat % 4

/-- Bits in time order as symbol indices. -/
def pairBits : List Bool → List Nat
  | a :: b :: r => symIndex a b :: pairBits r
  | _ => []

/-! The precoder, over the data symbols of one lane frame (R37). -/

/-- The transmitter: y := (x − yprev) mod 4. -/
def precode : Nat → List Nat → List Nat
  | _, [] => []
  | yprev, x :: xs => let y := (x + 4 - yprev % 4) % 4; y :: precode y xs

/-- The receiver: x := (y + yprev) mod 4. -/
def deprecode : Nat → List Nat → List Nat
  | _, [] => []
  | yprev, y :: ys => (y + yprev) % 4 :: deprecode y ys

/-! Lane frames (R38 to R40). -/

/-- A lane frame of 146 symbols: data symbols 0 to 71, the pilot pair, data symbols 72 to 143. -/
def laneFrame (even : Bool) (data : List Int) : List Int :=
  data.take 72 ++ (if even then [3, -3] else [-3, 3]) ++ data.drop 72

/-- The data levels of a lane frame. -/
def frameData (f : List Int) : List Int := f.take 72 ++ (f.drop 74).take 72

/-- Which parity a frame's pilot pair matches, by the signs of its two samples (R39, R52). -/
def pilotParity (f : List Int) : Option Bool :=
  let a := f.getD 72 0
  let b := f.getD 73 0
  if 0 < a && b < 0 then some true else if a < 0 && 0 < b then some false else none

/-- A frame in quiet idle: pilots, and a level of zero at all data positions (R40). -/
def quietFrame (even : Bool) : List Int := laneFrame even (List.replicate 144 0)

/-! Striping (R68). -/

/-- Bit `b` of the share of stripe lane `s` is code bit c[16·(b div 2) + 2s + b mod 2]. -/
def shareBit (w s b : Nat) : Bool := bitAt w (16 * (b / 2) + 2 * s + b % 2)

/-- The 288 bits of a stripe lane's share of a codeword. -/
def shareBits (w s : Nat) : List Bool := (List.range 288).map (shareBit w s)

/-- The frame that carries a stripe lane's share. -/
def shareFrame (even precoded : Bool) (w s : Nat) : List Int :=
  let xs := pairBits (shareBits w s)
  laneFrame even ((if precoded then precode 0 xs else xs).map symLevel)

/-- The symbol indices that a received frame carries. -/
def frameShare (precoded : Bool) (f : List Int) : List Nat :=
  let ys := (frameData f).map levelIndex
  if precoded then deprecode 0 ys else ys

/-- The codeword that the shares of stripe lanes 0 to 7 make. -/
def joinShares (shares : List (List Nat)) : Nat :=
  (List.range 144).foldr (fun d acc =>
    acc * 65536 + (shares.zipIdx.map (fun sh =>
      let p := symPair (sh.1.getD d 0)
      (bit p.1 + 2 * bit p.2) * 4 ^ sh.2)).sum) 0

/-! The scrambler of an upstream laneset (R67). -/

/-- The 31 bits before the sequence starts: the free seed, which is never zero. -/
def scrSeed (ls : Nat) : Nat :=
  let s := Config.scramblerSeed ls % 2 ^ 31
  if s = 0 then 1 else s

/-- The window of 31 bits after `n` more bits of the sequence. -/
def prbsWindow : Nat → Nat → Nat
  | win, 0 => win
  | win, n + 1 => prbsWindow (win / 2 + (bit (bitAt win 3) + bit (bitAt win 0)) % 2 * 2 ^ 30) n

/-- Information bits combined with the sequence that follows a window: scrambling and descrambling are one operation. -/
def scramble (win info : Nat) : Nat := info ^^^ prbs31 win 2048

/-- The codeword that an upstream laneset sends for information bits, `n` sequence bits after its seed (R65, R67). -/
def sentCodeword (ls n info : Nat) : Nat := ldpcEncode (scramble (prbsWindow (scrSeed ls) n) info)

/-! Training frames (R75, R76). -/

/-- The next `n` bits of PRBS13 from a window of 13 bits, the oldest at bit 12: the seed's own bits come first. -/
def prbs13 : Nat → Nat → List Bool
  | _, 0 => []
  | win, n + 1 =>
    let b := (bit (bitAt win 12) + bit (bitAt win 11) + bit (bitAt win 1) + bit (bitAt win 0)) % 2
    bitAt win 12 :: prbs13 (win * 2 % 8192 + b) n

/-- Seed of a lane position. -/
def prbs13Seed (pos : Nat) : Nat := 0x1000 + 0x0155 * (pos + 1)

/-- Markers M and S (Table 3.3). -/
def markerM : List Int := List.replicate 12 3 ++ List.replicate 4 (-3)
def markerS : List Int := List.replicate 4 3 ++ List.replicate 12 (-3)

/-- A marker was received inverted: neither inverted marker equals M or S. -/
def markerInverted (m : List Int) : Bool := m.map (fun x => -x) == markerM || m.map (fun x => -x) == markerS

/-- The symbols of a back-channel byte, bit 0 first: 1 as +3, −3 and 0 as −3, +3. -/
def byteSymbols (b : Nat) : List Int := ((List.range 8).map (fun i => if bitAt b i then [(3 : Int), -3] else [-3, 3])).flatten

/-- A training frame of a position: 16 marker symbols, 16 symbols of the back-channel byte, 990 of PRBS13 (Table 3.3). -/
def trainingFrame (pos : Nat) (start : Bool) (byte : Nat) : List Int :=
  (if start then markerS else markerM) ++ byteSymbols byte ++ (pairBits (prbs13 (prbs13Seed pos) 1980)).map symLevel

/-- A laneset is found reversed: some input carries the seed of the mirrored position, and none its own (R76). The middle position tells nothing. -/
def foundReversed (seeds : List Nat) : Bool :=
  let at_ := fun (f : Nat → Nat) => (List.range 9).any (fun i => i != 4 && seeds.getD i 0 == prbs13Seed (f i))
  at_ (fun i => 8 - i) && !at_ id

/-! Back-channel messages (Table 3.4). -/

/-- The first seven bytes of a message, `idx` the index of the target laneset. -/
def bcHead (idx : Nat) (m : BcMsg) : List Nat :=
  let s8 := ofSigned 8
  match m with
  | .nop => [0, idx, 0, 0, 0, 0, 0]
  | .hello rates rate => [1, idx, rates, rate, 0, 0, 0]
  | .setPreset pos n => [2, pos * 16 + idx, n, 0, 0, 0, 0]
  | .setTaps pos a b c d e => [3, pos * 16 + idx, s8 a, s8 b, s8 c, s8 d, s8 e]
  | .reply pos st => [4, pos * 16 + idx, st, 0, 0, 0, 0]
  | .done mask => [5, idx, mask % 256, mask / 256, 0, 0, 0]

/-- The eight bytes of a message, its CRC-8 last. -/
def bcBytes (idx : Nat) (m : BcMsg) : List Byte :=
  let bs := (bcHead idx m).map (BitVec.ofNat 8)
  bs ++ [BitVec.ofNat 8 (crc8 bs)]

/-- The eight training frames that carry a message on a position: one byte a frame, the first with marker S (R77). -/
def bcFrames (pos idx : Nat) (m : BcMsg) : List (List Int) :=
  (bcBytes idx m).zipIdx.map (fun b => trainingFrame pos (b.2 == 0) b.1.toNat)

/-! Wake (R99, R100). -/

/-- The wake word, most significant bit first. -/
def wakeWordBits : List Bool := (List.range 32).map (fun i => bitAt 0x1F350D2B (31 - i))

/-- The wake sequence of every lane before its lane frames: 64 alternating symbols from +3, then the wake word. -/
def wakeSymbols : List Int :=
  (List.range 64).map (fun i => if i % 2 = 0 then 3 else -3) ++ wakeWordBits.map (fun b => if b then 3 else -3)

/-- The correlator recognises the wake word in 32 consecutive symbols, given as the signs in time order: at least 30 agree. -/
def wakeRecognised (signs : List Bool) : Bool :=
  signs.length == 32 && decide (30 ≤ ((signs.zip wakeWordBits).filter (fun p => p.1 == p.2)).length)

end Sys2Proof.Machine
end

