-- ==== Sys2Proof/Machine/Tbl.lean ====
section
/-!
DEFINITION. Sparse tables in one canonical form: keys strictly rising and no entry equal to what an unlisted key
reads as. Equal tables are equal lists, so a state that holds them is plain data.
-/
namespace Sys2Proof.Machine

/-- A sparse table: pairs of a key and a value. -/
abbrev Tbl (α : Type) := List (Nat × α)

/-- The value at a key; `d` is what an unlisted key reads as. -/
def tget {α : Type} (d : α) : Tbl α → Nat → α
  | [], _ => d
  | (k', v) :: r, k => if k' = k then v else tget d r k

/-- The table without the entries of a key. -/
def tdel {α : Type} : Tbl α → Nat → Tbl α
  | [], _ => []
  | (k', v) :: r, k => if k' = k then tdel r k else (k', v) :: tdel r k

/-- The table with one more entry, before the first larger key. -/
def tins {α : Type} (k : Nat) (v : α) : Tbl α → Tbl α
  | [] => [(k, v)]
  | (k', v') :: r => if k < k' then (k, v) :: (k', v') :: r else (k', v') :: tins k v r

/-- The table with the value at one key replaced; writing what an unlisted key reads as removes the entry. -/
def tput {α : Type} [DecidableEq α] (d : α) (t : Tbl α) (k : Nat) (v : α) : Tbl α :=
  if v = d then tdel t k else tins k v (tdel t k)

/-- Keys strictly rising, each above `lo`. -/
def tsorted {α : Type} : Option Nat → Tbl α → Bool
  | _, [] => true
  | lo, (k, _) :: r => (match lo with | none => true | some l => decide (l < k)) && tsorted (some k) r

/-- The canonical form, `d k` being what an unlisted key `k` reads as. -/
def twf {α : Type} [DecidableEq α] (d : Nat → α) (t : Tbl α) : Bool :=
  tsorted none t && t.all (fun e => decide (e.2 ≠ d e.1))

/-- Whether a key is listed. -/
def thas {α : Type} (t : Tbl α) (k : Nat) : Bool := t.any (fun e => e.1 == k)

/-- The value at a listed key. -/
def tfind {α : Type} (t : Tbl α) (k : Nat) : Option α := (t.find? (fun e => e.1 == k)).map Prod.snd

/-- A table of optional entries kept without defaults: writes an entry. -/
def tset {α : Type} (t : Tbl α) (k : Nat) (v : α) : Tbl α := tins k v (tdel t k)

/-- The table without the entries whose key a test selects. -/
def tdrop {α : Type} (t : Tbl α) (p : Nat → Bool) : Tbl α := t.filter (fun e => !p e.1)

end Sys2Proof.Machine
end

