-- ==== Sys2Proof/Machine/DictState.lean ====
section
/-!
DEFINITION. State of the dictionary and its two paths (chapter 13), of fault recording, Milestone, Grey mode, the
stack time counter and the stewards (chapter 14).
Paths are numbered 0 for Ouvend and 1 to 4 for host ports 0 to 3.
-/
namespace Sys2Proof.Machine

/-- The record of the last operation a path executed (R372): header fields and the answer body. -/
structure OpRecord where
  op : Nat
  tag : Nat
  index : Nat
  sub : Nat
  selector : Nat
  offset : Nat
  answer : List Byte
  deriving DecidableEq, Repr

/-- An operation answered PENDING, or under way: what it was, and its final answer once its action is over (R370). -/
structure PendingOp where
  body : OpBody
  final : Option (List Byte) := none
  /-- False when the final answer must not enter the record (RETRY, R373). -/
  recorded : Bool := true
  deriving DecidableEq, Repr

/-- One path to the dictionary. -/
structure PathState where
  record : Option OpRecord := none
  pending : Option PendingOp := none
  /-- A final answer held for POLL (R370). -/
  held : Option (List Byte) := none
  lastTag : Nat := 0
  deriving DecidableEq, Repr

/-- The dictionary's own state. Its objects are in the register file. -/
structure Dict where
  paths : Tbl PathState := []
  /-- State to which DISCARD returns (R379). -/
  prior : Nat := 0
  /-- RWL shadows that differ from the values in force, by register key and by blob key (R379). -/
  shadows : Tbl Nat := []
  blobShadows : Tbl (List Byte) := []
  /-- Offset and length of the last accepted segment of a STRING or BLOB value, by blob key (R367). -/
  segments : Tbl (Nat × Nat) := []
  /-- Receiver: a search window is open; the reference amplitude of a reception under way (R358, R359). -/
  search : Bool := false
  reception : Option Nat := none
  /-- The Ouvend frame held while the stack wakes (R321): destination and operation. -/
  heldFrame : Option (Nat × OpBody) := none
  deriving DecidableEq, Repr

/-- A fault record (Table 14.4), CHECK apart, which is computed when the record is read. -/
structure FaultRec where
  time : Nat
  source : Nat
  severity : Nat
  spec : Bool := false
  forced : Bool := false
  upgraded : Bool := false
  grey : Bool := false
  selector : Nat := 0
  port : Nat := 0xFF
  engine : Nat := 0xFF
  seq : Nat := 0
  count : Nat := 0
  line : Option Nat := none
  location : Nat := 0
  detail : Nat := 0
  deriving DecidableEq, Repr

/-- Fault recording, Milestone, Grey mode, stewards. -/
structure Faults where
  /-- Sources whose ERR latch is set, and sources whose latest occurrence was INTEGRITY (R384, R407). -/
  latch : Tbl Bool := []
  integrity : Tbl Bool := []
  /-- The ring, by slot (R392). -/
  ring : Tbl FaultRec := []
  first : Option FaultRec := none
  last : Option FaultRec := none
  /-- Milestone: the snapshot registers, once latched, by register key (R398); the ball driven low (R397). -/
  snapTaken : Bool := false
  snap : Tbl Nat := []
  ballLow : Bool := false
  /-- Causes of an entry into Grey mode that waits for the end of a wake or of power-up, as bits of 0x8300:04, and the source of the first INTEGRITY fault among them (R405, R407). -/
  greyWait : Nat := 0
  greySource : Option Nat := none
  /-- Placement state before Grey mode (R407). -/
  greyPlacement : Nat := 0
  /-- Stewards: a restart runs; its first fault's time; the last mismatch (R403). -/
  restarting : Bool := false
  runStart : Nat := 0
  lastMismatch : Option Nat := none
  /-- The capacity model runs at the end of the restart (R404). -/
  modelDue : Bool := false
  deriving DecidableEq, Repr

/-- The stack time counter (R401, R402). -/
structure Clock where
  now : Nat := 0
  /-- Fraction of a ns, in 1/256, while the ring oscillator counts. -/
  frac : Nat := 0
  /-- Beacon error still to be absorbed: ahead is positive; `slow` halves the advance (R402). -/
  slew : Int := 0
  slow : Bool := false
  deriving DecidableEq, Repr

/-- What a command has set going in other blocks, settled before the command ends. Empty between commands. -/
structure React where
  /-- Grey mode was entered: engines halt, moves settle (Table 14.8). -/
  grey : Bool := false
  /-- The state of the link or of a laneset changed: link domains follow (R311). -/
  link : Bool := false
  /-- Injected errors that went out (R298). -/
  injected : Nat := 0
  /-- Latency samples that ended with the sending of a response: track, class, start (R205). -/
  samples : List (Nat × Nat × Nat) := []
  /-- Tracks whose waiting transfers changed outside the arbiter (R208). -/
  waits : List Nat := []
  /-- The Milestone trigger fired in this command (R398). -/
  fired : Bool := false
  deriving DecidableEq, Repr

end Sys2Proof.Machine
end

