-- ==== Sys2Proof/Machine/AuxState.lean ====
section
/-!
DEFINITION. State of power management and sleep (chapter 11), of sensors, distrust and the trip (chapter 12), of fuses,
calibration, the interconnect report, the built-in test and the test access port (chapter 15), and of start-up and
shutdown (chapter 16). Their objects are in the register file.
-/
namespace Sys2Proof.Machine

/-- A power cap action in force (Table 11.6). -/
inductive CapAction where
  | scale
  | engines
  /-- A track one gear slower, and the gear that power management asked of it before. -/
  | gear (track was : Nat)
  | park (laneset : Nat)
  deriving DecidableEq, Repr

/-- A sleep request that runs (R316 to R319). -/
structure Sleep where
  /-- The path whose operation it answers; none for an automatic sleep. -/
  path : Option Nat
  start : Nat
  /-- The query phase is over: the blocks stop. -/
  stopping : Bool := false
  /-- Blocks of Table 11.7 whose stop step has completed. -/
  stopped : Nat := 0
  /-- Power states of the domains before the request, and upstream lanesets that the LINK stop step parked (R318). -/
  before : List Nat := []
  parked : List Nat := []
  /-- A REQ, JOB or MGT slot arrived after the TXN stop step (R317). -/
  arrived : Bool := false
  deriving DecidableEq, Repr

/-- Power management. -/
structure Power where
  /-- Cap actions in force, most recent first; measurements in a row below P − H; the occasion of R315 holds. -/
  actions : List CapAction := []
  below : Nat := 0
  unmet : Bool := false
  /-- Line transfers by track at the last measurements, oldest first: what step 3 of Table 11.6 compares. -/
  marks : List (List Nat) := []
  sleep : Option Sleep := none
  /-- When a wake began. -/
  wakeStart : Nat := 0
  /-- Upstream lanesets that the call in IDLE, or the sleep entry, parked (R312, R322). -/
  parkedFor : List Nat := []
  idleAt : Nat := 0
  activeAt : Nat := 0
  xckStopped : Bool := false
  /-- The generated rails are up, VPP and VDDQC (R304). -/
  vppUp : Bool := false
  vddqcUp : Bool := false
  /-- Activations and lines by die at the last measurements, oldest first: the counts of the last 1 ms (R333). -/
  dieMarks : List (List (Nat × Nat)) := []
  /-- Input rails out of tolerance at the last measurement, and the excursion raised (R465). -/
  railOut : List Nat := []
  railRaised : List Nat := []
  deriving DecidableEq, Repr

/-- A cycle counter of a die (R345): the last extreme, the running extreme, whether the temperature is rising. -/
structure Cycle where
  last : Int
  running : Int
  rising : Bool
  deriving DecidableEq, Repr

/-- One die as the stewards watch it. -/
structure Watch where
  /-- Evaluations in a row with the sensed temperature below, or back above, its bound (R334). -/
  low : Nat := 0
  ok : Nat := 0
  cycle : Option Cycle := none
  /-- When the cycle counter last took a sample, and up to when time in Russet is counted (R345, R350). -/
  cycleAt : Nat := 0
  russetAt : Nat := 0
  /-- Band temperature at the end of the die's last evaluation (R333). -/
  passTemp : Option Int := none
  wearRaised : Bool := false
  deriving DecidableEq, Repr

/-- Sensors and the trip. -/
structure Therm where
  dies : Tbl Watch := []
  /-- Conditions held by the outlets: CS1 warm, CS2 warm, hot (R348). -/
  warm1 : Bool := false
  warm2 : Bool := false
  hot : Bool := false
  /-- THERM_TRIP_N is driven low; when the trip began (R337). -/
  tripLow : Bool := false
  tripAt : Nat := 0
  deriving DecidableEq, Repr

/-- The image of R338: whether AO holds one. What it holds stays in the register file through a trip. -/
structure Image where
  valid : Bool := false
  deriving DecidableEq, Repr

/-- Fuses and test. -/
structure Test where
  /-- Fuse words as they read at the normal and at the strict reference (R412, R414). -/
  normal : Tbl Nat := []
  strict : Tbl Nat := []
  /-- Marginal cache, ascending (R418). -/
  cache : List (Nat × Nat) := []
  /-- Calibration records in force and shadows, payloads by type · 256 + unit (R422 to R424). -/
  calib : Tbl (List Nat) := []
  shadows : Tbl (List Nat) := []
  /-- Challenges drawn so far (R428). -/
  challenges : Nat := 0
  /-- Paths whose APPLY waits for a quiescent point, oldest first (R425). -/
  applyPaths : List Nat := []
  /-- The bytes of a calibration override written so far (R424). -/
  overrideIn : List Byte := []
  /-- The report window is open, since when; the bytes received so far (R433). -/
  window : Bool := false
  windowAt : Nat := 0
  reportIn : List Byte := []
  accepted : Bool := false
  /-- Remaps in force and failures without a spare: 8-byte entries of Table 15.11, from fuses, scan, runtime and report. -/
  remaps : List (List Byte) := []
  /-- Entries found by the BIST, its remaps in effect at the next power-up. -/
  bistRemaps : List (List Byte) := []
  /-- Units that failed the self-test, by unit code (R297). -/
  failedUnits : List Nat := []
  /-- The report as the last power-up check or BIST made it: kind, tested layers, lane results. -/
  madeBy : Nat := 0
  madeAt : Nat := 0
  unresolved : Nat := 0
  lanesFailed : Nat := 0
  layers : List Nat := []
  laneEntries : List (List Byte) := []
  /-- Paths that await the end of a BIST, and of an array test with its die. -/
  bistPaths : List Nat := []
  /-- The link stays down until 0x2200:06 (R435). -/
  bistLinkDown : Bool := false
  testDie : Option Nat := none
  testPath : Option Nat := none
  /-- Test access port: the instruction selected, the values preloaded into the output cells (R429). -/
  tapInstr : Nat := 1
  cells : Nat := 0
  deriving DecidableEq, Repr

/-- Injections armed (R298, R299): the laneset of the next flit, the channels of the next write burst and of the next command, the next Ouvend reply. -/
structure Inject where
  flit : Option Nat := none
  write : Option Nat := none
  parity : Option Nat := none
  reply : Bool := false
  deriving DecidableEq, Repr

/-- Start-up and shutdown. -/
structure Boot where
  /-- ADDR[4:0] as sampled (R439). -/
  strap : Nat := 0
  readyAt : Nat := 0
  firstCommit : Bool := false
  /-- The path whose command shuts the stack down, when that began, and whether the BIST runs first (R451). -/
  shutdownPath : Option Nat := none
  shutdownAt : Nat := 0
  shutdownBist : Bool := false
  deriving DecidableEq, Repr

end Sys2Proof.Machine
end

