-- ==== Sys2Proof/Machine/Catalog.lean ====
section
/-!
DEFINITION. The object dictionary: every row of the spec's dictionary tables, in ascending order of index and first
subindex (R368). A row gives index, first and last subindex, type, access, default, own depth, whether its unit is
"count", and the largest value size in bytes. A default that the spec states only in words ("as trained", "by boot")
stands here as 0 and is written when the event it names takes place (assumption 3).
-/
namespace Sys2Proof.Machine

/-- Object types of Table 13.11. -/
inductive ObjTy where
  | bool | u8 | u16 | u32 | u64 | s16 | s32 | temp | q16 | timeNs | enum | str | blob | cmd
  deriving DecidableEq, Repr

/-- Access of a dictionary table (R9, R375). -/
inductive Acc where
  | ro | rw | wo | rwl | cmd
  deriving DecidableEq, Repr

/-- One row of a dictionary table (R368). -/
structure ObjRow where
  idx : Nat
  lo : Nat
  hi : Nat
  ty : ObjTy
  acc : Acc
  dflt : Nat
  depth : Nat
  count : Bool
  size : Nat
  deriving DecidableEq, Repr

/-- Objects 0x1000 to 0x10FF (R382 of 13_ouvend_dictionary.md). -/
def objs10 : List ObjRow := [
  ⟨0x1000, 0x01, 0x01, .str, .ro, 0, 0, false, 64⟩,  -- Vendor
  ⟨0x1000, 0x02, 0x02, .str, .ro, 0, 0, false, 64⟩,  -- Part number
  ⟨0x1000, 0x03, 0x03, .enum, .ro, 0, 0, false, 1⟩,  -- Grade
  ⟨0x1000, 0x04, 0x04, .u64, .ro, 0, 0, false, 8⟩,  -- Serial number
  ⟨0x1000, 0x05, 0x05, .u16, .ro, 0, 0, false, 2⟩,  -- Silicon revision
  ⟨0x1000, 0x06, 0x06, .u32, .ro, 0, 0, false, 4⟩,  -- Firmware revision, ROM and patches
  ⟨0x1000, 0x07, 0x07, .u16, .ro, 256, 0, false, 2⟩,  -- Ouvend protocol revision
  ⟨0x1001, 0x01, 0x01, .u16, .ro, 2640, 0, false, 2⟩,  -- Object count
  ⟨0x1001, 0x02, 0x02, .u8, .ro, 0, 0, false, 1⟩,  -- Last operation status, Ouvend
  ⟨0x1002, 0x01, 0x01, .enum, .ro, 0, 0, false, 1⟩,  -- Lifecycle state
  ⟨0x1010, 0x01, 0x01, .enum, .ro, 0, 0, false, 1⟩,  -- Configuration state
  ⟨0x1010, 0x02, 0x02, .cmd, .cmd, 0, 0, false, 4⟩,  -- Begin loading
  ⟨0x1010, 0x03, 0x03, .cmd, .cmd, 0, 0, false, 4⟩,  -- Commit
  ⟨0x1010, 0x04, 0x04, .cmd, .cmd, 0, 0, false, 4⟩,  -- Discard
  ⟨0x1010, 0x05, 0x05, .enum, .ro, 0, 0, false, 1⟩,  -- Loading owner
  ⟨0x1010, 0x06, 0x06, .u16, .rw, 10, 0, false, 2⟩,  -- Loading idle timeout
  ⟨0x1010, 0x07, 0x07, .u32, .ro, 0, 0, true, 4⟩,  -- Commits
  ⟨0x1010, 0x08, 0x08, .u32, .ro, 0, 0, false, 4⟩,  -- Last refused commit object
  ⟨0x1010, 0x09, 0x09, .u32, .ro, 0, 0, true, 4⟩,  -- Loading sessions abandoned
  ⟨0x1030, 0x01, 0x01, .bool, .rw, 1, 0, false, 1⟩,  -- In-band writes enable
  ⟨0x1040, 0x01, 0x01, .u32, .ro, 0, 0, true, 4⟩,  -- Frames received for this stack
  ⟨0x1040, 0x02, 0x02, .u32, .ro, 0, 0, true, 4⟩,  -- Frames with CRC failure
  ⟨0x1040, 0x03, 0x03, .u32, .ro, 0, 0, true, 4⟩,  -- Malformed frames
  ⟨0x1040, 0x04, 0x04, .u32, .ro, 0, 0, true, 4⟩,  -- False preamble detections
  ⟨0x1040, 0x05, 0x05, .u32, .ro, 0, 0, true, 4⟩,  -- Receptions abandoned for a stronger frame
  ⟨0x1040, 0x06, 0x06, .u32, .ro, 0, 0, true, 4⟩,  -- Search restarts
  ⟨0x1040, 0x07, 0x07, .u32, .ro, 0, 0, true, 4⟩,  -- Address clashes
  ⟨0x1040, 0x08, 0x08, .u32, .ro, 0, 0, true, 4⟩,  -- MGT groups discarded
  ⟨0x1040, 0x09, 0x09, .u32, .ro, 0, 0, true, 4⟩,  -- Repeated operations answered from record
  ⟨0x1040, 0x0A, 0x0A, .u32, .ro, 0, 0, true, 4⟩,  -- PENDING answers
  ⟨0x1040, 0x0B, 0x0B, .u32, .ro, 0, 0, true, 4⟩  -- BUSY answers
]

/-- Objects 0x1100 to 0x11FF (R32 of 01_stack_organisation.md). -/
def objs11 : List ObjRow := [
  ⟨0x1100, 0x01, 0x01, .u8, .ro, 8, 0, false, 1⟩,  -- Track count
  ⟨0x1100, 0x02, 0x02, .u8, .ro, 16, 0, false, 1⟩,  -- Core die count
  ⟨0x1100, 0x03, 0x03, .u8, .ro, 64, 0, false, 1⟩,  -- Channel count
  ⟨0x1100, 0x04, 0x04, .u16, .ro, 2048, 0, false, 2⟩,  -- Bank count
  ⟨0x1100, 0x05, 0x05, .u32, .ro, 66560, 0, false, 4⟩,  -- Rows per bank, spares included
  ⟨0x1100, 0x06, 0x06, .u64, .ro, 137438953472, 0, false, 8⟩,  -- Host-visible capacity
  ⟨0x1100, 0x07, 0x07, .u32, .ro, 266240, 0, false, 4⟩,  -- Physical slots per track
  ⟨0x1110, 0x01, 0x01, .bool, .ro, 1, 2, false, 1⟩,  -- Die present
  ⟨0x1110, 0x02, 0x02, .enum, .ro, 0, 2, false, 1⟩,  -- Array area state
  ⟨0x1110, 0x03, 0x03, .cmd, .cmd, 0, 2, false, 4⟩,  -- Array reset
  ⟨0x1110, 0x04, 0x04, .u32, .ro, 0, 2, true, 4⟩,  -- Array resets
  ⟨0x1110, 0x05, 0x05, .u32, .ro, 0, 2, false, 4⟩,  -- Longest array reset
  ⟨0x1120, 0x01, 0x01, .u8, .rwl, 0, 0, false, 1⟩,  -- Group address 1
  ⟨0x1120, 0x02, 0x02, .u8, .rwl, 0, 0, false, 1⟩,  -- Group address 2
  ⟨0x1120, 0x03, 0x03, .u8, .rwl, 0, 0, false, 1⟩,  -- Group address 3
  ⟨0x1120, 0x04, 0x04, .u8, .rwl, 0, 0, false, 1⟩,  -- Group address 4
  ⟨0x1120, 0x05, 0x05, .u8, .ro, 0, 0, false, 1⟩,  -- Strap address
  ⟨0x1120, 0x06, 0x06, .u32, .ro, 0, 0, true, 4⟩  -- Discarded group reads
]

/-- Objects 0x2000 to 0x20FF (R61 of 02_link_signalling.md). -/
def objs20 : List ObjRow := [
  ⟨0x2000, 0x01, 0x01, .enum, .ro, 0, 0, false, 1⟩,  -- Lane rate in use
  ⟨0x2000, 0x02, 0x02, .enum, .ro, 0, 0, false, 1⟩,  -- Highest rate of this grade
  ⟨0x2000, 0x03, 0x03, .enum, .rwl, 2, 0, false, 1⟩,  -- Tracking loop bandwidth
  ⟨0x2000, 0x04, 0x04, .bool, .rwl, 0, 0, false, 1⟩,  -- Host spread spectrum declared
  ⟨0x2000, 0x05, 0x05, .enum, .ro, 2, 0, false, 1⟩,  -- Loop bandwidth in use
  ⟨0x2000, 0x06, 0x06, .u8, .rwl, 12, 0, false, 1⟩,  -- LMS step exponent m
  ⟨0x2000, 0x07, 0x07, .u8, .rwl, 12, 0, false, 1⟩,  -- Drift window W
  ⟨0x2000, 0x08, 0x08, .u16, .rwl, 100, 0, false, 2⟩,  -- Drift hold
  ⟨0x2000, 0x09, 0x09, .bool, .rwl, 1, 0, false, 1⟩,  -- In-place drift retrain allowed
  ⟨0x2000, 0x0A, 0x0A, .bool, .rwl, 1, 0, false, 1⟩,  -- Adaptation enable
  ⟨0x2010, 0x01, 0x10, .u32, .rwl, 0, 0, false, 4⟩,  -- Mask points 1 to 16
  ⟨0x2011, 0x01, 0x01, .enum, .ro, 0, 0, false, 1⟩,  -- Last tap refusal status
  ⟨0x2011, 0x02, 0x02, .u8, .ro, 0, 0, false, 1⟩,  -- Last refused or conflicting lane
  ⟨0x2011, 0x03, 0x03, .u8, .ro, 0, 0, false, 1⟩,  -- Last failing mask point
  ⟨0x2011, 0x04, 0x04, .u32, .ro, 0, 0, true, 4⟩  -- Tap refusals
]

/-- Objects 0x2100 to 0x21FF (R61 of 02_link_signalling.md). -/
def objs21 : List ObjRow := [
  ⟨0x2100, 0x00, 0x8F, .u64, .ro, 0, 0, false, 8⟩,  -- Active tap set
  ⟨0x2101, 0x00, 0x8F, .u8, .rwl, 255, 0, false, 1⟩,  -- Preset for next training
  ⟨0x2110, 0x90, 0xD7, .u8, .ro, 0, 0, false, 1⟩,  -- CTLE setting
  ⟨0x2111, 0x90, 0xD7, .blob, .ro, 0, 0, false, 32⟩,  -- FFE taps, −3 to +12
  ⟨0x2112, 0x90, 0xD7, .s16, .ro, 0, 0, false, 2⟩,  -- DFE tap
  ⟨0x2113, 0x90, 0xD7, .enum, .ro, 0, 0, false, 1⟩,  -- Adaptation state
  ⟨0x2114, 0x90, 0xD7, .u32, .ro, 0, 0, true, 4⟩,  -- Drift events
  ⟨0x2115, 0x90, 0xD7, .u32, .ro, 0, 0, true, 4⟩,  -- Drift retrains
  ⟨0x2116, 0x90, 0xD7, .s32, .ro, 0, 0, false, 4⟩,  -- Frequency offset
  ⟨0x2117, 0x90, 0xD7, .q16, .ro, 0, 0, false, 4⟩,  -- Post-equaliser SNR
  ⟨0x2118, 0x90, 0xD7, .u32, .ro, 0, 0, true, 4⟩  -- Lock losses
]

/-- Objects 0x2200 to 0x22FF (R104 of 03_link_coding_training.md). -/
def objs22 : List ObjRow := [
  ⟨0x2200, 0x01, 0x01, .enum, .rwl, 0, 0, false, 1⟩,  -- Start rate
  ⟨0x2200, 0x02, 0x02, .enum, .ro, 0, 0, false, 1⟩,  -- Bring-up state
  ⟨0x2200, 0x03, 0x03, .u32, .ro, 0, 0, true, 4⟩,  -- Bring-up attempts
  ⟨0x2200, 0x04, 0x04, .u32, .ro, 0, 0, true, 4⟩,  -- Failed attempts
  ⟨0x2200, 0x05, 0x05, .u32, .ro, 0, 0, false, 4⟩,  -- Last bring-up duration
  ⟨0x2200, 0x06, 0x06, .cmd, .cmd, 0, 0, false, 4⟩,  -- Retrain link
  ⟨0x2200, 0x07, 0x07, .enum, .ro, 0, 0, false, 1⟩,  -- Port configuration in use
  ⟨0x2200, 0x08, 0x08, .u16, .ro, 0, 0, false, 2⟩,  -- Protocol revision in use
  ⟨0x2200, 0x09, 0x09, .u8, .ro, 0, 0, false, 1⟩,  -- Host retry depth
  ⟨0x2200, 0x0A, 0x0A, .enum, .rwl, 1, 0, false, 1⟩,  -- Precode request policy
  ⟨0x2201, 0x00, 0x17, .enum, .ro, 0, 0, false, 1⟩,  -- Laneset state
  ⟨0x2202, 0x00, 0xD7, .u8, .ro, 0, 0, false, 1⟩,  -- Stripe lane carried
  ⟨0x2203, 0x00, 0xD7, .bool, .ro, 0, 0, false, 1⟩,  -- Polarity inverted
  ⟨0x2204, 0x00, 0x17, .bool, .ro, 0, 0, false, 1⟩,  -- Laneset reversed
  ⟨0x2205, 0x00, 0xD7, .bool, .ro, 0, 0, false, 1⟩,  -- Precoder on
  ⟨0x2210, 0x10, 0x17, .u64, .ro, 0, 0, true, 8⟩,  -- Codewords decoded
  ⟨0x2211, 0x10, 0x17, .u32, .ro, 0, 0, true, 4⟩,  -- Codewords failed
  ⟨0x2212, 0x10, 0x17, .u64, .ro, 0, 0, true, 8⟩,  -- Corrected bits
  ⟨0x2213, 0x10, 0x17, .q16, .ro, 0, 0, false, 4⟩,  -- Mean iterations, last second
  ⟨0x2214, 0x10, 0x17, .u32, .ro, 0, 0, true, 4⟩,  -- Flit CRC failures
  ⟨0x2215, 0x00, 0x00, .u8, .rwl, 10, 0, false, 1⟩,  -- Decoder iteration limit
  ⟨0x2216, 0x90, 0xD7, .u64, .ro, 0, 0, true, 8⟩,  -- Corrected bits per lane
  ⟨0x2220, 0x01, 0x01, .u16, .rwl, 256, 0, false, 2⟩,  -- Degrade threshold
  ⟨0x2220, 0x02, 0x02, .u16, .rwl, 4096, 0, false, 2⟩,  -- Fail threshold
  ⟨0x2220, 0x03, 0x03, .u32, .ro, 0, 0, true, 4⟩,  -- Hitless repairs
  ⟨0x2220, 0x04, 0x04, .u32, .ro, 0, 0, true, 4⟩,  -- Withdrawals
  ⟨0x2220, 0x05, 0x05, .u8, .ro, 0, 0, false, 1⟩,  -- Lanesets out of service
  ⟨0x2221, 0x00, 0x17, .cmd, .cmd, 0, 0, false, 4⟩,  -- Repair request, value = position
  ⟨0x2230, 0x00, 0xD7, .enum, .rw, 0, 0, false, 1⟩,  -- Checker pattern
  ⟨0x2231, 0x00, 0xD7, .u64, .ro, 0, 0, false, 8⟩,  -- Checker bits compared
  ⟨0x2232, 0x00, 0xD7, .u64, .ro, 0, 0, false, 8⟩,  -- Checker bit errors
  ⟨0x2233, 0x00, 0x17, .cmd, .cmd, 0, 0, false, 4⟩,  -- Pattern test
  ⟨0x2234, 0x00, 0xD7, .cmd, .cmd, 0, 0, false, 4⟩,  -- Clear checker counters
  ⟨0x2240, 0x00, 0x17, .u32, .ro, 0, 0, true, 4⟩,  -- Wakes
  ⟨0x2241, 0x00, 0x17, .u32, .ro, 0, 0, true, 4⟩,  -- False wake receptions
  ⟨0x2242, 0x00, 0x17, .u32, .ro, 0, 0, true, 4⟩  -- Acquisition restarts
]

/-- Objects 0x3000 to 0x30FF (R142 of 04_transactions.md). -/
def objs30 : List ObjRow := [
  ⟨0x3000, 0x00, 0x03, .u64, .ro, 0, 0, true, 8⟩,  -- DATA flits sent
  ⟨0x3001, 0x00, 0x03, .u64, .ro, 0, 0, true, 8⟩,  -- DATA flits delivered
  ⟨0x3002, 0x00, 0x03, .u32, .ro, 0, 0, true, 4⟩,  -- Replay requests sent
  ⟨0x3003, 0x00, 0x03, .u32, .ro, 0, 0, true, 4⟩,  -- Flits resent
  ⟨0x3004, 0x00, 0x03, .u32, .ro, 0, 0, true, 4⟩,  -- Duplicate flits discarded
  ⟨0x3005, 0x00, 0x03, .u32, .ro, 0, 0, true, 4⟩,  -- Protocol errors and malformed requests
  ⟨0x3006, 0x00, 0x03, .u32, .ro, 0, 0, true, 4⟩,  -- Responses discarded, port down
  ⟨0x3007, 0x00, 0x17, .u32, .ro, 0, 0, true, 4⟩,  -- Withdrawals for repeated replay
  ⟨0x3010, 0x01, 0x01, .u8, .rwl, 16, 0, false, 1⟩,  -- RSP reserve
  ⟨0x3010, 0x02, 0x02, .u8, .rwl, 8, 0, false, 1⟩,  -- Replay repeat limit
  ⟨0x3011, 0x00, 0x03, .u16, .ro, 0, 0, false, 2⟩,  -- RSP credits held
  ⟨0x3020, 0x00, 0x03, .u8, .rwl, 0, 0, false, 1⟩,  -- Port class, 4-port configuration
  ⟨0x3021, 0x01, 0x01, .enum, .ro, 0, 0, false, 1⟩,  -- Label use
  ⟨0x3030, 0x01, 0x01, .u16, .rwl, 64, 0, false, 2⟩,  -- Quiet idle entry delay
  ⟨0x3030, 0x02, 0x02, .bool, .rwl, 1, 0, false, 1⟩,  -- Upstream quiet idle enable
  ⟨0x3031, 0x00, 0x03, .bool, .rwl, 0, 0, false, 1⟩,  -- Upstream parking permitted
  ⟨0x3032, 0x00, 0x17, .u32, .ro, 0, 0, true, 4⟩,  -- Quiet idle entries
  ⟨0x3033, 0x00, 0x17, .u32, .ro, 0, 0, true, 4⟩,  -- Parks
  ⟨0x3040, 0x01, 0x01, .u64, .ro, 0, 0, true, 8⟩,  -- Host atomics executed
  ⟨0x3040, 0x02, 0x02, .u64, .ro, 0, 0, true, 8⟩,  -- Parcels released
  ⟨0x3040, 0x03, 0x03, .u64, .ro, 0, 0, true, 8⟩  -- Poisoned lines returned
]

/-- Objects 0x3400 to 0x34FF (R224 of 07_regulation.md). -/
def objs34 : List ObjRow := [
  ⟨0x3400, 0x01, 0x01, .u8, .rwl, 6, 0, false, 1⟩,  -- Latency weight exponent w
  ⟨0x3400, 0x02, 0x02, .u16, .rwl, 4, 0, false, 2⟩,  -- Share window
  ⟨0x3400, 0x03, 0x03, .u8, .rwl, 5, 0, false, 1⟩,  -- Urgency hysteresis H
  ⟨0x3401, 0x00, 0x07, .u16, .rwl, 0, 0, false, 2⟩,  -- Latency target
  ⟨0x3402, 0x00, 0x07, .u16, .rwl, 128, 0, false, 2⟩,  -- Outstanding limit per track
  ⟨0x3403, 0x00, 0x07, .u8, .rwl, 0, 0, false, 1⟩,  -- Minimum share
  ⟨0x3404, 0x00, 0x07, .u16, .rwl, 0, 0, false, 2⟩,  -- Latency seed
  ⟨0x3410, 0x00, 0x07, .u32, .ro, 0, 1, false, 4⟩,  -- Measured latency A
  ⟨0x3411, 0x00, 0x07, .u8, .ro, 0, 1, false, 1⟩,  -- Urgency level
  ⟨0x3412, 0x00, 0x07, .u16, .ro, 128, 1, false, 2⟩,  -- Effective limit
  ⟨0x3413, 0x00, 0x07, .u16, .ro, 0, 1, false, 2⟩,  -- Outstanding transactions
  ⟨0x3414, 0x00, 0x07, .u64, .ro, 0, 1, true, 8⟩,  -- Target misses
  ⟨0x3415, 0x00, 0x07, .u32, .ro, 0, 1, true, 4⟩,  -- Share promotions
  ⟨0x3416, 0x00, 0x07, .bool, .ro, 1, 1, false, 1⟩,  -- Class protected
  ⟨0x3417, 0x00, 0x07, .u64, .ro, 0, 1, true, 8⟩,  -- Line transfers
  ⟨0x3420, 0x01, 0x01, .bool, .ro, 0, 1, false, 1⟩,  -- Overcommitted
  ⟨0x3420, 0x02, 0x02, .u32, .ro, 0, 1, true, 4⟩,  -- Model evaluations
  ⟨0x3420, 0x03, 0x03, .u8, .rwl, 2, 0, false, 1⟩,  -- Model lines per ACT m
  ⟨0x3420, 0x04, 0x04, .u16, .rwl, 66, 0, false, 2⟩,  -- Model latency floor f
  ⟨0x3420, 0x05, 0x05, .u8, .rwl, 10, 0, false, 1⟩,  -- Model reserve r
  ⟨0x3421, 0x00, 0x07, .u32, .ro, 0, 1, false, 4⟩,  -- Predicted latency pred
  ⟨0x3422, 0x01, 0x01, .q16, .ro, 699990, 1, false, 4⟩,  -- Usable capacity u
  ⟨0x3430, 0x00, 0x0F, .u64, .ro, 0, 3, true, 8⟩,  -- Grants per input
  ⟨0x3431, 0x01, 0x01, .u32, .ro, 0, 3, true, 4⟩,  -- Cuts by emergency refresh
  ⟨0x3431, 0x02, 0x02, .u32, .ro, 0, 3, true, 4⟩,  -- Cuts by debug port
  ⟨0x3432, 0x00, 0x0F, .u32, .ro, 0, 3, true, 4⟩,  -- Queue-full events per input
  ⟨0x3440, 0x00, 0x07, .u32, .ro, 0, 1, true, 4⟩  -- Admission queue full
]

/-- Objects 0x4000 to 0x40FF (R167 of 05_placement.md). -/
def objs40a : List ObjRow := [
  ⟨0x4000, 0x01, 0x01, .enum, .ro, 0, 0, false, 1⟩,  -- Placement state
  ⟨0x4000, 0x02, 0x02, .u16, .rwl, 16, 0, false, 2⟩,  -- Warm-up time
  ⟨0x4000, 0x03, 0x03, .u32, .rwl, 4194304, 0, true, 4⟩,  -- Warm-up accesses
  ⟨0x4000, 0x04, 0x04, .u64, .ro, 0, 0, true, 8⟩,  -- Committed line accesses
  ⟨0x4000, 0x05, 0x05, .bool, .rwl, 1, 0, false, 1⟩,  -- Placement policies enable
  ⟨0x4001, 0x01, 0x01, .u32, .rw, 0, 0, false, 4⟩,  -- Parcel selector
  ⟨0x4001, 0x02, 0x02, .u32, .ro, 0, 0, false, 4⟩,  -- Route entry of selected parcel
  ⟨0x4001, 0x03, 0x03, .u8, .ro, 0, 0, false, 1⟩,  -- Heat of selected parcel
  ⟨0x4001, 0x04, 0x04, .cmd, .cmd, 0, 0, false, 4⟩,  -- Pin
  ⟨0x4001, 0x05, 0x05, .cmd, .cmd, 0, 0, false, 4⟩,  -- Unpin
  ⟨0x4010, 0x01, 0x01, .u8, .rwl, 2, 0, false, 1⟩,  -- Move bandwidth limit
  ⟨0x4010, 0x02, 0x02, .u8, .rwl, 16, 0, false, 1⟩,  -- Concurrent moves limit
  ⟨0x4010, 0x03, 0x03, .u64, .ro, 0, 0, true, 8⟩,  -- Moves completed
  ⟨0x4010, 0x04, 0x04, .u32, .ro, 0, 0, true, 4⟩,  -- Moves abandoned
  ⟨0x4010, 0x05, 0x05, .u32, .ro, 0, 0, true, 4⟩,  -- Moves rolled back by fault
  ⟨0x4010, 0x06, 0x06, .u8, .ro, 0, 0, false, 1⟩,  -- Moves in progress
  ⟨0x4010, 0x07, 0x07, .u8, .rwl, 16, 0, false, 1⟩,  -- Swap dirty-line threshold
  ⟨0x4010, 0x08, 0x08, .u16, .rwl, 10, 0, false, 2⟩,  -- Move progress timeout
  ⟨0x4011, 0x01, 0x01, .u32, .ro, 4096, 1, false, 4⟩,  -- Free slots
  ⟨0x4011, 0x02, 0x02, .u32, .ro, 4096, 1, false, 4⟩,  -- FREE_ZEROED slots
  ⟨0x4011, 0x03, 0x03, .u32, .ro, 262144, 1, false, 4⟩,  -- Parcels held
  ⟨0x4011, 0x04, 0x04, .u32, .ro, 0, 1, true, 4⟩,  -- Retired slots
  ⟨0x4011, 0x05, 0x05, .bool, .ro, 0, 1, false, 1⟩,  -- Track parked
  ⟨0x4011, 0x06, 0x06, .bool, .rwl, 0, 1, false, 1⟩,  -- Parking permitted
  ⟨0x4011, 0x07, 0x07, .u64, .ro, 0, 1, false, 8⟩,  -- Move bytes
  ⟨0x4020, 0x01, 0x01, .u32, .rwl, 1000, 0, false, 4⟩,  -- Heat epoch
  ⟨0x4020, 0x02, 0x02, .u8, .rwl, 192, 0, false, 1⟩,  -- Hot threshold
  ⟨0x4020, 0x03, 0x03, .u8, .rwl, 64, 0, false, 1⟩,  -- Thermal threshold
  ⟨0x4030, 0x01, 0x01, .u16, .rwl, 256, 0, false, 2⟩,  -- Zeroed slot reserve
  ⟨0x4030, 0x02, 0x02, .u32, .rwl, 32768, 0, false, 4⟩,  -- Park margin
  ⟨0x4030, 0x03, 0x03, .u32, .rwl, 8192, 0, false, 4⟩,  -- Unpark watermark
  ⟨0x4030, 0x04, 0x04, .u32, .ro, 0, 0, true, 4⟩,  -- Writes that waited for a slot
  ⟨0x4040, 0x01, 0x01, .bool, .rwl, 1, 0, false, 1⟩,  -- Bank spread enable
  ⟨0x4040, 0x02, 0x02, .q16, .rwl, 131072, 0, false, 4⟩,  -- Spread ratio
  ⟨0x4041, 0x01, 0x01, .bool, .rwl, 1, 0, false, 1⟩,  -- Thermal relief enable
  ⟨0x4041, 0x02, 0x02, .u32, .ro, 0, 0, true, 4⟩,  -- Thermal moves
  ⟨0x4050, 0x01, 0x01, .u8, .rwl, 4, 0, false, 1⟩,  -- Weak-row threshold
  ⟨0x4050, 0x02, 0x02, .u16, .rwl, 16, 0, false, 2⟩,  -- Retirement threshold
  ⟨0x4050, 0x03, 0x03, .blob, .rwl, 0, 0, false, 1024⟩,  -- Retired slot list
  ⟨0x4050, 0x04, 0x04, .u32, .ro, 0, 0, true, 4⟩  -- Weak-row moves
]

/-- Objects 0x4000 to 0x40FF (R167 of 05_placement.md). -/
def objs40b : List ObjRow := [
  ⟨0x4050, 0x05, 0x05, .u32, .ro, 0, 0, true, 4⟩,  -- Retirements
  ⟨0x4060, 0x01, 0x01, .bool, .rwl, 1, 0, false, 1⟩,  -- Co-location enable
  ⟨0x4060, 0x02, 0x02, .u8, .rwl, 4, 0, false, 1⟩,  -- Recurrence threshold
  ⟨0x4060, 0x03, 0x03, .u32, .ro, 0, 0, true, 4⟩,  -- Co-location moves
  ⟨0x4070, 0x01, 0x01, .bool, .rwl, 1, 0, false, 1⟩,  -- Compaction enable
  ⟨0x4070, 0x02, 0x02, .u32, .ro, 0, 0, true, 4⟩,  -- Parcels retired by compaction
  ⟨0x4080, 0x01, 0x01, .u32, .ro, 0, 0, true, 4⟩,  -- Route table rebuilds
  ⟨0x4080, 0x02, 0x02, .u32, .ro, 0, 0, true, 4⟩,  -- Route entries corrected
  ⟨0x4080, 0x03, 0x03, .u32, .ro, 0, 0, true, 4⟩,  -- Mirror lookups
  ⟨0x4080, 0x04, 0x04, .u16, .ro, 0, 0, false, 2⟩  -- Unapplied journal records
]

/-- Objects 0x5000 to 0x50FF (R200 of 06_channels.md). -/
def objs50 : List ObjRow := [
  ⟨0x5000, 0x01, 0x01, .u16, .rwl, 30, 0, false, 2⟩,  -- Row idle time
  ⟨0x5000, 0x02, 0x02, .u8, .rwl, 24, 0, false, 1⟩,  -- Write drain high mark
  ⟨0x5000, 0x03, 0x03, .u8, .rwl, 8, 0, false, 1⟩,  -- Write drain low mark
  ⟨0x5010, 0x01, 0x01, .enum, .ro, 0, 1, false, 1⟩,  -- Gear in use
  ⟨0x5010, 0x02, 0x02, .enum, .rwl, 0, 1, false, 1⟩,  -- Fastest gear permitted
  ⟨0x5010, 0x03, 0x03, .u32, .ro, 0, 1, true, 4⟩,  -- Gear changes
  ⟨0x5010, 0x04, 0x04, .u32, .ro, 0, 1, false, 4⟩,  -- Longest gear change
  ⟨0x5011, 0x00, 0x02, .blob, .ro, 0, 2, false, 38⟩,  -- Timing counts, G0 to G2
  ⟨0x5012, 0x01, 0x01, .enum, .ro, 0, 3, false, 1⟩,  -- Timing set in use
  ⟨0x5020, 0x01, 0x01, .u8, .rwl, 8, 0, false, 1⟩,  -- Postponement limit, Slate
  ⟨0x5020, 0x02, 0x02, .u8, .rwl, 4, 0, false, 1⟩,  -- Postponement limit, Ochre and Russet
  ⟨0x5020, 0x03, 0x03, .u8, .rwl, 10, 0, false, 1⟩,  -- Neighbour refresh exponent k
  ⟨0x5020, 0x04, 0x04, .u16, .rwl, 1000, 0, false, 2⟩,  -- Targeted refresh escalation time
  ⟨0x5021, 0x01, 0x01, .s16, .ro, 0, 4, false, 2⟩,  -- Refresh owed
  ⟨0x5021, 0x02, 0x02, .u64, .ro, 0, 4, true, 8⟩,  -- Routine refreshes
  ⟨0x5021, 0x03, 0x03, .u32, .ro, 0, 4, true, 4⟩,  -- Emergency refreshes
  ⟨0x5021, 0x04, 0x04, .u64, .ro, 0, 4, true, 8⟩,  -- Targeted refreshes
  ⟨0x5021, 0x05, 0x05, .u32, .ro, 0, 4, true, 4⟩,  -- Targeted refresh escalations
  ⟨0x5022, 0x01, 0x01, .u32, .ro, 0, 3, false, 4⟩,  -- Neighbour LFSR state
  ⟨0x5030, 0x01, 0x01, .u16, .rwl, 50, 0, false, 2⟩,  -- Retraining period
  ⟨0x5030, 0x02, 0x02, .u8, .rwl, 35, 0, false, 1⟩  -- TSV eye threshold
]

/-- Objects 0x5100 to 0x51FF (R200 of 06_channels.md). -/
def objs51 : List ObjRow := [
  ⟨0x5120, 0x01, 0x01, .u64, .ro, 0, 3, true, 8⟩,  -- ACTs
  ⟨0x5120, 0x02, 0x02, .u64, .ro, 0, 3, true, 8⟩,  -- Lines read
  ⟨0x5120, 0x03, 0x03, .u64, .ro, 0, 3, true, 8⟩,  -- Lines written
  ⟨0x5120, 0x04, 0x04, .u32, .ro, 0, 3, true, 4⟩,  -- Command parity replays
  ⟨0x5120, 0x05, 0x05, .u32, .ro, 0, 3, true, 4⟩,  -- Write CRC replays
  ⟨0x5120, 0x06, 0x06, .u32, .ro, 0, 3, true, 4⟩,  -- Replay-limit retrains
  ⟨0x5120, 0x07, 0x07, .u32, .ro, 0, 3, true, 4⟩,  -- Retraining windows
  ⟨0x5120, 0x08, 0x08, .u8, .ro, 0, 3, true, 1⟩,  -- TSVs remapped
  ⟨0x5120, 0x09, 0x09, .u8, .ro, 0, 3, false, 1⟩,  -- Spare TSVs left
  ⟨0x5120, 0x0A, 0x0A, .u8, .ro, 0, 3, false, 1⟩,  -- Narrowest eye, last window
  ⟨0x5130, 0x01, 0x01, .bool, .ro, 0, 6, false, 1⟩,  -- Retention-suspect
  ⟨0x5130, 0x02, 0x02, .u16, .ro, 0, 6, true, 2⟩,  -- Canary lines corrected, last wake
  ⟨0x5130, 0x03, 0x03, .u8, .rwl, 25, 0, false, 1⟩,  -- Priority scrub bandwidth
  ⟨0x5130, 0x04, 0x04, .u32, .ro, 0, 6, true, 4⟩,  -- Lines poisoned by priority scrub
  ⟨0x5130, 0x05, 0x05, .u32, .ro, 0, 0, true, 4⟩,  -- Priority scrubs completed
  ⟨0x5140, 0x01, 0x01, .enum, .ro, 0, 2, false, 1⟩,  -- Self-refresh rate step, last used
  ⟨0x5140, 0x02, 0x02, .u8, .ro, 0, 2, false, 1⟩  -- Bandgap trim code
]

/-- Objects 0x6000 to 0x60FF (R252 of 08_waypoint_jobs.md). -/
def objs60 : List ObjRow := [
  ⟨0x6000, 0x01, 0x01, .u8, .ro, 32, 0, false, 1⟩,  -- Engine count
  ⟨0x6000, 0x02, 0x02, .bool, .rwl, 1, 0, false, 1⟩,  -- Job admission enable
  ⟨0x6000, 0x03, 0x03, .u32, .rwl, 0, 0, false, 4⟩,  -- Job run time limit, 0 none
  ⟨0x6001, 0x00, 0x03, .u16, .ro, 0, 0, false, 2⟩,  -- Job slots in use
  ⟨0x6002, 0x00, 0x03, .u64, .ro, 0, 0, true, 8⟩,  -- Jobs admitted
  ⟨0x6003, 0x00, 0x03, .u64, .ro, 0, 0, true, 8⟩,  -- Jobs completed
  ⟨0x6004, 0x00, 0x03, .u32, .ro, 0, 0, true, 4⟩,  -- Jobs aborted
  ⟨0x6005, 0x00, 0x03, .u32, .ro, 0, 0, true, 4⟩,  -- Descriptors refused
  ⟨0x6006, 0x01, 0x01, .cmd, .cmd, 0, 0, false, 4⟩,  -- Abort job
  ⟨0x6011, 0x00, 0x1F, .enum, .ro, 0, 0, false, 1⟩,  -- Engine state
  ⟨0x6012, 0x00, 0x1F, .u64, .ro, 0, 0, true, 8⟩,  -- Parts run
  ⟨0x6013, 0x00, 0x1F, .u32, .ro, 0, 0, true, 4⟩,  -- Engine resets
  ⟨0x6014, 0x00, 0x1F, .u64, .ro, 0, 0, true, 8⟩,  -- Busy cycles
  ⟨0x6015, 0x00, 0x1F, .cmd, .cmd, 0, 0, false, 4⟩,  -- Reset engine
  ⟨0x6016, 0x00, 0x1F, .u32, .ro, 0, 0, false, 4⟩,  -- Queued part lines
  ⟨0x6020, 0x01, 0x01, .u32, .ro, 0, 0, true, 4⟩,  -- Parts re-placed
  ⟨0x6020, 0x02, 0x02, .u8, .rwl, 2, 0, false, 1⟩,  -- Re-placement limit
  ⟨0x6020, 0x03, 0x03, .u32, .ro, 0, 0, true, 4⟩,  -- ATOMIC-BATCH resumes
  ⟨0x6030, 0x01, 0x01, .bool, .rwl, 1, 0, false, 1⟩,  -- Speculation enable
  ⟨0x6030, 0x02, 0x02, .u8, .rwl, 64, 0, false, 1⟩,  -- Run-ahead depth
  ⟨0x6030, 0x03, 0x03, .u64, .ro, 0, 0, true, 8⟩,  -- Speculative lines read
  ⟨0x6030, 0x04, 0x04, .u64, .ro, 0, 0, true, 8⟩,  -- Speculative lines discarded
  ⟨0x6030, 0x05, 0x05, .u32, .ro, 0, 0, true, 4⟩,  -- Lines poisoned by speculation
  ⟨0x6040, 0x01, 0x01, .u16, .rwl, 10, 0, false, 2⟩,  -- Lock wait timeout
  ⟨0x6040, 0x02, 0x02, .u32, .ro, 0, 0, true, 4⟩,  -- Lock timeouts
  ⟨0x6040, 0x03, 0x03, .u32, .ro, 0, 0, true, 4⟩,  -- Lock order traps
  ⟨0x6050, 0x01, 0x01, .u64, .ro, 0, 0, false, 8⟩,  -- Ringroad bytes, ascending direction
  ⟨0x6050, 0x02, 0x02, .u64, .ro, 0, 0, false, 8⟩,  -- Ringroad bytes, descending direction
  ⟨0x6060, 0x01, 0x01, .u8, .ro, 0, 0, false, 1⟩,  -- Recurring signatures held
  ⟨0x6060, 0x02, 0x02, .u32, .ro, 0, 0, true, 4⟩  -- Recurrence reports
]

/-- Objects 0x6100 to 0x61FF (R252 of 08_waypoint_jobs.md). -/
def objs61 : List ObjRow := [
  ⟨0x6100, 0x01, 0x01, .u8, .rw, 0, 0, false, 1⟩,  -- Kernel number for load
  ⟨0x6100, 0x02, 0x02, .blob, .wo, 0, 0, false, 8192⟩,  -- Kernel image append
  ⟨0x6100, 0x03, 0x03, .cmd, .cmd, 0, 0, false, 4⟩,  -- Begin kernel load
  ⟨0x6100, 0x04, 0x04, .cmd, .cmd, 0, 0, false, 4⟩,  -- Activate kernel, value CRC-32C
  ⟨0x6101, 0x00, 0x3F, .u16, .ro, 0, 0, false, 2⟩,  -- Active version, 0 none
  ⟨0x6102, 0x00, 0x3F, .u8, .ro, 255, 0, false, 1⟩,  -- Physical slot of active version
  ⟨0x6103, 0x00, 0x3F, .u16, .ro, 0, 0, false, 2⟩,  -- Jobs bound per physical slot
  ⟨0x6104, 0x01, 0x01, .u8, .ro, 64, 0, false, 1⟩,  -- Free physical slots
  ⟨0x6105, 0x00, 0x3F, .cmd, .cmd, 0, 0, false, 4⟩  -- Retire kernel number
]

/-- Objects 0x6200 to 0x62FF (R279 of 09_waypoint_isa.md). -/
def objs62 : List ObjRow := [
  ⟨0x6200, 0x01, 0x01, .u16, .ro, 256, 0, false, 2⟩,  -- Instruction set revision
  ⟨0x6200, 0x02, 0x02, .u32, .ro, 0, 0, true, 4⟩,  -- Kernel traps
  ⟨0x6200, 0x03, 0x03, .u8, .ro, 0, 0, false, 1⟩,  -- Last trap code
  ⟨0x6200, 0x04, 0x04, .u32, .ro, 0, 0, false, 4⟩,  -- Last trap address
  ⟨0x6200, 0x05, 0x05, .u8, .ro, 255, 0, false, 1⟩,  -- Last trap kernel number
  ⟨0x6200, 0x06, 0x06, .u32, .ro, 0, 0, true, 4⟩,  -- Poison-use traps
  ⟨0x6200, 0x07, 0x07, .u32, .ro, 0, 0, true, 4⟩,  -- MILESTONE not armed
  ⟨0x6200, 0x08, 0x08, .u32, .rwl, 2000, 0, false, 4⟩,  -- Watchdog interval
  ⟨0x6201, 0x00, 0x1F, .u64, .ro, 0, 0, true, 8⟩  -- Instructions retired
]

/-- Objects 0x7000 to 0x70FF (R324 of 11_power_clocks.md). -/
def objs70a : List ObjRow := [
  ⟨0x7000, 0x01, 0x01, .enum, .ro, 0, 0, false, 1⟩,  -- Stack state
  ⟨0x7000, 0x02, 0x02, .u32, .rwl, 100, 0, false, 4⟩,  -- Idle delay
  ⟨0x7000, 0x03, 0x03, .cmd, .cmd, 0, 0, false, 4⟩,  -- Sleep request
  ⟨0x7000, 0x04, 0x04, .u32, .rwl, 0, 0, false, 4⟩,  -- Automatic sleep delay, 0 never
  ⟨0x7000, 0x05, 0x05, .enum, .ro, 0, 0, false, 1⟩,  -- Last sleep result
  ⟨0x7000, 0x06, 0x06, .u8, .ro, 0, 0, false, 1⟩,  -- Last refusing block
  ⟨0x7000, 0x07, 0x07, .u32, .ro, 0, 0, true, 4⟩,  -- Sleep entries
  ⟨0x7000, 0x08, 0x08, .u32, .ro, 0, 0, true, 4⟩,  -- Sleep refusals
  ⟨0x7000, 0x09, 0x09, .u32, .ro, 0, 0, false, 4⟩,  -- Last sleep entry duration
  ⟨0x7000, 0x0A, 0x0A, .u32, .ro, 0, 0, false, 4⟩,  -- Last wake duration
  ⟨0x7010, 0x01, 0x01, .u8, .rwl, 31, 0, false, 1⟩,  -- Wake enables
  ⟨0x7010, 0x02, 0x02, .bool, .rwl, 0, 0, false, 1⟩,  -- WAKE0 polarity
  ⟨0x7010, 0x03, 0x03, .bool, .rwl, 0, 0, false, 1⟩,  -- WAKE1 polarity
  ⟨0x7010, 0x04, 0x04, .temp, .rwl, 21760, 0, false, 2⟩,  -- Thermal wake threshold
  ⟨0x7010, 0x05, 0x05, .enum, .ro, 7, 0, false, 1⟩,  -- Last wake source
  ⟨0x7010, 0x06, 0x06, .timeNs, .ro, 0, 0, false, 8⟩,  -- Last wake time
  ⟨0x7010, 0x07, 0x07, .u16, .ro, 0, 0, false, 2⟩,  -- Last wake detail
  ⟨0x7010, 0x08, 0x08, .u8, .ro, 0, 0, false, 1⟩,  -- Wake sources seen, last wake
  ⟨0x7010, 0x09, 0x09, .u32, .ro, 0, 0, true, 4⟩,  -- Ouvend frames discarded in sleep
  ⟨0x7020, 0x01, 0x01, .u16, .rwl, 140, 0, false, 2⟩,  -- Power cap
  ⟨0x7020, 0x02, 0x02, .u8, .rwl, 5, 0, false, 1⟩,  -- Cap hysteresis H
  ⟨0x7020, 0x03, 0x03, .q16, .ro, 0, 0, false, 4⟩,  -- Measured power
  ⟨0x7020, 0x04, 0x04, .enum, .ro, 0, 0, false, 1⟩,  -- Cap step in force
  ⟨0x7020, 0x05, 0x05, .u8, .rwl, 64, 0, false, 1⟩,  -- Power scale floor
  ⟨0x7020, 0x06, 0x06, .u32, .ro, 0, 0, true, 4⟩,  -- Cap unmet events
  ⟨0x7020, 0x07, 0x07, .u16, .ro, 256, 1, false, 2⟩,  -- Power scale
  ⟨0x7020, 0x08, 0x08, .bool, .ro, 0, 1, false, 1⟩,  -- Engine clock halved
  ⟨0x7021, 0x01, 0x05, .q16, .ro, 0, 0, false, 4⟩,  -- Input rail power, VIN_L, VIN_S, VIN_A, VIN_D, VIN_AO
  ⟨0x7030, 0x01, 0x01, .enum, .rwl, 0, 0, false, 1⟩,  -- Track parking mode
  ⟨0x7030, 0x02, 0x02, .u16, .rwl, 100, 0, false, 2⟩,  -- Unpark delay
  ⟨0x7030, 0x03, 0x03, .u32, .rwl, 1000, 0, false, 4⟩,  -- Idle laneset park delay
  ⟨0x7030, 0x04, 0x04, .u16, .rwl, 50, 0, false, 2⟩,  -- Engine gating delay
  ⟨0x7030, 0x05, 0x05, .bool, .rwl, 0, 0, false, 1⟩,  -- Debug domain enable
  ⟨0x7040, 0x00, 0x3D, .enum, .ro, 0, 0, false, 1⟩,  -- Domain power state
  ⟨0x7041, 0x00, 0x3D, .u32, .ro, 0, 0, true, 4⟩,  -- Domain transitions
  ⟨0x7042, 0x00, 0x3D, .u8, .ro, 64, 0, false, 1⟩,  -- Domain gating budget
  ⟨0x7050, 0x01, 0x01, .q16, .ro, 0, 1, false, 4⟩,  -- VDDQC voltage
  ⟨0x7050, 0x02, 0x02, .q16, .ro, 0, 1, false, 4⟩,  -- VPP voltage
  ⟨0x7050, 0x03, 0x03, .u16, .ro, 0, 0, false, 2⟩,  -- Last regulator fault, rail and track
  ⟨0x7060, 0x01, 0x01, .bool, .ro, 1, 0, false, 1⟩  -- Root PLL locked
]

/-- Objects 0x7000 to 0x70FF (R324 of 11_power_clocks.md, R466 of 17_package_electrical.md). -/
def objs70b : List ObjRow := [
  ⟨0x7060, 0x02, 0x02, .u32, .ro, 0, 0, true, 4⟩,  -- Clock faults
  ⟨0x7060, 0x03, 0x03, .s32, .ro, 0, 0, false, 4⟩,  -- Crystal offset
  ⟨0x7070, 0x01, 0x05, .q16, .ro, 0, 0, false, 4⟩,  -- Input rail voltage, VIN_L, VIN_S, VIN_A, VIN_D, VIN_AO
  ⟨0x7070, 0x06, 0x06, .u32, .ro, 0, 0, true, 4⟩,  -- Input rail excursions
  ⟨0x7070, 0x07, 0x07, .q16, .ro, 0, 0, false, 4⟩  -- Lowest VIN_D since power-up
]

/-- Objects 0x7800 to 0x78FF (R350 of 12_thermal.md). -/
def objs78 : List ObjRow := [
  ⟨0x7800, 0x00, 0x9B, .temp, .ro, 0, 0, false, 2⟩,  -- Sensor temperature
  ⟨0x7801, 0x00, 0x9B, .bool, .ro, 0, 0, false, 1⟩,  -- Sensor failed
  ⟨0x7802, 0x00, 0x9B, .u16, .ro, 0, 0, false, 2⟩,  -- Sensor count
  ⟨0x7810, 0x01, 0x01, .enum, .ro, 0, 2, false, 1⟩,  -- Band
  ⟨0x7810, 0x02, 0x02, .temp, .ro, 0, 2, false, 2⟩,  -- Band temperature
  ⟨0x7810, 0x03, 0x03, .u16, .ro, 256, 1, false, 2⟩,  -- Thermal scale
  ⟨0x7810, 0x04, 0x04, .enum, .ro, 3, 1, false, 1⟩,  -- Thermal gear ceiling
  ⟨0x7810, 0x05, 0x05, .u32, .ro, 0, 2, true, 4⟩,  -- Band changes
  ⟨0x7810, 0x06, 0x06, .u32, .ro, 0, 2, false, 4⟩,  -- Time in Russet
  ⟨0x7811, 0x01, 0x01, .temp, .ro, 0, 0, false, 2⟩,  -- Base die temperature
  ⟨0x7811, 0x02, 0x02, .bool, .ro, 0, 0, false, 1⟩,  -- Base die hot
  ⟨0x7820, 0x01, 0x01, .u8, .rwl, 8, 0, false, 1⟩,  -- Distrust margin
  ⟨0x7820, 0x02, 0x02, .u8, .rwl, 10, 0, false, 1⟩,  -- Distrust time
  ⟨0x7820, 0x03, 0x03, .u8, .rwl, 4, 0, false, 1⟩,  -- Distrust exit hysteresis
  ⟨0x7820, 0x04, 0x04, .u8, .rwl, 15, 0, false, 1⟩,  -- Sensor disagreement limit
  ⟨0x7820, 0x05, 0x05, .bool, .ro, 0, 0, false, 1⟩,  -- Distrust armed
  ⟨0x7821, 0x01, 0x01, .bool, .ro, 0, 2, false, 1⟩,  -- Under distrust
  ⟨0x7821, 0x02, 0x02, .temp, .ro, 0, 2, false, 2⟩,  -- Model lower bound lo
  ⟨0x7821, 0x03, 0x03, .temp, .ro, 0, 2, false, 2⟩,  -- Model estimate e
  ⟨0x7821, 0x04, 0x04, .q16, .ro, 0, 2, false, 4⟩,  -- Modelled die power p
  ⟨0x7821, 0x05, 0x05, .u32, .ro, 0, 2, true, 4⟩,  -- Distrust entries
  ⟨0x7840, 0x01, 0x01, .u64, .rwl, 0, 2, false, 8⟩,  -- Damage index, base
  ⟨0x7840, 0x02, 0x02, .u64, .ro, 0, 2, false, 8⟩,  -- Damage index, session
  ⟨0x7840, 0x03, 0x03, .u64, .ro, 0, 2, false, 8⟩,  -- Damage index, total
  ⟨0x7840, 0x04, 0x04, .u32, .ro, 0, 2, true, 4⟩,  -- Half-cycles of 20 °C or more
  ⟨0x7840, 0x05, 0x05, .temp, .ro, 0, 2, false, 2⟩,  -- Largest half-cycle, session
  ⟨0x7860, 0x01, 0x01, .temp, .rw, 3840, 0, false, 2⟩,  -- Declared inlet temperature
  ⟨0x7860, 0x02, 0x02, .temp, .ro, 0, 0, false, 2⟩,  -- CS1 outlet temperature
  ⟨0x7860, 0x03, 0x03, .temp, .ro, 0, 0, false, 2⟩,  -- CS2 outlet temperature
  ⟨0x7860, 0x04, 0x04, .temp, .rwl, 3840, 0, false, 2⟩,  -- Outlet rise threshold
  ⟨0x7880, 0x01, 0x01, .enum, .ro, 0, 0, false, 1⟩,  -- Trip state
  ⟨0x7880, 0x02, 0x02, .u32, .ro, 0, 0, true, 4⟩,  -- Trips
  ⟨0x7880, 0x03, 0x03, .enum, .ro, 0, 0, false, 1⟩,  -- Last trip cause
  ⟨0x7880, 0x04, 0x04, .u8, .ro, 255, 0, false, 1⟩,  -- Last trip sensor or die
  ⟨0x7880, 0x05, 0x05, .temp, .ro, 0, 0, false, 2⟩,  -- Peak temperature, last trip
  ⟨0x7880, 0x06, 0x06, .bool, .ro, 0, 0, false, 1⟩,  -- DRAM power removed, last trip
  ⟨0x7880, 0x07, 0x07, .u32, .ro, 0, 0, false, 4⟩,  -- Last trip duration
  ⟨0x7880, 0x08, 0x08, .u32, .ro, 0, 0, true, 4⟩  -- Trips with DRAM power removed
]

/-- Objects 0x8000 to 0x80FF (R411 of 14_faults_milestones.md). -/
def objs80 : List ObjRow := [
  ⟨0x8000, 0x01, 0x01, .u16, .rw, 0, 0, false, 2⟩,  -- Source selector
  ⟨0x8000, 0x02, 0x02, .bool, .ro, 0, 0, false, 1⟩,  -- Status
  ⟨0x8000, 0x03, 0x03, .bool, .ro, 0, 0, false, 1⟩,  -- Active
  ⟨0x8000, 0x04, 0x04, .bool, .rwl, 1, 0, false, 1⟩,  -- Enable
  ⟨0x8000, 0x05, 0x05, .enum, .rwl, 0, 0, false, 1⟩,  -- Severity
  ⟨0x8000, 0x06, 0x06, .enum, .ro, 0, 0, false, 1⟩,  -- Default severity
  ⟨0x8000, 0x07, 0x07, .u32, .ro, 0, 0, true, 4⟩,  -- Occurrences
  ⟨0x8000, 0x08, 0x08, .str, .ro, 0, 0, false, 64⟩,  -- Source name
  ⟨0x8000, 0x09, 0x09, .cmd, .cmd, 0, 0, false, 4⟩,  -- Force
  ⟨0x8000, 0x0A, 0x0A, .cmd, .cmd, 0, 0, false, 4⟩,  -- Clear
  ⟨0x8000, 0x0B, 0x0B, .cmd, .cmd, 0, 0, false, 4⟩,  -- Clear occurrences
  ⟨0x8001, 0x01, 0x01, .blob, .ro, 0, 0, false, 53⟩,  -- Status map
  ⟨0x8001, 0x02, 0x02, .blob, .ro, 0, 0, false, 53⟩,  -- Active map
  ⟨0x8001, 0x03, 0x03, .bool, .ro, 0, 0, false, 1⟩,  -- ERR_N low
  ⟨0x8001, 0x04, 0x04, .cmd, .cmd, 0, 0, false, 4⟩,  -- Clear all inactive
  ⟨0x8001, 0x05, 0x05, .u16, .ro, 418, 0, false, 2⟩,  -- Source count
  ⟨0x8010, 0x00, 0xFF, .blob, .ro, 0, 0, false, 64⟩,  -- Fault record
  ⟨0x8011, 0x01, 0x01, .u32, .ro, 0, 0, true, 4⟩,  -- Records written
  ⟨0x8011, 0x02, 0x02, .u8, .ro, 0, 0, false, 1⟩,  -- Newest record slot
  ⟨0x8011, 0x03, 0x03, .u64, .ro, 0, 0, true, 8⟩,  -- Occurrences not recorded
  ⟨0x8012, 0x01, 0x01, .blob, .ro, 0, 0, false, 64⟩,  -- First fault
  ⟨0x8012, 0x02, 0x02, .blob, .ro, 0, 0, false, 64⟩,  -- Last fault
  ⟨0x8012, 0x03, 0x03, .enum, .rwl, 2, 0, false, 1⟩,  -- First and last fault threshold
  ⟨0x8012, 0x04, 0x04, .cmd, .cmd, 0, 0, false, 4⟩,  -- Empty first and last fault
  ⟨0x8020, 0x01, 0x01, .u8, .rwl, 0, 0, false, 1⟩,  -- Notification severities
  ⟨0x8020, 0x02, 0x02, .u8, .rwl, 15, 0, false, 1⟩,  -- Notification ports
  ⟨0x8020, 0x03, 0x03, .u32, .ro, 0, 0, true, 4⟩  -- Notifications skipped
]

/-- Objects 0x8200 to 0x82FF (R411 of 14_faults_milestones.md). -/
def objs82 : List ObjRow := [
  ⟨0x8200, 0x01, 0x01, .u32, .ro, 0, 0, true, 4⟩,  -- Steward restarts
  ⟨0x8200, 0x02, 0x02, .u32, .ro, 0, 0, true, 4⟩,  -- Lockstep mismatches
  ⟨0x8200, 0x03, 0x03, .u32, .ro, 0, 0, false, 4⟩  -- Last restart duration
]

/-- Objects 0x8300 to 0x83FF (R411 of 14_faults_milestones.md). -/
def objs83 : List ObjRow := [
  ⟨0x8300, 0x01, 0x01, .bool, .ro, 0, 0, false, 1⟩,  -- Grey mode
  ⟨0x8300, 0x02, 0x02, .cmd, .cmd, 0, 0, false, 4⟩,  -- Enter Grey mode
  ⟨0x8300, 0x03, 0x03, .cmd, .cmd, 0, 0, false, 4⟩,  -- Resume
  ⟨0x8300, 0x04, 0x04, .u8, .ro, 0, 0, false, 1⟩,  -- Grey causes
  ⟨0x8300, 0x05, 0x05, .u32, .ro, 0, 0, true, 4⟩,  -- Grey entries
  ⟨0x8300, 0x06, 0x06, .timeNs, .ro, 0, 0, false, 8⟩,  -- Last entry time
  ⟨0x8300, 0x07, 0x07, .u16, .ro, 65535, 0, false, 2⟩  -- Entering source
]

/-- Objects 0x9000 to 0x90FF (R411 of 14_faults_milestones.md). -/
def objs90 : List ObjRow := [
  ⟨0x9000, 0x01, 0x01, .cmd, .cmd, 0, 0, false, 4⟩,  -- Arm
  ⟨0x9000, 0x02, 0x02, .enum, .ro, 0, 0, false, 1⟩,  -- Trigger state
  ⟨0x9000, 0x03, 0x03, .u8, .rwl, 31, 0, false, 1⟩,  -- Trigger enables
  ⟨0x9000, 0x04, 0x04, .enum, .rwl, 2, 0, false, 1⟩,  -- Fault match severity
  ⟨0x9000, 0x05, 0x05, .u16, .rwl, 65535, 0, false, 2⟩,  -- Fault match source
  ⟨0x9000, 0x06, 0x06, .u8, .rwl, 14, 0, false, 1⟩,  -- Link event enables
  ⟨0x9000, 0x07, 0x07, .bool, .rwl, 1, 0, false, 1⟩,  -- Drive MILESTONE
  ⟨0x9000, 0x08, 0x08, .cmd, .cmd, 0, 0, false, 4⟩,  -- Trigger
  ⟨0x9000, 0x09, 0x09, .u32, .ro, 0, 0, true, 4⟩,  -- Triggers while not armed
  ⟨0x9000, 0x0A, 0x0A, .u32, .ro, 0, 0, true, 4⟩,  -- Firings
  ⟨0x9010, 0x01, 0x01, .timeNs, .ro, 0, 0, false, 8⟩,  -- Trigger time
  ⟨0x9010, 0x02, 0x02, .enum, .ro, 0, 0, false, 1⟩,  -- Trigger source
  ⟨0x9010, 0x03, 0x03, .u16, .ro, 0, 0, false, 2⟩,  -- Trigger detail
  ⟨0x9010, 0x04, 0x04, .u8, .ro, 0, 0, false, 1⟩,  -- Trigger sources seen
  ⟨0x9010, 0x05, 0x05, .blob, .ro, 0, 0, false, 53⟩,  -- Status map at trigger
  ⟨0x9010, 0x06, 0x06, .u32, .ro, 0, 0, true, 4⟩,  -- Records written at trigger
  ⟨0x9020, 0x01, 0x01, .u32, .rw, 0, 0, false, 4⟩,  -- Snapshot object
  ⟨0x9020, 0x02, 0x02, .blob, .ro, 0, 0, false, 8⟩,  -- Snapshot value
  ⟨0x9030, 0x01, 0x01, .bool, .rwl, 1, 0, false, 1⟩,  -- Beacon synchronisation
  ⟨0x9030, 0x02, 0x02, .u16, .rwl, 0, 0, false, 2⟩,  -- Bus delay compensation
  ⟨0x9030, 0x03, 0x03, .u32, .rwl, 1000, 0, false, 4⟩,  -- Slew threshold
  ⟨0x9030, 0x04, 0x04, .s32, .ro, 0, 0, false, 4⟩,  -- Last beacon error
  ⟨0x9030, 0x05, 0x05, .u32, .ro, 0, 0, true, 4⟩,  -- Time steps
  ⟨0x9030, 0x06, 0x06, .u32, .ro, 0, 0, true, 4⟩,  -- Beacons received
  ⟨0x9030, 0x07, 0x07, .timeNs, .ro, 0, 0, false, 8⟩  -- Stack time
]

/-- Objects 0x9800 to 0x98FF (R301 of 10_integrity.md). -/
def objs98 : List ObjRow := [
  ⟨0x9800, 0x01, 0x01, .u64, .ro, 0, 4, true, 8⟩,  -- Lines corrected
  ⟨0x9800, 0x02, 0x02, .u32, .ro, 0, 4, true, 4⟩,  -- Lines uncorrectable
  ⟨0x9800, 0x03, 0x03, .u64, .ro, 0, 4, true, 8⟩,  -- Poisoned lines delivered
  ⟨0x9800, 0x04, 0x04, .u64, .ro, 0, 4, true, 8⟩,  -- Lines written poisoned by the host
  ⟨0x9800, 0x05, 0x05, .u32, .ro, 0, 4, true, 4⟩,  -- Poisoned lines corrected
  ⟨0x9800, 0x06, 0x06, .u32, .ro, 0, 4, true, 4⟩,  -- Write-backs dropped for a newer write
  ⟨0x9800, 0x07, 0x07, .u32, .ro, 0, 4, true, 4⟩,  -- Write-backs dropped, queue full
  ⟨0x9800, 0x08, 0x08, .u32, .ro, 0, 4, true, 4⟩,  -- Hard errors
  ⟨0x9801, 0x00, 0x00, .blob, .ro, 0, 4, false, 144⟩,  -- Corrected symbols by position
  ⟨0x9802, 0x01, 0x01, .u32, .ro, 0, 0, false, 4⟩,  -- Last uncorrectable line, host address
  ⟨0x9802, 0x02, 0x02, .u32, .ro, 0, 0, false, 4⟩  -- Last uncorrectable location
]

/-- Objects 0x9900 to 0x99FF (R301 of 10_integrity.md). -/
def objs99 : List ObjRow := [
  ⟨0x9900, 0x01, 0x01, .u8, .rwl, 24, 0, false, 1⟩,  -- Patrol period
  ⟨0x9900, 0x02, 0x02, .bool, .rwl, 1, 0, false, 1⟩,  -- Patrol enable
  ⟨0x9900, 0x03, 0x03, .u16, .rwl, 256, 0, false, 2⟩,  -- Catch-up threshold
  ⟨0x9900, 0x04, 0x04, .u32, .ro, 0, 4, false, 4⟩,  -- Pass position
  ⟨0x9900, 0x05, 0x05, .u32, .ro, 0, 4, true, 4⟩,  -- Passes completed
  ⟨0x9900, 0x06, 0x06, .u32, .ro, 0, 4, true, 4⟩,  -- Late passes
  ⟨0x9900, 0x07, 0x07, .u64, .ro, 0, 4, true, 8⟩,  -- Rows scrubbed
  ⟨0x9900, 0x08, 0x08, .u64, .ro, 0, 4, true, 8⟩,  -- Lines corrected by scrub
  ⟨0x9900, 0x09, 0x09, .u32, .ro, 0, 4, true, 4⟩,  -- Lines poisoned by scrub
  ⟨0x9900, 0x0A, 0x0A, .u32, .ro, 0, 4, true, 4⟩,  -- Free-slot lines rewritten
  ⟨0x9900, 0x0B, 0x0B, .u32, .ro, 0, 0, false, 4⟩  -- Last whole-stack pass duration
]

/-- Objects 0x9A00 to 0x9AFF (R301 of 10_integrity.md). -/
def objs9A : List ObjRow := [
  ⟨0x9A00, 0x01, 0x01, .enum, .ro, 2, 0, false, 1⟩,  -- Self-test result
  ⟨0x9A00, 0x03, 0x03, .blob, .ro, 0, 0, false, 128⟩,  -- Failed units
  ⟨0x9A00, 0x04, 0x04, .u32, .ro, 0, 0, false, 4⟩  -- Self-test duration
]

/-- Objects 0x9B00 to 0x9BFF (R301 of 10_integrity.md). -/
def objs9B : List ObjRow := [
  ⟨0x9B00, 0x01, 0x01, .u32, .rw, 0, 0, false, 4⟩,  -- Injection line
  ⟨0x9B00, 0x02, 0x02, .u8, .rw, 1, 0, false, 1⟩,  -- Injected check symbols
  ⟨0x9B00, 0x03, 0x03, .cmd, .cmd, 0, 0, false, 4⟩,  -- Inject into stored line
  ⟨0x9B00, 0x04, 0x04, .cmd, .cmd, 0, 0, false, 4⟩,  -- Inject flit CRC, value = laneset
  ⟨0x9B00, 0x05, 0x05, .cmd, .cmd, 0, 0, false, 4⟩,  -- Inject write CRC, value = channel
  ⟨0x9B00, 0x06, 0x06, .cmd, .cmd, 0, 0, false, 4⟩,  -- Inject command parity, value = channel
  ⟨0x9B00, 0x07, 0x07, .u32, .ro, 0, 0, true, 4⟩,  -- Injections performed
  ⟨0x9B00, 0x08, 0x08, .cmd, .cmd, 0, 0, false, 4⟩,  -- Inject Ouvend reply CRC
  ⟨0x9B00, 0x09, 0x09, .cmd, .cmd, 0, 0, false, 4⟩  -- Inject route entry check
]

/-- Objects 0xA000 to 0xA0FF (R437 of 15_fuses_lifecycle.md). -/
def objsA0 : List ObjRow := [
  ⟨0xA000, 0x00, 0x07, .enum, .ro, 0, 0, false, 1⟩,  -- Region verdict
  ⟨0xA001, 0x00, 0x07, .u8, .ro, 0, 0, true, 1⟩,  -- Marginal words
  ⟨0xA002, 0x01, 0x01, .u8, .ro, 0, 0, false, 1⟩,  -- Marginal cache entries
  ⟨0xA002, 0x02, 0x02, .blob, .ro, 0, 0, false, 256⟩,  -- Marginal cache
  ⟨0xA003, 0x01, 0x01, .u16, .rw, 0, 0, false, 2⟩,  -- Fuse word address
  ⟨0xA003, 0x02, 0x02, .u32, .ro, 0, 0, false, 4⟩,  -- Fuse word
  ⟨0xA003, 0x03, 0x03, .u32, .ro, 0, 0, false, 4⟩,  -- Fuse word, strict reference
  ⟨0xA004, 0x01, 0x01, .u32, .rw, 0, 0, false, 4⟩,  -- Burn value
  ⟨0xA004, 0x02, 0x02, .cmd, .cmd, 0, 0, false, 4⟩,  -- Burn word, value = address
  ⟨0xA004, 0x03, 0x03, .cmd, .cmd, 0, 0, false, 4⟩,  -- Finalise region, value = region
  ⟨0xA004, 0x04, 0x04, .u32, .ro, 0, 0, true, 4⟩,  -- Words burned
  ⟨0xA010, 0x01, 0x01, .u8, .ro, 0, 0, false, 1⟩,  -- Patch entries applied
  ⟨0xA010, 0x02, 0x02, .blob, .ro, 0, 0, false, 384⟩,  -- Applied patch overlay
  ⟨0xA020, 0x01, 0x01, .u16, .ro, 0, 0, true, 2⟩,  -- Calibration records loaded
  ⟨0xA020, 0x02, 0x02, .u16, .ro, 0, 0, true, 2⟩,  -- Calibration records rejected
  ⟨0xA020, 0x03, 0x03, .cmd, .cmd, 0, 0, false, 4⟩,  -- Apply calibration
  ⟨0xA020, 0x04, 0x04, .blob, .wo, 0, 0, false, 240⟩,  -- Calibration override
  ⟨0xA020, 0x05, 0x05, .bool, .ro, 0, 0, false, 1⟩,  -- Shadows pending
  ⟨0xA020, 0x06, 0x06, .u32, .ro, 0, 0, true, 4⟩,  -- Applies
  ⟨0xA040, 0x01, 0x01, .cmd, .cmd, 0, 0, false, 4⟩,  -- Lifecycle transition, value = target
  ⟨0xA040, 0x02, 0x02, .blob, .wo, 0, 0, false, 193⟩,  -- Return authorisation
  ⟨0xA040, 0x03, 0x03, .blob, .ro, 0, 0, false, 16⟩,  -- Challenge
  ⟨0xA040, 0x04, 0x04, .enum, .ro, 0, 0, false, 1⟩,  -- Lifecycle state at next power-up
  ⟨0xA040, 0x05, 0x05, .u32, .ro, 0, 0, true, 4⟩,  -- Authorisation failures
  ⟨0xA050, 0x01, 0x01, .blob, .ro, 0, 0, false, 64⟩  -- Customer data
]

/-- Objects 0xB000 to 0xB0FF (R437 of 15_fuses_lifecycle.md). -/
def objsB0 : List ObjRow := [
  ⟨0xB000, 0x01, 0x01, .blob, .rw, 0, 0, false, 4096⟩,  -- Interconnect report
  ⟨0xB000, 0x02, 0x02, .enum, .ro, 0, 0, false, 1⟩,  -- Report status
  ⟨0xB000, 0x03, 0x03, .cmd, .cmd, 0, 0, false, 4⟩,  -- Proceed without report
  ⟨0xB000, 0x04, 0x04, .enum, .ro, 0, 0, false, 1⟩,  -- Last interconnect check
  ⟨0xB000, 0x05, 0x05, .u32, .ro, 0, 0, false, 4⟩,  -- Interconnect check duration
  ⟨0xB010, 0x01, 0x01, .cmd, .cmd, 0, 0, false, 4⟩,  -- Run shutdown BIST
  ⟨0xB010, 0x02, 0x02, .enum, .ro, 0, 0, false, 1⟩,  -- BIST state
  ⟨0xB010, 0x03, 0x03, .u16, .ro, 0, 0, true, 2⟩  -- BIST failures
]

/-- Objects 0xB100 to 0xB1FF (R437 of 15_fuses_lifecycle.md). -/
def objsB1 : List ObjRow := [
  ⟨0xB100, 0x01, 0x01, .u32, .ro, 0, 0, false, 4⟩  -- IDCODE
]

/-- Objects 0xB200 to 0xB2FF (R437 of 15_fuses_lifecycle.md). -/
def objsB2 : List ObjRow := [
  ⟨0xB200, 0x01, 0x01, .u32, .rw, 0, 0, false, 4⟩,  -- Debug location
  ⟨0xB200, 0x02, 0x02, .blob, .rw, 0, 0, false, 72⟩  -- Debug line
]

/-- Objects 0xB300 to 0xB3FF (R437 of 15_fuses_lifecycle.md). -/
def objsB3 : List ObjRow := [
  ⟨0xB300, 0x01, 0x01, .cmd, .cmd, 0, 0, false, 4⟩,  -- Array test, value = die
  ⟨0xB300, 0x02, 0x02, .enum, .ro, 0, 2, false, 1⟩,  -- Array test result
  ⟨0xB300, 0x03, 0x03, .u32, .ro, 0, 2, true, 4⟩  -- Array test failing rows
]

/-- Objects 0xC000 to 0xC0FF (R453 of 16_start_stop.md). -/
def objsC0 : List ObjRow := [
  ⟨0xC000, 0x01, 0x01, .enum, .ro, 0, 0, false, 1⟩,  -- Power-up phase
  ⟨0xC000, 0x02, 0x02, .u32, .ro, 0, 0, false, 4⟩,  -- Time to end of power-up
  ⟨0xC000, 0x03, 0x03, .enum, .ro, 0, 0, false, 1⟩,  -- Start kind
  ⟨0xC000, 0x04, 0x04, .u32, .ro, 0, 0, false, 4⟩,  -- Time to link-ready
  ⟨0xC000, 0x05, 0x05, .u32, .ro, 0, 0, false, 4⟩,  -- Time to first COMMIT
  ⟨0xC001, 0x01, 0x01, .bool, .rw, 1, 0, false, 1⟩,  -- Zero-fill at power-up
  ⟨0xC001, 0x02, 0x02, .u32, .ro, 0, 0, false, 4⟩,  -- Zero-fill duration
  ⟨0xC002, 0x01, 0x01, .u8, .ro, 0, 0, true, 1⟩,  -- Boot restarts
  ⟨0xC010, 0x01, 0x01, .cmd, .cmd, 0, 0, false, 4⟩,  -- Shutdown, bit 0 = BIST
  ⟨0xC010, 0x02, 0x02, .enum, .ro, 0, 0, false, 1⟩,  -- Shutdown state
  ⟨0xC010, 0x03, 0x03, .u32, .ro, 0, 0, false, 4⟩,  -- Last shutdown duration
  ⟨0xC011, 0x01, 0x01, .u8, .ro, 0, 0, false, 1⟩  -- Restore status
]

/-- The rows whose index has the high byte `g`. -/
def objGroup (g : Nat) : List ObjRow :=
  match g with
  | 0x10 => objs10
  | 0x11 => objs11
  | 0x20 => objs20
  | 0x21 => objs21
  | 0x22 => objs22
  | 0x30 => objs30
  | 0x34 => objs34
  | 0x40 => objs40a ++ objs40b
  | 0x50 => objs50
  | 0x51 => objs51
  | 0x60 => objs60
  | 0x61 => objs61
  | 0x62 => objs62
  | 0x70 => objs70a ++ objs70b
  | 0x78 => objs78
  | 0x80 => objs80
  | 0x82 => objs82
  | 0x83 => objs83
  | 0x90 => objs90
  | 0x98 => objs98
  | 0x99 => objs99
  | 0x9A => objs9A
  | 0x9B => objs9B
  | 0xA0 => objsA0
  | 0xB0 => objsB0
  | 0xB1 => objsB1
  | 0xB2 => objsB2
  | 0xB3 => objsB3
  | 0xC0 => objsC0
  | _ => []

/-- Every row, in ascending order of index and first subindex. -/
def catalog : List ObjRow :=
  objs10 ++
  objs11 ++
  objs20 ++
  objs21 ++
  objs22 ++
  objs30 ++
  objs34 ++
  objs40a ++
  objs40b ++
  objs50 ++
  objs51 ++
  objs60 ++
  objs61 ++
  objs62 ++
  objs70a ++
  objs70b ++
  objs78 ++
  objs80 ++
  objs82 ++
  objs83 ++
  objs90 ++
  objs98 ++
  objs99 ++
  objs9A ++
  objs9B ++
  objsA0 ++
  objsB0 ++
  objsB1 ++
  objsB2 ++
  objsB3 ++
  objsC0

/-- The row that describes INDEX:SUB, if any (R378). -/
def rowAt (idx sub : Nat) : Option ObjRow :=
  (objGroup (idx / 256)).find? (fun r => r.idx == idx && r.lo ≤ sub && sub ≤ r.hi)

end Sys2Proof.Machine
end

