-- ==== Sys2Proof/Machine/LinkState.lean ====
section
/-!
DEFINITION. State of the host link and of the transaction layer (chapters 02, 03 and 04): lanes, lanesets, ports,
requests taken from flits, and what the stack drives outward.
Lanesets are numbered 0 to 15 for UP0 to UP15 and 16 to 23 for DN0 to DN7 (R104); lane 9k + i is position i of laneset k.
-/
namespace Sys2Proof.Machine

/-- One lane (R49 to R60, R72, R87, R89, R100). -/
structure Lane where
  /-- Termination was sensed in DETECT (R74). -/
  present : Bool := false
  /-- Pilot lock is held (R81). -/
  locked : Bool := false
  /-- Out of lock: pilots have matched neither pattern for 32 frames (R52). -/
  lost : Bool := false
  /-- A request of the stack for this lane's transmitter is outstanding, and the status of the last REPLY (R79). -/
  asked : Bool := false
  reply : Option Nat := none
  /-- Digital gain in 1/256, adapted; the adapted DFE tap is object 0x2112 (R49). -/
  gain : Int := 0
  /-- FFE taps −3 to +12 in 1/256, adapted: what object 0x2111 reads (R49). -/
  ffe : List Int := []
  /-- Estimates of the four levels, lowest first; the three slicer thresholds lie midway between them (R49, assumption 121). -/
  levels : List Int := []
  /-- What the adapted values have accumulated below their resolution, in 1/65,536 of a step (R53, assumption 121). -/
  frac : List Int := []
  /-- Full-scale of the ADC, fixed by training, and offset, gain and skew of each sub-converter (R49, Table 2.7). -/
  fullScale : Nat := 0
  adcCal : List (Int × Int × Int) := []
  /-- Reference values fixed by training (R55). -/
  refGain : Int := 0
  refFfe : List Int := []
  refDfe : Int := 0
  /-- End of the drift hold in force, if one is (R56), and when the last freeze ended (R60). -/
  holdEnd : Option Nat := none
  thawed : Option Nat := none
  /-- Times of the drift events not yet cleared (R57). -/
  driftTimes : List Nat := []
  /-- A drift retrain of this lane waits or runs (R57 to R59). -/
  retrainAsked : Bool := false
  /-- Consecutive frames whose pilots matched the opposite parity (R72). -/
  pairRun : Nat := 0
  /-- Corrected bits in the running window of 2^20 bits (R89). -/
  windowBits : Nat := 0
  /-- The pattern checker is synchronised (R87). -/
  checkerSync : Bool := false
  /-- Counters latched by a read of the other counter (R87). -/
  latchedBits : Option Nat := none
  latchedErrors : Option Nat := none
  /-- The last symbol of the acquisition window that is open (R100). -/
  window : Option Nat := none
  /-- The wake word was recognised since the laneset parked (R100). -/
  wakeSeen : Bool := false
  /-- The lane failed (Table 3.7). -/
  failed : Bool := false
  deriving DecidableEq, Repr

/-- The phase of a hitless repair (Table 3.8). -/
inductive MirrorPhase where
  | asked | training | switching | switched
  deriving DecidableEq, Repr

/-- A running hitless repair: the stripe lane, the position it leaves, the spare, the switch count (R91). -/
structure Mirror where
  stripe : Nat
  oldPos : Nat
  spare : Nat
  phase : MirrorPhase
  switchAt : Nat := 0
  /-- Begun by a drift retrain (R57). -/
  drift : Bool := false
  deriving DecidableEq, Repr

/-- A waiting request for a background retrain or repair (R59): the position and whether it is a drift retrain. -/
structure RetrainReq where
  pos : Nat
  drift : Bool
  deriving DecidableEq, Repr

/-- Where a withdrawn laneset stands (R93). -/
inductive WdPhase where
  | pattern | lock | exchange
  deriving DecidableEq, Repr

/-- A withdrawal under way: the failed position, if a lane failed, and whether the spare is mapped in its place (R93, R98). -/
structure Withdrawal where
  failedPos : Option Nat
  spareMapped : Bool
  phase : WdPhase
  /-- The waiting requests that a retrain in place serves (R58). -/
  retrain : List RetrainReq := []
  deriving DecidableEq, Repr

/-- One entry of an RSP slot (Table 4.9). -/
structure RspEntry where
  first : Nat
  tag : Nat
  status : Nat
  lines : Nat
  poison : Nat
  deriving DecidableEq, Repr

/-- A slot group that the stack sends in DATA flits (R111, R122 to R124). An RSP slot holds up to four entries; their lines follow in entry order. -/
inductive TxGroup where
  | rsp (es : List RspEntry) (data : List Line)
  | arsp (tag status old : Nat) (wide : Bool)
  | jcpl (jobId status bytes : Nat) (result : Option Nat)
  | mgt (body : List Byte)
  deriving DecidableEq, Repr

/-- A DATA flit held in a retry buffer (R131): its SEQ, the credits it returns and its slot group, if any. -/
structure TxFlit where
  seq : Nat
  crReq : Nat := 0
  crJob : Nat := 0
  crMgt : Nat := 0
  group : Option TxGroup
  deriving DecidableEq, Repr

/-- What a flit of the stack carries (Table 4.3): an IDLE flit holds the slots of a LINKCTL message or a REPLAY_REQ, or none. -/
inductive FlitContent where
  | sync
  | data (f : TxFlit)
  | idle (slots : List Byte)
  | capability (block : Nat)
  | park
  deriving DecidableEq, Repr

/-- One laneset. Its state of Table 3.10 is object 0x2201. -/
structure Laneset where
  /-- Positions named in DONE, sent or received (R79). -/
  doneSent : Option Nat := none
  doneRecv : Option Nat := none
  /-- The positions found usable at the last training, which PRESENT of a capability block names (Table 3.5). -/
  usable : Nat := 0
  /-- Lane map: the position of stripe lanes 0 to 7, and the spare (R80). -/
  map : List Nat := [0, 1, 2, 3, 4, 5, 6, 7]
  spare : Option Nat := some 8
  /-- Consecutive good codewords in LOCK, and whether the receive laneset is locked (R81). -/
  goodCw : Nat := 0
  locked : Bool := false
  /-- Descrambler: the last 31 sequence bits gone by, once loaded (R67, R81). -/
  descr : Option Nat := none
  /-- Scrambler of an upstream laneset: bits gone by since its seed (R67). -/
  scr : Nat := 0
  /-- When the stream of flits of an upstream laneset last began, and the codewords it has sent since (R67, R90). -/
  streamAt : Nat := 0
  streamCw : Nat := 0
  /-- The expected frame parity: true when the next frame is even (R72). -/
  parity : Bool := true
  /-- The even codeword that waits for its pair: whether it converged, and its bits descrambled (R66, R72). -/
  half : Option (Bool × Nat) := none
  /-- The flit that the last pair of codewords made: whether both converged, and its bytes (R66, R110). -/
  rx : Option (Bool × List Byte) := none
  /-- The laneset has reached ACTIVE: a flit of another type than CAPABILITY was received on it (R85). -/
  active : Bool := false
  /-- A capability flit was received on it in this bring-up, and the flits sent on it in EXCHANGE so far (R82). -/
  capSeen : Bool := false
  exchFlits : Nat := 0
  /-- The last capability block received for this laneset, and how many consecutive identical ones (R83 to R85). -/
  block : Option Nat := none
  blockRun : Nat := 0
  /-- Codeword count (R90). -/
  cwCount : Nat := 0
  mirror : Option Mirror := none
  queue : List RetrainReq := []
  wd : Option Withdrawal := none
  /-- Retry buffer of an upstream laneset in the order of sending (R131), and the SEQs sent on it from its oldest entry on (R133). -/
  retry : List TxFlit := []
  order : List Nat := []
  /-- SEQ of the last DATA flit delivered or held from a downstream laneset (R133). -/
  lastSeq : Option Nat := none
  /-- Flits discarded since the last DATA flit delivered or held (R134). -/
  failRun : Nat := 0
  /-- A REPLAY_REQ was sent and no intact flit has arrived (R134). -/
  replayWait : Bool := false
  /-- Quiet idle (R135). -/
  quiet : Bool := false
  /-- A PARK flit was received; no DATA flit is assigned because parking waits (R136). -/
  parkSeen : Bool := false
  parkWait : Bool := false
  /-- Pattern of a pattern test under way, 0 none (R88), and the operation path that awaits its end. -/
  test : Nat := 0
  testPath : Option Nat := none
  /-- The symbol at which a first lane recognised the wake word (R100). -/
  wakeFirst : Option Nat := none
  /-- The sender's wake waits for an acknowledged flit (R101). -/
  wakeSent : Bool := false
  /-- Iterations and codewords of the running second (0x2213). -/
  iterSum : Nat := 0
  iterCnt : Nat := 0
  iterFrom : Nat := 0
  deriving DecidableEq, Repr

/-- A request of the REQ channel as its slots carry it (R113, R116, R119, R120). -/
inductive Req where
  | rd (tag label line count : Nat)
  | wr (wrc : Bool) (tag label line count poison : Nat) (data : List Line)
  | atom (tag label line word : Nat) (wide : Bool) (op : Nat) (sgn : Bool) (a b : Nat)
  | fence (tag : Nat) (jobs : Bool)
  | release (cpl : Bool) (tag parcel count : Nat)
  deriving DecidableEq, Repr

/-- A DATA flit held for reordering (R131): its bytes, and when the copy arrived (R205). -/
structure RxFlit where
  laneset : Nat
  bytes : List Byte
  since : Nat
  deriving DecidableEq, Repr

/-- A request in the receive buffer, and when its flit arrived (R205). -/
structure HeldReq where
  since : Nat
  req : Req
  deriving DecidableEq, Repr

/-- A slot group that waits to be sent, and the latency sample that its first sending ends: track, class, start (R205). -/
structure HeldGroup where
  group : TxGroup
  sample : Option (Nat × Nat × Nat) := none
  deriving DecidableEq, Repr

/-- A fence that waits for earlier work, or whose completion waits to be sent (R119). -/
structure Fence where
  tag : Nat
  jobs : Bool
  done : Bool := false
  deriving DecidableEq, Repr

/-- One host port. -/
structure Port where
  /-- Next SEQ expected, and the SEQ of the next DATA flit sent (R131). -/
  expect : Nat := 0
  nextSeq : Nat := 0
  /-- Last applied ACK (R132). -/
  lastAck : Nat := 0xFFF
  early : Tbl RxFlit := []
  /-- MGT credits held; RSP credits are object 0x3011 (R127). -/
  mgtCredits : Nat := 0
  /-- Credits to return (R128). -/
  retReq : Nat := 0
  retJob : Nat := 0
  retMgt : Nat := 0
  /-- Receive buffers, oldest first (R128). -/
  req : List HeldReq := []
  /-- When the flit arrived whose slots are being taken. -/
  flitAt : Nat := 0
  /-- Descriptors of 64 bytes; behind the last of a slot group stands the group's header slot. An empty entry marks where a FENCE with JOBS = 1 stands (R119). -/
  job : List (List Byte) := []
  mgt : List (List Byte) := []
  /-- Slot groups that wait for credits or a laneset; flits to replay ahead of them (R93, R129). -/
  wait : List HeldGroup := []
  replay : List TxFlit := []
  fence : Option Fence := none
  /-- The port is down (R96). -/
  down : Bool := false
  /-- Tags in flight, those of outstanding requests (R115). -/
  tags : List Nat := []
  deriving DecidableEq, Repr

/-- Bring-up of the link (R73 to R86). The state is object 0x2200:02. -/
structure BringUp where
  /-- Masks of the last sense, and when termination was first sensed (R74). -/
  sense : Option (List Nat × List Nat) := none
  firstSense : Option Nat := none
  start : Nat := 0
  /-- Rate proposed in the attempt under way, and the attempt rate once agreed (R78). -/
  proposed : Nat := 0
  rate : Option Nat := none
  /-- The host's link-wide fields as its first block gave them: RETRY_DEPTH, PORTS, RATE_IN_USE, RATES and revision (R85). -/
  hostWide : Option Nat := none
  /-- The precode request policy that this bring-up uses (R104). -/
  precode : Nat := 0
  /-- PORTS was echoed and the final blocks sent twice (R84, R85). -/
  echoed : Bool := false
  deriving DecidableEq, Repr

/-- The link and the transaction layer. -/
structure Link where
  lanes : Tbl Lane := []
  lanesets : Tbl Laneset := []
  ports : Tbl Port := []
  up : BringUp := {}
  deriving DecidableEq, Repr

/-- A link-control message (R90). -/
inductive LinkMsg where
  | repairReq (ls stripe pos : Nat)
  | mirrorOn (ls stripe pos count : Nat)
  | switch (ls stripe pos count : Nat)
  | repairDone (ls stripe pos : Nat)
  | train (ls : Nat) (m : BcMsg)
  | rejoin (ls : Nat)
  | testStart (ls pattern : Nat)
  | testEnd (ls : Nat)
  | refuse (ls : Nat)
  deriving DecidableEq, Repr

/-- What the stack drives outward while one command executes. The list is emptied when a command begins. -/
inductive Out where
  /-- A flit on an upstream laneset: its content, the SEQ and ACK of its header, whether its CRC is sent inverted (R298), and the scrambler bits gone by before it. -/
  | flit (laneset : Nat) (c : FlitContent) (seq ack : Nat) (badCrc : Bool) (scr : Nat)
  /-- A back-channel message in training frames on a position of an upstream laneset; the index of its target laneset (R77). -/
  | backChannel (laneset pos target : Nat) (m : BcMsg)
  /-- The wake sequence on every lane of a laneset (R99). -/
  | wake (laneset : Nat)
  /-- A test pattern on a laneset: 1 PRBS13, 2 PRBS31 (R88). -/
  | pattern (laneset pattern : Nat)
  /-- Electrical idle on every lane, which forces the far end into a new bring-up (R86). -/
  | linkIdle
  /-- An Ouvend frame: the bytes of its header, payload and CRC (R354). -/
  | ouvend (frame : List Byte)
  | milestoneLow
  | milestoneReleased
  deriving DecidableEq, Repr

end Sys2Proof.Machine
end

