-- ==== Sys2Proof/Machine/ChanState.lean ====
section
/-!
DEFINITION. State of the transactions on their way, of traffic classes and the crossing arbiter (chapter 07), of the channel
controllers and the core dies (chapter 06), and of the write-back queues (chapter 10).
Pseudo-channels, channels, dies and tracks carry their stack-wide numbers (R14).
-/
namespace Sys2Proof.Machine

/-- What a host transaction does. -/
inductive TxnKind where
  | rd
  | wr (wrc : Bool)
  | atom (wide : Bool) (op : Nat) (sgn : Bool) (word a b : Nat)
  deriving DecidableEq, Repr

/-- A host transaction from its taking to its last line (R209). -/
structure Txn where
  port : Nat
  tag : Nat
  kind : TxnKind
  cls : Nat
  label : Nat
  line : Nat
  count : Nat
  poison : Nat := 0
  data : List Line := []
  track : Nat
  /-- When the request's flit arrived (R205). -/
  arrived : Nat
  /-- Lines not yet returned, or not yet in a write queue. -/
  left : Nat
  /-- A line of it has entered an input queue: it is outstanding (R209). -/
  entered : Bool := false
  deriving DecidableEq, Repr

/-- A line of a transfer: its index in the request and its host line address; the route table says where it is stored when it is used. -/
structure XLine where
  idx : Nat
  line : Nat
  deriving DecidableEq, Repr

/-- A transfer: the lines of one request on one pseudo-channel, in line order (R211). -/
structure Xfer where
  txn : Nat
  pc : Nat
  lines : List XLine
  age : Nat
  /-- The full input for which it waits to move, counted once in 0x3432 (R219). -/
  want : Option Nat := none
  deriving DecidableEq, Repr

/-- Who holds a grant path (Table 7.2). -/
inductive Grant where
  | xfer (x : Xfer) (input : Nat)
  | refresh (emergency : Bool)
  | targeted (bank row : Nat) (emergency : Bool)
  | retrain (emergency : Bool)
  | scrub
  /-- A drain, and the lines it has moved so far (R217). -/
  | drain (input moved : Nat)
  deriving DecidableEq, Repr

/-- A line in a write queue (R173). -/
structure WqEntry where
  phys : Nat
  data : Line
  poison : Bool
  /-- The class of the write, if a class has it, and its age (R217). -/
  cls : Option Nat := none
  age : Nat := 0
  /-- Patrol scrub re-reads the line after it drains: the symbol it corrected (R293). -/
  check : Option Nat := none
  deriving DecidableEq, Repr

/-- A corrected or poisoned line on its way back (R285); `stale` once a newer write is visible (R286). -/
structure Correction where
  phys : Nat
  data : Line
  poison : Bool
  stale : Bool := false
  check : Option Nat := none
  deriving DecidableEq, Repr

/-- A read-modify-write that waits in the unit of its channel (R118): a host atomic, or an ATOMIC-BATCH element. -/
inductive Rmw where
  | host (txn line : Nat)
  | batch (job part pos line word op a : Nat) (wide sgn : Bool)
  deriving DecidableEq, Repr

/-- One pseudo-channel. -/
structure Pc where
  /-- Open row by bank (R172). -/
  rows : Tbl Nat := []
  wq : List WqEntry := []
  /-- Next bank in the refresh rotation; row pointer of each bank (R177). -/
  rotation : Nat := 0
  rowPtr : Tbl Nat := []
  /-- Emergency refreshes waiting at input 14: fallen due at the limit, by the time they did (R179), and excess over a lowered limit since a time (R180). -/
  emergency : List Nat := []
  excess : Nat := 0
  excessAt : Nat := 0
  /-- Since when the routine refresh that waits at input 2 has waited there, and the next line of priority scrub (R179, R196, R213). -/
  routineAt : Nat := 0
  scrubAt : Nat := 0
  /-- Targeted refreshes waiting, oldest first: bank, row, when it came to its input, escalated to input 14 (R184). -/
  trr : List (Nat × Nat × Nat × Bool) := []
  granted : Option Grant := none
  /-- Lines the granted read has collected: index, data, poison. -/
  got : List (Nat × Line × Bool) := []
  /-- Return store: cut transfers with the input they are tagged with (R212, R218); the lines that they had moved, by transaction. -/
  cut : List (Nat × Xfer) := []
  moved : Tbl (List (Nat × Line × Bool)) := []
  /-- Owed count carried into self-refresh, for the die to issue first (R182). -/
  carried : Nat := 0
  /-- Priority scrub: the next line of each bank under it, by bank (R196). -/
  prio : Tbl Nat := []
  /-- In self-refresh (R182); draining from the high mark to the low one (R173). -/
  sr : Bool := false
  draining : Bool := false
  /-- Patrol scrub: start of the running pass and of the one before; the pass is late; behind its schedule (R291, R294). -/
  passStart : Nat := 0
  prevStart : Nat := 0
  late : Bool := false
  behind : Bool := false
  deriving DecidableEq, Repr

/-- A channel command with its write data (R170, R186). -/
inductive DieCmd where
  | act (pc bank row : Nat)
  | pre (pc bank : Nat)
  | prea (pc : Nat)
  | refpb (pc : Nat)
  | trr (pc bank row : Nat)
  | sre (pc : Nat)
  | srx (pc : Nat)
  | mrw (pc reg value : Nat)
  | rd (pc bank col : Nat) (close : Bool)
  | wr (pc bank col : Nat) (close : Bool) (e : WqEntry)
  | train (pc : Nat)
  | nop (pc : Nat)
  deriving DecidableEq, Repr

/-- One channel controller. -/
structure Chan where
  /-- Next sequence number (R170), and the buffered commands, oldest first (R186). -/
  seq : Nat := 0
  retry : List (Nat × DieCmd) := []
  /-- The die ignores commands until RESYNC: the failed sequence number and whether it failed its CRC (R185). -/
  alert : Option (Nat × Bool) := none
  /-- Failures in a row of the command that an alert names, that one included, and whether the channel was retrained for it (R187). -/
  fails : Nat := 0
  retrained : Bool := false
  /-- Neighbour-refresh generator; none until its first draw from the seed (R183). -/
  lfsr : Option Nat := none
  /-- Both canary rows of every bank hold their patterns (R194). -/
  canary : Bool := false
  /-- Delay of each TSV measured, by group · 64 + number (R189). -/
  delays : Tbl Nat := []
  /-- The channel failed at G2 (R187). -/
  failed : Bool := false
  /-- A retraining window waits; it has escalated (R189). -/
  retrain : Bool := false
  retrainLate : Bool := false
  /-- Since when it waits at its input (R213). -/
  retrainAt : Nat := 0
  /-- Spare TSVs left: data of each pseudo-channel, command (R190). -/
  spareD0 : Nat := 2
  spareD1 : Nat := 2
  spareCmd : Nat := 1
  /-- Read-modify-write unit and correction queue (R118, R285). -/
  rmw : List Rmw := []
  corr : List Correction := []
  deriving DecidableEq, Repr

/-- One core die. Its array area's state is object 0x1110:02. -/
structure Die where
  /-- Band floor received with SRE (R193). -/
  floor : Nat := 0
  /-- Rate step of the self-refresh under way (R193); 0x5140:01 shows it once the die is ON again (R27). -/
  rate : Nat := 0
  /-- The band that the controllers' timing sets were loaded for while a gear change runs; a later one counts from its end (R192). -/
  bandHeld : Option Nat := none
  /-- Mode registers: read latency, write latency in nCK, training modes (R170). -/
  rl : Nat := 49
  wl : Nat := 14
  training : Nat := 0
  /-- When the array reset under way began (R18). -/
  resetAt : Nat := 0
  deriving DecidableEq, Repr

/-- One track. -/
structure TrackSt where
  /-- Slowest of the limits imposed under R187 and R190. -/
  imposed : Nat := 0
  /-- Gear change under way: target and start time; target that waits (R191, R192). -/
  change : Option (Nat × Nat) := none
  /-- Slowest gear that power management asks for (R314). -/
  powerGear : Nat := 0
  /-- When the thermal gear ceiling was last lowered or raised (R331). -/
  ceilingAt : Nat := 0
  /-- The track returns towards a faster gear, one at a time (R331). -/
  returning : Bool := false
  deriving DecidableEq, Repr

/-- One class on one track. -/
structure ClassSt where
  /-- Measured latency with 8 fractional bits (R206). -/
  lat : Nat := 0
  /-- Urgency level by latency alone (R207); 0x3411 shows it with share promotion. -/
  level : Nat := 0
  promoted : Bool := false
  /-- Line transfers and waiting time of the running share window (R208). -/
  winLines : Nat := 0
  winWait : Nat := 0
  waitFrom : Option Nat := none
  /-- Admission queue, oldest first (R210). -/
  queue : List Nat := []
  deriving DecidableEq, Repr

/-- Channels, dies, tracks, classes and the transactions on their way. -/
structure Chans where
  pcs : Tbl Pc := []
  chs : Tbl Chan := []
  dies : Tbl Die := []
  tracks : Tbl TrackSt := []
  /-- By track · 8 + class. -/
  classes : Tbl ClassSt := []
  /-- Transactions by number; the next number, which also gives transfers their age. -/
  txns : Tbl Txn := []
  nextTxn : Nat := 0
  /-- Input queues by pseudo-channel · 16 + input, oldest first (R212). -/
  inputs : Tbl (List Xfer) := []
  /-- Transfers kept by their requesters because a queue was full, with their input. -/
  offers : List (Nat × Xfer) := []
  winStart : Nat := 0
  /-- Physical lines that a speculative read poisoned, with the occurrence (R243, R244). -/
  specPoison : Tbl FaultRec := []
  /-- Array reset commands under way, oldest first: the path that awaits each, and its dies not yet done, in ascending order (R25, R33). -/
  resets : List (Nat × List Nat) := []
  /-- Uncorrectable lines that a move has recorded and left in its source slot (R162, R197). -/
  recorded : List Nat := []
  /-- Drained write-backs of patrol scrub that are to be re-read: physical line and symbol (R293). -/
  hard : List (Nat × Nat) := []
  deriving DecidableEq, Repr

end Sys2Proof.Machine
end

