-- ==== Sys2Proof/Machine/JobState.lean ====
section
/-!
DEFINITION. State of the Waypoint engines, of jobs and of the kernel store (chapters 08 and 09).
-/
namespace Sys2Proof.Machine

/-- A window of host lines (Table 8.3); LENGTH 0 means absent. -/
structure Window where
  base : Nat := 0
  len : Nat := 0
  wr : Bool := false
  deriving DecidableEq, Repr

/-- A job descriptor (Table 8.2); its reserved fields are ignored (R6). -/
structure JobDesc where
  opcode : Nat
  cls : Nat
  kernel : Nat := 0
  jobId : Nat
  cmode : Nat
  nospec : Bool := false
  idem : Bool := false
  recurring : Bool := false
  w0 : Window := {}
  w1 : Window := {}
  w2 : Window := {}
  arg0 : Nat := 0
  arg1 : Nat := 0
  arg2 : Nat := 0
  cplLine : Nat := 0
  deriving DecidableEq, Repr

/-- What a part has found: values by key (parcel of W0, bin or index), counts, poisoned input lines it skipped, and whether it met poison (R231 to R233). -/
structure Finding where
  vals : Tbl Nat := []
  skipped : List Nat := []
  a : Nat := 0
  b : Nat := 0
  poison : Bool := false
  deriving DecidableEq, Repr

/-- A part of a job (R237, R238): the driving parcels it covers, ascending, its lines in them, and its place. -/
structure Part where
  track : Nat
  home : Bool
  parcels : List Nat
  lines : Nat
  /-- The engine it is placed on; none while it waits for one. -/
  engine : Option Nat := none
  running : Bool := false
  /-- Its own work is done and its partial result is with the home engine. -/
  finished : Bool := false
  /-- It has been let go on to its last write (R239). -/
  granted : Bool := false
  replaced : Nat := 0
  finding : Finding := {}
  /-- Position journal of ATOMIC-BATCH (R246), in the part's own count of its records: lowest not acknowledged, acknowledged ones above it; next to issue. -/
  low : Nat := 0
  acked : List Nat := []
  issue : Nat := 0
  /-- REDUCE: how many of its parcels' values are with the home engine (R232). -/
  sent : Nat := 0
  deriving DecidableEq, Repr

/-- Lines of a window that lie in a parcel: first line and count. -/
def Window.inParcel (w : Window) (q : Nat) : Nat × Nat :=
  let lo := max w.base (1024 * q)
  (lo, min (w.base + w.len) (1024 * q + 1024) - lo)

/-- Lines of a window in a part's parcels, ascending. -/
def Part.linesOf (p : Part) (w : Window) : List Nat := (p.parcels.map (fun q => span (w.inParcel q).1 (w.inParcel q).2)).flatten

/-- Records of an ATOMIC-BATCH job in a part, and the position in the job of the k-th of them (R246); 4 records a line. -/
def recordAt (d : JobDesc) : List Nat → Nat → Option Nat
  | [], _ => none
  | q :: qs, k =>
    let r := d.w0.inParcel q
    let first := 4 * (r.1 - d.w0.base)
    let n := min (4 * r.2) (d.arg1 - first)
    if k < n then some (first + k) else recordAt d qs (k - n)

def recordCount (d : JobDesc) (parcels : List Nat) : Nat :=
  (parcels.map (fun q =>
    let r := d.w0.inParcel q
    min (4 * r.2) (d.arg1 - 4 * (r.1 - d.w0.base)))).sum

/-- An admitted job (R235 to R240). -/
structure Job where
  port : Nat
  desc : JobDesc
  admitted : Nat
  /-- Physical slot of the kernel version it is bound to (R242). -/
  slot : Option Nat := none
  homeTrack : Nat
  parts : List Part
  committed : Bool := false
  /-- Ended: its status, while its completion is still to be sent. -/
  status : Option Nat := none
  bytes : Nat := 0
  result : Option Nat := none
  /-- An ABORT descriptor waits for its completion: the status the ABORT will have (R240). -/
  abort : Option Nat := none
  deriving DecidableEq, Repr

/-- A line that a stream unit holds back (R268). -/
structure HeldLine where
  line : Nat
  data : Line
  poison : Bool
  deriving DecidableEq, Repr

/-- A line read ahead (R243, R266). -/
structure AheadLine where
  offset : Nat
  line : Nat
  data : Line
  poison : Bool
  deriving DecidableEq, Repr

/-- A stream unit (R264 to R268). -/
structure Stream where
  opened : Bool := false
  win : Nat := 0
  mode : Nat := 0
  next : Nat := 0
  stride : Int := 0
  held : Option HeldLine := none
  ahead : List AheadLine := []
  deriving DecidableEq, Repr

/-- The architectural state of a kernel's part (R254). -/
structure Kern where
  pc : Nat := 0
  s : Tbl Nat := []
  v : Tbl Line := []
  p : Tbl Nat := []
  stag : Tbl Bool := []
  vtag : Tbl Bool := []
  scratch : Tbl Byte := []
  scratchPoison : Tbl Bool := []
  deriving DecidableEq, Repr

/-- One engine. Its state is object 0x6011. -/
structure Engine where
  /-- The part it runs: job number and part index; the parts queued behind it, oldest first. -/
  part : Option (Nat × Nat) := none
  queue : List (Nat × Nat) := []
  k : Kern := {}
  su : Tbl Stream := []
  /-- Line locks held, by channel · 2^31 + line as the route table gave them at the request (R270), and the line waited for, with the start of the wait (R248). -/
  locks : List Nat := []
  wait : Option (Nat × Nat) := none
  /-- An ending instruction asks for the commit grant: its status (R276). -/
  asking : Option Nat := none
  /-- Kernel images in instruction memory by physical slot, least recently used first (R242). -/
  images : List Nat := []
  /-- When the last instruction retired (R278), and when the engine last became idle (R311). -/
  retired : Nat := 0
  idleAt : Nat := 0
  deriving DecidableEq, Repr

/-- A recurring job's signature (R238): opcode, kernel, BASE and LENGTH of the windows; how often it was admitted. -/
structure Signature where
  sig : List Nat
  count : Nat
  deriving DecidableEq, Repr

/-- Jobs, engines, kernel store. -/
structure Jobs where
  jobs : Tbl Job := []
  nextJob : Nat := 0
  engines : Tbl Engine := []
  /-- Images by physical slot (R241); loads under way by path: slot, kernel number and bytes. -/
  store : Tbl (List Byte) := []
  loads : Tbl (Nat × Nat × List Byte) := []
  /-- Least recently seen first. -/
  sigs : List Signature := []
  /-- Parts with no candidate engine: job number and part index (R237). -/
  waiting : List (Nat × Nat) := []
  /-- By port: the status of the ABORT descriptor at the head of its buffer, whose target has completed (R240). -/
  aborts : Tbl Nat := []
  deriving DecidableEq, Repr

end Sys2Proof.Machine
end

