-- ==== Sys2Proof/Machine/PlaceState.lean ====
section
/-!
DEFINITION. State of placement (chapter 05): route table, mirror and journal, slot map, heat, moves, error counts.
-/
namespace Sys2Proof.Machine

/-- Slot states (Table 5.3). -/
inductive SlotState where
  | inUse | freeDirty | freeZeroed | retired | system | parked
  deriving DecidableEq, Repr

/-- A journal record (R149): a new entry, or RELEASED set over a run of parcels. -/
inductive JournalRec where
  | entry (parcel word : Nat)
  | released (parcel count : Nat)
  deriving DecidableEq, Repr

/-- A move under way (R159). `copied` is false in phase 1 and true in phase 2. -/
structure Move where
  parcel : Nat
  srcTrack : Nat
  srcSlot : Nat
  dstTrack : Nat
  dstSlot : Nat
  /-- Priority of the policy it serves (Table 5.6). -/
  prio : Nat
  copied : Bool := false
  /-- Dirty bitmap, bit o for line o. -/
  dirty : Nat := 0
  passes : Nat := 0
  lastProgress : Nat := 0
  /-- The source slot becomes RETIRED after the move. -/
  retire : Bool := false
  deriving DecidableEq, Repr

/-- A move that a policy calls for and that has not started. -/
structure MoveReq where
  parcel : Nat
  prio : Nat
  /-- The destination track of co-location; none where the policy chooses at the start. -/
  track : Option Nat := none
  /-- The slot that becomes RETIRED after the move, by track · 266,240 + slot. -/
  retire : Option Nat := none
  /-- Its track had no free slot: it waits for a later epoch (R164). -/
  waits : Bool := false
  deriving DecidableEq, Repr

/-- Placement. -/
structure Place where
  /-- Route entries that differ from the static assignment, by parcel (R145, R155). -/
  route : Tbl Nat := []
  /-- The mirror image, both copies alike, as it differs from the static assignment (R148). -/
  image : Tbl Nat := []
  /-- Unapplied journal records, oldest first (R149). -/
  journal : List JournalRec := []
  /-- Wrong check bits of route entries in SRAM, by parcel (R147, R150). -/
  sramBad : Tbl Nat := []
  /-- SRAM banks served from the mirror (R150). -/
  mirrorBanks : Tbl Bool := []
  /-- Slot states that differ from those at the end of power-up, by track · 266,240 + slot. -/
  slots : Tbl SlotState := []
  /-- Tracks unparked since power-up: their unlisted slots are FREE_ZEROED (R166). -/
  cleared : Tbl Bool := []
  heat : Tbl Nat := []
  moves : List Move := []
  queue : List MoveReq := []
  /-- Parcels with an access that waits for a zeroed slot (R154). -/
  waits : List Nat := []
  /-- Times of the errors of the last 24 h, by row (2,048 banks · 66,560 rows) and by slot (R472). -/
  rowErrs : Tbl (List Nat) := []
  slotErrs : Tbl (List Nat) := []
  /-- Slots reported with an uncorrectable error, by track · 266,240 + slot (Table 5.6, priority 1). -/
  bad : List Nat := []
  /-- Calls for unparking after the unpark delay in ACTIVE (R312). -/
  unparkCall : Bool := false
  /-- Tracks whose arrays are being powered and zero-filled (R166). -/
  unparking : List Nat := []
  /-- Placement resumes at the next epoch after RESUME (R407). -/
  waitsEpoch : Bool := false
  /-- Operand parcels of recurring jobs: first parcel, count, home track (Table 5.6, priority 5). -/
  wanted : List (Nat × Nat × Nat) := []
  deriving DecidableEq, Repr

end Sys2Proof.Machine
end

