-- ==== Sys2Proof/Machine/State.lean ====
section
/-!
DEFINITION. The state of the stack as plain data: stored lines, every register and buffer of the stack, and the queue
of commands that wait. The reset state is the stack with RESET_N held low (assumption 1).
-/
namespace Sys2Proof.Machine

/-- Why a step stops. -/
inductive Fault where
  /-- An operand names a unit that does not exist or does not fit its field: raised by every meaning, on a command that is not well formed. Safe: no event of the stack is such a command. -/
  | illFormed
  deriving DecidableEq, Repr

/-- Why a command has no meaning. -/
inductive Refusal where
  /-- The command is not modelled. Raised by the dispatch alone. Safe. -/
  | notModelled (mnemonic : String)
  deriving DecidableEq, Repr

/-- What a zero-fill covers: every row of every bank (R445), one die (R19, R430), or the system slots alone (R445). -/
inductive Zone where
  | all
  | die (d : Nat)
  | system
  deriving DecidableEq, Repr

/-- The stored lines of the core dies: bytes in canonical form, what an unlisted byte reads as, and how often DRAM power was lost. -/
structure Dram where
  cells : List Host.Cell := []
  /-- What was zero-filled since power was applied: an unlisted byte of it reads zero; any other is a free value. -/
  zones : List Zone := []
  epoch : Nat := 0
  deriving DecidableEq, Repr

/-- What the stack as a whole is doing (R440 to R442, R451, R337 to R342). -/
inductive Mode where
  /-- RESET_N is low (R440). -/
  | held
  /-- The power-up sequence runs (Table 16.1). -/
  | powerUp
  /-- Past power-up: ACTIVE, IDLE, SLEEP and the ways between, by 0x7000:01. -/
  | run
  /-- An orderly shutdown runs (R451). -/
  | stopping
  /-- OFF: shut down, or without rails. -/
  | off
  /-- The first-stage trip holds (R337). -/
  | trip
  /-- DRAM power is removed by the second stage (R340). -/
  | dramOff
  deriving DecidableEq, Repr

/-- Everything but the stored lines and the queue. -/
structure Hw where
  /-- The dictionary's register file: values by key of index, subindex and unit; an unlisted register reads its default. -/
  regs : Tbl Nat := []
  /-- STRING and BLOB values by key of index and subindex. -/
  blobs : Tbl (List Byte) := []
  dict : Dict := {}
  faults : Faults := {}
  clock : Clock := {}
  link : Link := {}
  place : Place := {}
  chans : Chans := {}
  jobs : Jobs := {}
  power : Power := {}
  therm : Therm := {}
  test : Test := {}
  boot : Boot := {}
  image : Image := {}
  mode : Mode := .held
  /-- THM drives ERR_N low (R337). -/
  thmErr : Bool := false
  inject : Inject := {}
  /-- What the command under way drives outward, oldest first. -/
  out : List Out := []
  react : React := {}
  /-- Counts the uses of free values: the model's own field. -/
  draws : Nat := 0
  deriving DecidableEq, Repr

/-- The stack. -/
structure State where
  dram : Dram
  hw : Hw
  /-- Commands that wait, first in, first out. -/
  pending : List Instr
  deriving DecidableEq, Repr

/-- The stack with RESET_N held low: every register at its default, nothing stored, no command waiting. -/
def State.reset : State := { dram := {}, hw := {}, pending := [] }

end Sys2Proof.Machine
end

