-- ==== Sys2Proof/WellFormed.lean ====
section
/-!
DEFINITION. Which commands are well formed: every operand names a unit that exists and lies in its field. One check per
command; a command without operands, or whose operands need no check, is always well formed.
-/
namespace Sys2Proof

/-- Operands of RESET_N_RELEASE. -/
def wfResetNRelease (strap : Nat) (failed : List Nat) : Bool :=
  decide (strap < 32) && failed.all (fun u => decide (u < 28672))
/-- Operands of END_OF_POWER_UP. -/
def wfEndOfPowerUp (found : List (List Byte)) : Bool :=
  found.all (fun e => e.length == 8)
/-- Operands of SHUTDOWN. -/
def wfShutdown (src : OpSource) : Bool :=
  src.holds (OpBody.names 3 0xC010 0x01)
/-- Operands of TERMINATION_SENSE. -/
def wfTerminationSense (up dn : List Nat) : Bool :=
  up.length == 16 && dn.length == 8 && (up ++ dn).all (fun m => decide (m < 512))
/-- Operands of HELLO. -/
def wfHello (ls rates rate : Nat) : Bool :=
  decide (16 ≤ ls) && decide (ls < 24) && decide (rates < 8) && decide (rate < 3)
/-- Operands of SET_PRESET. -/
def wfSetPreset (ls pos preset : Nat) : Bool :=
  decide (ls < 16) && decide (pos < 9) && decide (preset < 256)
/-- Operands of SET_TAPS. -/
def wfSetTaps (ls pos : Nat) (cm2 cm1 c0 cp1 cp2 : Int) : Bool :=
  decide (ls < 16) && decide (pos < 9) && [cm2, cm1, c0, cp1, cp2].all (fun c => decide (-128 ≤ c) && decide (c < 128))
/-- Operands of REPLY. -/
def wfReply (ls pos status : Nat) : Bool :=
  decide (16 ≤ ls) && decide (ls < 24) && decide (pos < 9) && decide (status < 3)
/-- Operands of DONE. -/
def wfDone (ls mask : Nat) : Bool :=
  decide (ls < 16) && decide (mask < 512)
/-- Operands of PATTERN_TIMEOUT. -/
def wfPatternTimeout (ls : Option Nat) : Bool :=
  ls.all (fun k => decide (k < 24))
/-- Operands of PILOT_LOCK. -/
def wfPilotLock (lane : Nat) (freq : Int) (snr : Nat) : Bool :=
  decide (144 ≤ lane) && decide (lane < 216) && decide (-2147483648 ≤ freq) && decide (freq < 2147483648) && decide (snr < 2147483648)
/-- Operands of CODEWORD_DECODE. -/
def wfCodewordDecode (ls : Nat) (frames : List (List Int)) (_decoded : BitVec 2304) (iters : Nat) : Bool :=
  decide (16 ≤ ls) && decide (ls < 24) && frames.length == 9 && frames.all (fun f => f.length == 146 && f.all (fun l => [-3, -1, 1, 3].contains l)) && decide (iters ≤ 10)
/-- Operands of LANESET_LOCKED. -/
def wfLanesetLocked (ls : Nat) : Bool :=
  decide (16 ≤ ls) && decide (ls < 24)
/-- Operands of LOCK_TIMEOUT. -/
def wfLockTimeout (ls : Option Nat) : Bool :=
  ls.all (fun k => decide (k < 24))
/-- Operands of CAPABILITY_BLOCK. -/
def wfCapabilityBlock (carrier : Nat) (_block : BitVec 512) : Bool :=
  decide (16 ≤ carrier) && decide (carrier < 24)
/-- Operands of EXCHANGE_TIMEOUT. -/
def wfExchangeTimeout (ls : Option Nat) : Bool :=
  ls.all (fun k => decide (k < 24))
/-- Operands of RETRAIN_LINK. -/
def wfRetrainLink (src : OpSource) : Bool :=
  src.holds (OpBody.names 3 0x2200 0x06)
/-- Operands of LANE_LOCK_LOST. -/
def wfLaneLockLost (lane : Nat) : Bool :=
  decide (144 ≤ lane) && decide (lane < 216)
/-- Operands of LANE_PAIRING_FAILURE. -/
def wfLanePairingFailure (lane : Nat) : Bool :=
  decide (144 ≤ lane) && decide (lane < 216)
/-- Operands of LANE_WINDOW_END. -/
def wfLaneWindowEnd (lane : Nat) : Bool :=
  decide (144 ≤ lane) && decide (lane < 216)
/-- Operands of WAKE_LOCK_TIMEOUT. -/
def wfWakeLockTimeout (lane : Nat) : Bool :=
  decide (144 ≤ lane) && decide (lane < 216)
/-- Operands of ADC_CALIBRATION. -/
def wfAdcCalibration (lane : Nat) (cal : List (Int × Int × Int)) : Bool :=
  decide (144 ≤ lane) && decide (lane < 216) && cal.length == 8
/-- Operands of DRIFT_HOLD_END. -/
def wfDriftHoldEnd (lane : Nat) : Bool :=
  decide (144 ≤ lane) && decide (lane < 216)
/-- Operands of BACKGROUND_RETRAIN_COMPLETE. -/
def wfBackgroundRetrainComplete (ls : Nat) (trained : Trained) : Bool :=
  decide (16 ≤ ls) && decide (ls < 24) && trained.wf
/-- Operands of REPAIR_REQ. -/
def wfRepairReq (ls stripe pos : Nat) : Bool :=
  decide (ls < 16) && decide (stripe < 8) && decide (pos < 9)
/-- Operands of MIRROR_ON. -/
def wfMirrorOn (ls stripe pos count : Nat) : Bool :=
  decide (16 ≤ ls) && decide (ls < 24) && decide (stripe < 8) && decide (pos < 9) && decide (count < 4294967296)
/-- Operands of SPARE_TRAINED. -/
def wfSpareTrained (ls : Nat) (trained : Trained) : Bool :=
  decide (16 ≤ ls) && decide (ls < 24) && trained.wf
/-- Operands of SWITCH. -/
def wfSwitch (ls stripe pos count : Nat) : Bool :=
  decide (ls < 16) && decide (stripe < 8) && decide (pos < 9) && decide (count < 4294967296)
/-- Operands of SPARE_SWITCH_OVER. -/
def wfSpareSwitchOver (ls : Nat) : Bool :=
  decide (16 ≤ ls) && decide (ls < 24)
/-- Operands of REPAIR_DONE. -/
def wfRepairDone (ls stripe pos : Nat) : Bool :=
  decide (ls < 16) && decide (stripe < 8) && decide (pos < 9)
/-- Operands of LANESET_WITHDRAWAL. -/
def wfLanesetWithdrawal (ls : Nat) (failed : Option Nat) : Bool :=
  decide (ls < 24) && (match failed with | none => true | some p => decide (p < 9))
/-- Operands of TRAIN. -/
def wfTrain (ls : Nat) (msg : BcMsg) : Bool :=
  decide (ls < 24) && msg.wf
/-- Operands of REJOIN. -/
def wfRejoin (ls : Nat) : Bool :=
  decide (ls < 24)
/-- Operands of TEST_START. -/
def wfTestStart (ls pattern : Nat) : Bool :=
  decide (ls < 16) && (pattern == 1 || pattern == 2)
/-- Operands of TEST_END. -/
def wfTestEnd (ls : Nat) : Bool :=
  decide (ls < 16)
/-- Operands of REFUSE. -/
def wfRefuse (ls : Nat) : Bool :=
  decide (16 ≤ ls) && decide (ls < 24)
/-- Operands of PATTERN_TEST. -/
def wfPatternTest (src : OpSource) : Bool :=
  src.holds (OpBody.namesRun 3 0x2233 0x00 0x17)
/-- Operands of REPAIR_REQUEST. -/
def wfRepairRequest (src : OpSource) : Bool :=
  src.holds (OpBody.namesRun 3 0x2221 0x00 0x17)
/-- Operands of CLEAR_CHECKER_COUNTERS. -/
def wfClearCheckerCounters (src : OpSource) : Bool :=
  src.holds (OpBody.namesRun 3 0x2234 0x00 0xD7)
/-- Operands of CHECKER_COUNTER_READ. -/
def wfCheckerCounterRead (src : OpSource) (_bits _errors : Nat) : Bool :=
  src.holds OpBody.readsChecker
/-- Operands of CHECKER_SYNC. -/
def wfCheckerSync (lane : Nat) : Bool :=
  decide (lane < 216)
/-- Operands of CHECKER_SYNC_LOSS. -/
def wfCheckerSyncLoss (lane _bits _errors : Nat) : Bool :=
  decide (lane < 216)
/-- Operands of LANESET_WAKE. -/
def wfLanesetWake (ls : Nat) : Bool :=
  decide (ls < 16)
/-- Operands of WAKE_DETECTOR_FIRE. -/
def wfWakeDetectorFire (lane run last : Nat) : Bool :=
  decide (144 ≤ lane) && decide (lane < 216) && decide (16 ≤ run) && decide (run ≤ last + 1)
/-- Operands of ACQUISITION_WINDOW_CLOSE. -/
def wfAcquisitionWindowClose (lane : Nat) : Bool :=
  decide (144 ≤ lane) && decide (lane < 216)
/-- Operands of WAKE_WORD_RECOGNISED. -/
def wfWakeWordRecognised (lane : Nat) (signs : List Bool) (last : Nat) : Bool :=
  decide (144 ≤ lane) && decide (lane < 216) && signs.length == 32 && decide (31 ≤ last)
/-- Operands of WAKE_ACK_TIMEOUT. -/
def wfWakeAckTimeout (ls : Nat) : Bool :=
  decide (ls < 16)
/-- Operands of FLIT_RECEIVE. -/
def wfFlitReceive (ls : Nat) (given : Option (List Byte × Bool)) (updates : List LaneUpdate) (_began : Nat) : Bool :=
  decide (16 ≤ ls) && decide (ls < 24) && given.all (fun g => g.1.length == 512) && updates.all LaneUpdate.wf
/-- Operands of REPLAY_REQ. -/
def wfReplayReq (ls : Nat) (last : Option Nat) : Bool :=
  decide (ls < 16) && (match last with | none => true | some q => decide (q < 4096))
/-- Operands of REPLAY_REQ_REPEAT. -/
def wfReplayReqRepeat (ls : Nat) : Bool :=
  decide (16 ≤ ls) && decide (ls < 24)
/-- Operands of REPEATED_REPLAY_WITHDRAWAL. -/
def wfRepeatedReplayWithdrawal (ls : Nat) : Bool :=
  decide (16 ≤ ls) && decide (ls < 24)
/-- Operands of QUIET_IDLE_ENTER. -/
def wfQuietIdleEnter (ls : Nat) : Bool :=
  decide (ls < 24)
/-- Operands of QUIET_IDLE_EXIT. -/
def wfQuietIdleExit (ls : Nat) : Bool :=
  decide (ls < 24)
/-- Operands of LANESET_PARK. -/
def wfLanesetPark (ls : Nat) : Bool :=
  decide (ls < 16)
/-- Operands of PARK_FLITS_SEND. -/
def wfParkFlitsSend (ls : Nat) : Bool :=
  decide (ls < 16)
/-- Operands of PARK_FLIT. -/
def wfParkFlit (ls : Nat) : Bool :=
  decide (16 ≤ ls) && decide (ls < 24)
/-- Operands of RD_REQUEST. -/
def wfRdRequest (port : Nat) : Bool :=
  decide (port < 4)
/-- Operands of WR_REQUEST. -/
def wfWrRequest (port : Nat) : Bool :=
  decide (port < 4)
/-- Operands of WRC_REQUEST. -/
def wfWrcRequest (port : Nat) : Bool :=
  decide (port < 4)
/-- Operands of ATOM. -/
def wfAtom (port : Nat) : Bool :=
  decide (port < 4)
/-- Operands of RMW_ATOMIC. -/
def wfRmwAtomic (ch : Nat) : Bool :=
  decide (ch < 64)
/-- Operands of FENCE. -/
def wfFence (port : Nat) : Bool :=
  decide (port < 4)
/-- Operands of FENCE_COMPLETE. -/
def wfFenceComplete (port : Nat) : Bool :=
  decide (port < 4)
/-- Operands of RELEASE. -/
def wfRelease (port : Nat) : Bool :=
  decide (port < 4)
/-- Operands of READ_RESPONSE. -/
def wfReadResponse (pc : Nat) : Bool :=
  decide (pc < 128)
/-- Operands of ADMISSION_QUEUE_RELEASE. -/
def wfAdmissionQueueRelease (track cls : Nat) : Bool :=
  decide (track < 8) && decide (cls < 8)
/-- Operands of ARBITER_DECISION. -/
def wfArbiterDecision (pc : Nat) : Bool :=
  decide (pc < 128)
/-- Operands of GRANT_CUT. -/
def wfGrantCut (pc : Nat) : Bool :=
  decide (pc < 128)
/-- Operands of WRITE_QUEUE_ENTRY. -/
def wfWriteQueueEntry (pc : Nat) : Bool :=
  decide (pc < 128)
/-- Operands of WRITE_DRAIN. -/
def wfWriteDrain (pc : Nat) : Bool :=
  decide (pc < 128)
/-- Operands of SLOT_ZEROING. -/
def wfSlotZeroing (track : Nat) : Bool :=
  decide (track < 8)
/-- Operands of MOVE_COPY_DONE. -/
def wfMoveCopyDone (parcel : Nat) (_replayed : Bool) : Bool :=
  decide (parcel < 2097152)
/-- Operands of MOVE_RECOPY_PASS. -/
def wfMoveRecopyPass (parcel : Nat) (_replayed : Bool) : Bool :=
  decide (parcel < 2097152)
/-- Operands of MOVE_SWAP. -/
def wfMoveSwap (parcel : Nat) (_replayed : Bool) : Bool :=
  decide (parcel < 2097152)
/-- Operands of MOVE_PROGRESS_TIMEOUT. -/
def wfMoveProgressTimeout (parcel : Nat) : Bool :=
  decide (parcel < 2097152)
/-- Operands of TRACK_GATE. -/
def wfTrackGate (track : Nat) : Bool :=
  decide (track < 8)
/-- Operands of TRACK_UNPARK. -/
def wfTrackUnpark (track : Nat) : Bool :=
  decide (track < 8)
/-- Operands of TRACK_UNPARK_COMPLETE. -/
def wfTrackUnparkComplete (track : Nat) : Bool :=
  decide (track < 8)
/-- Operands of PIN. -/
def wfPin (src : OpSource) : Bool :=
  src.holds (OpBody.names 3 0x4001 0x04)
/-- Operands of UNPIN. -/
def wfUnpin (src : OpSource) : Bool :=
  src.holds (OpBody.names 3 0x4001 0x05)
/-- Operands of ARRAY_RESET. -/
def wfArrayReset (src : OpSource) : Bool :=
  src.holds (OpBody.names 3 0x1110 0x03)
/-- Operands of ARRAY_RESET_COMPLETE. -/
def wfArrayResetComplete (die : Nat) (eyes : List (List Eye)) : Bool :=
  decide (die < 16) && eyes.all (fun es => es.all Eye.wf)
/-- Operands of ACT. -/
def wfAct (pc bank row : Nat) (_bad : Bool) : Bool :=
  decide (pc < 128) && decide (bank < 16) && decide (row < 66560)
/-- Operands of PRE. -/
def wfPre (pc bank : Nat) (_bad : Bool) : Bool :=
  decide (pc < 128) && decide (bank < 16)
/-- Operands of PREA. -/
def wfPrea (pc : Nat) (_bad : Bool) : Bool :=
  decide (pc < 128)
/-- Operands of REFPB. -/
def wfRefpb (pc : Nat) (_bad : Bool) : Bool :=
  decide (pc < 128)
/-- Operands of TRR. -/
def wfTrr (pc bank row : Nat) (_bad : Bool) : Bool :=
  decide (pc < 128) && decide (bank < 16) && decide (row < 66560)
/-- Operands of SRE. -/
def wfSre (pc : Nat) (_bad : Bool) : Bool :=
  decide (pc < 128)
/-- Operands of SRX. -/
def wfSrx (pc : Nat) (_bad : Bool) : Bool :=
  decide (pc < 128)
/-- Operands of MRW. -/
def wfMrw (pc reg value : Nat) (_bad : Bool) : Bool :=
  decide (pc < 128) && decide (reg < 3) && decide (value < 256)
/-- Operands of RESYNC. -/
def wfResync (ch : Nat) : Bool :=
  decide (ch < 64)
/-- Operands of RD. -/
def wfRd (pc bank col : Nat) (_noise : BitVec 576) (_bad : Bool) : Bool :=
  decide (pc < 128) && decide (bank < 16) && decide (col < 16)
/-- Operands of WR. -/
def wfWr (pc bank col : Nat) (_bad : Bool) (_noise : BitVec 592) : Bool :=
  decide (pc < 128) && decide (bank < 16) && decide (col < 16)
/-- Operands of RDA. -/
def wfRda (pc bank col : Nat) (_noise : BitVec 576) (_bad : Bool) : Bool :=
  decide (pc < 128) && decide (bank < 16) && decide (col < 16)
/-- Operands of WRA. -/
def wfWra (pc bank col : Nat) (_bad : Bool) (_noise : BitVec 592) : Bool :=
  decide (pc < 128) && decide (bank < 16) && decide (col < 16)
/-- Operands of TRAIN_COMMAND. -/
def wfTrainCommand (pc : Nat) (_bad : Bool) : Bool :=
  decide (pc < 128)
/-- Operands of ALERT. -/
def wfAlert (ch : Nat) (_again : Bool) : Bool :=
  decide (ch < 64)
/-- Operands of RETRY_BUFFER_RELEASE. -/
def wfRetryBufferRelease (ch : Nat) : Bool :=
  decide (ch < 64)
/-- Operands of REPLAY_LIMIT. -/
def wfReplayLimit (ch : Nat) (eyes : List Eye) (_again : Bool) : Bool :=
  decide (ch < 64) && eyes.all Eye.wf
/-- Operands of ROW_IDLE_CLOSE. -/
def wfRowIdleClose (pc bank : Nat) : Bool :=
  decide (pc < 128) && decide (bank < 16)
/-- Operands of REFRESH_DUE. -/
def wfRefreshDue (pc : Nat) : Bool :=
  decide (pc < 128)
/-- Operands of TRR_ESCALATION. -/
def wfTrrEscalation (pc : Nat) : Bool :=
  decide (pc < 128)
/-- Operands of RETRAINING_WINDOW. -/
def wfRetrainingWindow (ch : Nat) (eyes : List Eye) : Bool :=
  decide (ch < 64) && eyes.all Eye.wf
/-- Operands of RETRAINING_WINDOW_ESCALATION. -/
def wfRetrainingWindowEscalation (ch : Nat) : Bool :=
  decide (ch < 64)
/-- Operands of GEAR_CHANGE. -/
def wfGearChange (track : Nat) : Bool :=
  decide (track < 8)
/-- Operands of GEAR_CHANGE_COMPLETE. -/
def wfGearChangeComplete (track : Nat) (eyes : List (List Eye)) : Bool :=
  decide (track < 8) && eyes.all (fun es => es.all Eye.wf)
/-- Operands of SELF_REFRESH_RATE_STEP. -/
def wfSelfRefreshRateStep (die step : Nat) : Bool :=
  decide (die < 16) && decide (step < 3)
/-- Operands of PRIORITY_SCRUB_LINE. -/
def wfPriorityScrubLine (pc : Nat) : Bool :=
  decide (pc < 128)
/-- Operands of WRITE_BACK. -/
def wfWriteBack (ch : Nat) : Bool :=
  decide (ch < 64)
/-- Operands of PATROL_SCRUB_ROW. -/
def wfPatrolScrubRow (pc : Nat) (upsets : List (Nat × BitVec 576)) : Bool :=
  decide (pc < 128) && upsets.all (fun u => decide (u.1 < 16))
/-- Operands of HARD_ERROR_CHECK. -/
def wfHardErrorCheck (pc : Nat) (_noise : BitVec 576) : Bool :=
  decide (pc < 128)
/-- Operands of SCRUB_LATE. -/
def wfScrubLate (pc : Nat) : Bool :=
  decide (pc < 128)
/-- Operands of INJECT_STORED_LINE. -/
def wfInjectStoredLine (src : OpSource) : Bool :=
  src.holds (OpBody.names 3 0x9B00 0x03)
/-- Operands of INJECT_FLIT_CRC. -/
def wfInjectFlitCrc (src : OpSource) : Bool :=
  src.holds (OpBody.names 3 0x9B00 0x04)
/-- Operands of INJECT_WRITE_CRC. -/
def wfInjectWriteCrc (src : OpSource) : Bool :=
  src.holds (OpBody.names 3 0x9B00 0x05)
/-- Operands of INJECT_COMMAND_PARITY. -/
def wfInjectCommandParity (src : OpSource) : Bool :=
  src.holds (OpBody.names 3 0x9B00 0x06)
/-- Operands of INJECT_OUVEND_CRC. -/
def wfInjectOuvendCrc (src : OpSource) : Bool :=
  src.holds (OpBody.names 3 0x9B00 0x08)
/-- Operands of INJECT_ROUTE_ENTRY. -/
def wfInjectRouteEntry (src : OpSource) : Bool :=
  src.holds (OpBody.names 3 0x9B00 0x09)
/-- Operands of COPY. -/
def wfCopy (port : Nat) : Bool :=
  decide (port < 4)
/-- Operands of FILL. -/
def wfFill (port : Nat) : Bool :=
  decide (port < 4)
/-- Operands of GATHER. -/
def wfGather (port : Nat) : Bool :=
  decide (port < 4)
/-- Operands of SCATTER. -/
def wfScatter (port : Nat) : Bool :=
  decide (port < 4)
/-- Operands of REDUCE. -/
def wfReduce (port : Nat) : Bool :=
  decide (port < 4)
/-- Operands of SCAN. -/
def wfScan (port : Nat) : Bool :=
  decide (port < 4)
/-- Operands of HISTOGRAM. -/
def wfHistogram (port : Nat) : Bool :=
  decide (port < 4)
/-- Operands of ATOMIC_BATCH. -/
def wfAtomicBatch (port : Nat) : Bool :=
  decide (port < 4)
/-- Operands of CHECKSUM. -/
def wfChecksum (port : Nat) : Bool :=
  decide (port < 4)
/-- Operands of KERNEL. -/
def wfKernel (port : Nat) : Bool :=
  decide (port < 4)
/-- Operands of ABORT. -/
def wfAbort (port : Nat) : Bool :=
  decide (port < 4)
/-- Operands of ABORT_JOB. -/
def wfAbortJob (src : OpSource) : Bool :=
  src.holds (OpBody.names 3 0x6006 0x01)
/-- Operands of PART_START. -/
def wfPartStart (eng : Nat) : Bool :=
  decide (eng < 32)
/-- Operands of ENGINE_DOMAIN_ON. -/
def wfEngineDomainOn (track : Nat) : Bool :=
  decide (track < 8)
/-- Operands of PARTIAL_RESULT. -/
def wfPartialResult (eng : Nat) : Bool :=
  decide (eng < 32)
/-- Operands of COMMIT_GRANT. -/
def wfCommitGrant (eng : Nat) : Bool :=
  decide (eng < 32)
/-- Operands of JOB_COMPLETE. -/
def wfJobComplete (port job : Nat) : Bool :=
  decide (port < 4) && decide (job < 65536)
/-- Operands of SPECULATIVE_READ. -/
def wfSpeculativeRead (eng su : Nat) : Bool :=
  decide (eng < 32) && decide (su < 4)
/-- Operands of ENGINE_FAULT. -/
def wfEngineFault (eng : Nat) : Bool :=
  decide (eng < 32)
/-- Operands of RESET_ENGINE. -/
def wfResetEngine (src : OpSource) : Bool :=
  src.holds (OpBody.namesRun 3 0x6015 0x00 0x1F)
/-- Operands of ENGINE_WATCHDOG. -/
def wfEngineWatchdog (eng : Nat) : Bool :=
  decide (eng < 32)
/-- Operands of JOB_TIMEOUT. -/
def wfJobTimeout (port job : Nat) : Bool :=
  decide (port < 4) && decide (job < 65536)
/-- Operands of BEGIN_KERNEL_LOAD. -/
def wfBeginKernelLoad (src : OpSource) : Bool :=
  src.holds (OpBody.names 3 0x6100 0x03)
/-- Operands of KERNEL_IMAGE_APPEND. -/
def wfKernelImageAppend (src : OpSource) : Bool :=
  src.holds (OpBody.names 2 0x6100 0x02)
/-- Operands of ACTIVATE_KERNEL. -/
def wfActivateKernel (src : OpSource) : Bool :=
  src.holds (OpBody.names 3 0x6100 0x04)
/-- Operands of RETIRE_KERNEL. -/
def wfRetireKernel (src : OpSource) : Bool :=
  src.holds (OpBody.namesRun 3 0x6105 0x00 0x3F)
/-- Operands of NOP. -/
def wfKNop (eng : Nat) : Bool :=
  decide (eng < 32)
/-- Operands of END. -/
def wfKEnd (eng : Nat) : Bool :=
  decide (eng < 32)
/-- Operands of ENDP. -/
def wfKEndp (eng : Nat) : Bool :=
  decide (eng < 32)
/-- Operands of TRAP. -/
def wfKTrap (eng : Nat) : Bool :=
  decide (eng < 32)
/-- Operands of KERNEL_FENCE. -/
def wfKFence (eng : Nat) : Bool :=
  decide (eng < 32)
/-- Operands of MILESTONE. -/
def wfKMilestone (eng : Nat) : Bool :=
  decide (eng < 32)
/-- Operands of TIME. -/
def wfKTime (eng : Nat) : Bool :=
  decide (eng < 32)
/-- Operands of JR. -/
def wfKJr (eng : Nat) : Bool :=
  decide (eng < 32)
/-- Operands of JALR. -/
def wfKJalr (eng : Nat) : Bool :=
  decide (eng < 32)
/-- Operands of ADD. -/
def wfKAdd (eng : Nat) : Bool :=
  decide (eng < 32)
/-- Operands of SUB. -/
def wfKSub (eng : Nat) : Bool :=
  decide (eng < 32)
/-- Operands of MUL. -/
def wfKMul (eng : Nat) : Bool :=
  decide (eng < 32)
/-- Operands of MULHU. -/
def wfKMulhu (eng : Nat) : Bool :=
  decide (eng < 32)
/-- Operands of MULHS. -/
def wfKMulhs (eng : Nat) : Bool :=
  decide (eng < 32)
/-- Operands of DIVU. -/
def wfKDivu (eng : Nat) : Bool :=
  decide (eng < 32)
/-- Operands of DIVS. -/
def wfKDivs (eng : Nat) : Bool :=
  decide (eng < 32)
/-- Operands of REMU. -/
def wfKRemu (eng : Nat) : Bool :=
  decide (eng < 32)
/-- Operands of REMS. -/
def wfKRems (eng : Nat) : Bool :=
  decide (eng < 32)
/-- Operands of AND. -/
def wfKAnd (eng : Nat) : Bool :=
  decide (eng < 32)
/-- Operands of OR. -/
def wfKOr (eng : Nat) : Bool :=
  decide (eng < 32)
/-- Operands of XOR. -/
def wfKXor (eng : Nat) : Bool :=
  decide (eng < 32)
/-- Operands of SLL. -/
def wfKSll (eng : Nat) : Bool :=
  decide (eng < 32)
/-- Operands of SRL. -/
def wfKSrl (eng : Nat) : Bool :=
  decide (eng < 32)
/-- Operands of SRA. -/
def wfKSra (eng : Nat) : Bool :=
  decide (eng < 32)
/-- Operands of MINS. -/
def wfKMins (eng : Nat) : Bool :=
  decide (eng < 32)
/-- Operands of MAXS. -/
def wfKMaxs (eng : Nat) : Bool :=
  decide (eng < 32)
/-- Operands of MINU. -/
def wfKMinu (eng : Nat) : Bool :=
  decide (eng < 32)
/-- Operands of MAXU. -/
def wfKMaxu (eng : Nat) : Bool :=
  decide (eng < 32)
/-- Operands of MOV. -/
def wfKMov (eng : Nat) : Bool :=
  decide (eng < 32)
/-- Operands of POPC. -/
def wfKPopc (eng : Nat) : Bool :=
  decide (eng < 32)
/-- Operands of CLZ. -/
def wfKClz (eng : Nat) : Bool :=
  decide (eng < 32)
/-- Operands of EQ. -/
def wfKEq (eng : Nat) : Bool :=
  decide (eng < 32)
/-- Operands of NE. -/
def wfKNe (eng : Nat) : Bool :=
  decide (eng < 32)
/-- Operands of LTS. -/
def wfKLts (eng : Nat) : Bool :=
  decide (eng < 32)
/-- Operands of LES. -/
def wfKLes (eng : Nat) : Bool :=
  decide (eng < 32)
/-- Operands of LTU. -/
def wfKLtu (eng : Nat) : Bool :=
  decide (eng < 32)
/-- Operands of LEU. -/
def wfKLeu (eng : Nat) : Bool :=
  decide (eng < 32)
/-- Operands of FEQ. -/
def wfKFeq (eng : Nat) : Bool :=
  decide (eng < 32)
/-- Operands of FLT. -/
def wfKFlt (eng : Nat) : Bool :=
  decide (eng < 32)
/-- Operands of FLE. -/
def wfKFle (eng : Nat) : Bool :=
  decide (eng < 32)
/-- Operands of FADD. -/
def wfKFadd (eng : Nat) : Bool :=
  decide (eng < 32)
/-- Operands of FSUB. -/
def wfKFsub (eng : Nat) : Bool :=
  decide (eng < 32)
/-- Operands of FMUL. -/
def wfKFmul (eng : Nat) : Bool :=
  decide (eng < 32)
/-- Operands of FDIV. -/
def wfKFdiv (eng : Nat) : Bool :=
  decide (eng < 32)
/-- Operands of FMA. -/
def wfKFma (eng : Nat) : Bool :=
  decide (eng < 32)
/-- Operands of FMIN. -/
def wfKFmin (eng : Nat) : Bool :=
  decide (eng < 32)
/-- Operands of FMAX. -/
def wfKFmax (eng : Nat) : Bool :=
  decide (eng < 32)
/-- Operands of FSQRT. -/
def wfKFsqrt (eng : Nat) : Bool :=
  decide (eng < 32)
/-- Operands of CVTI. -/
def wfKCvti (eng : Nat) : Bool :=
  decide (eng < 32)
/-- Operands of CVTF. -/
def wfKCvtf (eng : Nat) : Bool :=
  decide (eng < 32)
/-- Operands of CVTW. -/
def wfKCvtw (eng : Nat) : Bool :=
  decide (eng < 32)
/-- Operands of BCST. -/
def wfKBcst (eng : Nat) : Bool :=
  decide (eng < 32)
/-- Operands of EXT. -/
def wfKExt (eng : Nat) : Bool :=
  decide (eng < 32)
/-- Operands of INS. -/
def wfKIns (eng : Nat) : Bool :=
  decide (eng < 32)
/-- Operands of RSUM. -/
def wfKRsum (eng : Nat) : Bool :=
  decide (eng < 32)
/-- Operands of RMIN. -/
def wfKRmin (eng : Nat) : Bool :=
  decide (eng < 32)
/-- Operands of RMAX. -/
def wfKRmax (eng : Nat) : Bool :=
  decide (eng < 32)
/-- Operands of VMOV. -/
def wfKVmov (eng : Nat) : Bool :=
  decide (eng < 32)
/-- Operands of PAND. -/
def wfKPand (eng : Nat) : Bool :=
  decide (eng < 32)
/-- Operands of POR. -/
def wfKPor (eng : Nat) : Bool :=
  decide (eng < 32)
/-- Operands of PXOR. -/
def wfKPxor (eng : Nat) : Bool :=
  decide (eng < 32)
/-- Operands of PANDN. -/
def wfKPandn (eng : Nat) : Bool :=
  decide (eng < 32)
/-- Operands of PNOT. -/
def wfKPnot (eng : Nat) : Bool :=
  decide (eng < 32)
/-- Operands of PANY. -/
def wfKPany (eng : Nat) : Bool :=
  decide (eng < 32)
/-- Operands of PCNT. -/
def wfKPcnt (eng : Nat) : Bool :=
  decide (eng < 32)
/-- Operands of PFROM. -/
def wfKPfrom (eng : Nat) : Bool :=
  decide (eng < 32)
/-- Operands of PTO. -/
def wfKPto (eng : Nat) : Bool :=
  decide (eng < 32)
/-- Operands of VTAG. -/
def wfKVtag (eng : Nat) : Bool :=
  decide (eng < 32)
/-- Operands of STAG. -/
def wfKStag (eng : Nat) : Bool :=
  decide (eng < 32)
/-- Operands of SNEXT. -/
def wfKSnext (eng : Nat) : Bool :=
  decide (eng < 32)
/-- Operands of SGET. -/
def wfKSget (eng : Nat) : Bool :=
  decide (eng < 32)
/-- Operands of SPUT. -/
def wfKSput (eng : Nat) : Bool :=
  decide (eng < 32)
/-- Operands of SSET. -/
def wfKSset (eng : Nat) : Bool :=
  decide (eng < 32)
/-- Operands of SCLOSE. -/
def wfKSclose (eng : Nat) : Bool :=
  decide (eng < 32)
/-- Operands of SPOS. -/
def wfKSpos (eng : Nat) : Bool :=
  decide (eng < 32)
/-- Operands of SCRATCH_LOAD. -/
def wfKScratchLoad (eng : Nat) : Bool :=
  decide (eng < 32)
/-- Operands of SCRATCH_STORE. -/
def wfKScratchStore (eng : Nat) : Bool :=
  decide (eng < 32)
/-- Operands of SATOM. -/
def wfKSatom (eng : Nat) : Bool :=
  decide (eng < 32)
/-- Operands of LOCK. -/
def wfKLock (eng : Nat) : Bool :=
  decide (eng < 32)
/-- Operands of UNLOCK. -/
def wfKUnlock (eng : Nat) : Bool :=
  decide (eng < 32)
/-- Operands of UNLOCKA. -/
def wfKUnlocka (eng : Nat) : Bool :=
  decide (eng < 32)
/-- Operands of LI. -/
def wfKLi (eng : Nat) : Bool :=
  decide (eng < 32)
/-- Operands of LIH. -/
def wfKLih (eng : Nat) : Bool :=
  decide (eng < 32)
/-- Operands of VBCSTI_W. -/
def wfKVbcstiW (eng : Nat) : Bool :=
  decide (eng < 32)
/-- Operands of VBCSTI_D. -/
def wfKVbcstiD (eng : Nat) : Bool :=
  decide (eng < 32)
/-- Operands of BR. -/
def wfKBr (eng : Nat) : Bool :=
  decide (eng < 32)
/-- Operands of CALL. -/
def wfKCall (eng : Nat) : Bool :=
  decide (eng < 32)
/-- Operands of SOPEN. -/
def wfKSopen (eng : Nat) : Bool :=
  decide (eng < 32)
/-- Operands of REGULATOR_FAULT. -/
def wfRegulatorFault (rail track : Nat) : Bool :=
  decide (rail < 2) && decide (track < 8)
/-- Operands of CLOCK_CHECK. -/
def wfClockCheck (_locked _inRange : Bool) (offset : Int) : Bool :=
  decide (-2147483648 ≤ offset) && decide (offset < 2147483648)
/-- Operands of ENGINE_GATE. -/
def wfEngineGate (track : Nat) : Bool :=
  decide (track < 8)
/-- Operands of POWER_MEASUREMENT. -/
def wfPowerMeasurement (watts volts vddqc vpp : List Nat) : Bool :=
  watts.length == 5 && volts.length == 5 && vddqc.length == 8 && vpp.length == 8 && (watts ++ volts ++ vddqc ++ vpp).all (fun v => decide (v < 4294967296))
/-- Operands of SLEEP_REQUEST. -/
def wfSleepRequest (src : OpSource) : Bool :=
  src.holds (OpBody.names 3 0x7000 0x03)
/-- Operands of SLEEP_VOTE_TIMEOUT. -/
def wfSleepVoteTimeout (block : Nat) : Bool :=
  decide (1 ≤ block) && decide (block ≤ 10)
/-- Operands of WAKE0. -/
def wfWake0 (_high : Bool) : Bool :=
  true
/-- Operands of WAKE1. -/
def wfWake1 (_high : Bool) : Bool :=
  true
/-- Operands of WAKE_COMPLETE. -/
def wfWakeComplete (lost : List (Nat × Nat × BitVec 576)) : Bool :=
  lost.all (fun c => decide (c.1 < 2048) && decide (c.2.1 < 32))
/-- Operands of SENSOR_SAMPLE. -/
def wfSensorSample (sensors : List (Nat × Nat)) : Bool :=
  sensors.all (fun r => decide (r.1 < 156) && decide (r.2 < 65536))
/-- Operands of SENSOR_FAILED. -/
def wfSensorFailed (sensor : Nat) : Bool :=
  decide (sensor < 156)
/-- Operands of GEAR_CEILING_STEP. -/
def wfGearCeilingStep (track : Nat) : Bool :=
  decide (track < 8)
/-- Operands of COOLANT_WARM. -/
def wfCoolantWarm (slice : Nat) : Bool :=
  decide (1 ≤ slice) && decide (slice ≤ 2)
/-- Operands of TRIP_COMPARATOR. -/
def wfTripComparator (sensor : Nat) : Bool :=
  decide (sensor < 152)
/-- Operands of SECOND_STAGE_TRIP. -/
def wfSecondStageTrip (sensor : Nat) : Bool :=
  decide (sensor < 152)
/-- Operands of DRAM_MONITOR_WINDOW. -/
def wfDramMonitorWindow (sensors : List (Nat × Nat)) : Bool :=
  sensors.all (fun r => decide (r.1 < 156) && decide (r.2 < 65536))
/-- Operands of TRIP_RESTART. -/
def wfTripRestart (eyes : List (List Eye)) : Bool :=
  eyes.all (fun es => es.all Eye.wf)
/-- Operands of SLEEP_STOP_STEP. -/
def wfSleepStopStep (sreFails : Option Nat) : Bool :=
  match sreFails with | some ch => decide (ch < 64) | none => true
/-- Operands of PREAMBLE_DETECT. -/
def wfPreambleDetect (_amplitude : Nat) (_delimiter : Bool) (_reference : Nat) : Bool :=
  true
/-- Operands of OUVEND_FRAME_ERROR. -/
def wfOuvendFrameError (frame : List Byte) : Bool :=
  decide (frame.length ≤ 65544)
/-- Operands of POLL. -/
def wfPoll (dest : Nat) : Bool :=
  decide (dest < 64)
/-- Operands of BEACON. -/
def wfBeacon (time : Nat) : Bool :=
  decide (time < 2 ^ 64)
/-- Operands of GET. -/
def wfGet (src : OpSource) : Bool :=
  src.holds OpBody.isGet
/-- Operands of SET. -/
def wfSet (src : OpSource) : Bool :=
  src.holds OpBody.isSet
/-- Operands of LIST. -/
def wfList (src : OpSource) : Bool :=
  src.holds (OpBody.does 4)
/-- Operands of BLOCK_GET. -/
def wfBlockGet (src : OpSource) : Bool :=
  src.holds (OpBody.does 5)
/-- Operands of FINAL_ANSWER. -/
def wfFinalAnswer (path : Nat) : Bool :=
  decide (path < 5)
/-- Operands of BEGIN_LOADING. -/
def wfBeginLoading (src : OpSource) : Bool :=
  src.holds (OpBody.names 3 0x1010 0x02)
/-- Operands of COMMIT. -/
def wfCommit (src : OpSource) : Bool :=
  src.holds (OpBody.names 3 0x1010 0x03)
/-- Operands of DISCARD. -/
def wfDiscard (src : OpSource) : Bool :=
  src.holds (OpBody.names 3 0x1010 0x04)
/-- Operands of FORCE. -/
def wfForce (src : OpSource) : Bool :=
  src.holds (OpBody.names 3 0x8000 0x09)
/-- Operands of CLEAR. -/
def wfClear (src : OpSource) : Bool :=
  src.holds (OpBody.names 3 0x8000 0x0A)
/-- Operands of CLEAR_OCCURRENCES. -/
def wfClearOccurrences (src : OpSource) : Bool :=
  src.holds (OpBody.names 3 0x8000 0x0B)
/-- Operands of CLEAR_ALL_INACTIVE. -/
def wfClearAllInactive (src : OpSource) : Bool :=
  src.holds (OpBody.names 3 0x8001 0x04)
/-- Operands of EMPTY_FIRST_AND_LAST_FAULT. -/
def wfEmptyFirstAndLastFault (src : OpSource) : Bool :=
  src.holds (OpBody.names 3 0x8012 0x04)
/-- Operands of ENTER_GREY_MODE. -/
def wfEnterGreyMode (src : OpSource) : Bool :=
  src.holds (OpBody.names 3 0x8300 0x02)
/-- Operands of RESUME. -/
def wfResume (src : OpSource) : Bool :=
  src.holds (OpBody.names 3 0x8300 0x03)
/-- Operands of ARM. -/
def wfArm (src : OpSource) : Bool :=
  src.holds (OpBody.names 3 0x9000 0x01)
/-- Operands of TRIGGER. -/
def wfTrigger (src : OpSource) : Bool :=
  src.holds (OpBody.names 3 0x9000 0x08)
/-- Operands of SNAPSHOT_READ. -/
def wfSnapshotRead (src : OpSource) : Bool :=
  src.holds (OpBody.names 1 0x9020 0x02)
/-- Operands of FUSE_WORD_READ. -/
def wfFuseWordRead (src : OpSource) : Bool :=
  src.holds (OpBody.names 1 0xA003 0x02)
/-- Operands of FUSE_WORD_STRICT_READ. -/
def wfFuseWordStrictRead (src : OpSource) : Bool :=
  src.holds (OpBody.names 1 0xA003 0x03)
/-- Operands of BURN_WORD. -/
def wfBurnWord (src : OpSource) (failing : Nat) : Bool :=
  src.holds (OpBody.names 3 0xA004 0x02) && decide (failing < 4294967296)
/-- Operands of FINALISE_REGION. -/
def wfFinaliseRegion (src : OpSource) : Bool :=
  src.holds (OpBody.names 3 0xA004 0x03)
/-- Operands of CALIBRATION_OVERRIDE. -/
def wfCalibrationOverride (src : OpSource) : Bool :=
  src.holds (OpBody.names 2 0xA020 0x04)
/-- Operands of APPLY_CALIBRATION. -/
def wfApplyCalibration (src : OpSource) : Bool :=
  src.holds (OpBody.names 3 0xA020 0x03)
/-- Operands of LIFECYCLE_TRANSITION. -/
def wfLifecycleTransition (src : OpSource) : Bool :=
  src.holds (OpBody.names 3 0xA040 0x01)
/-- Operands of INTERCONNECT_REPORT_WRITE. -/
def wfInterconnectReportWrite (src : OpSource) : Bool :=
  src.holds (OpBody.names 2 0xB000 0x01)
/-- Operands of PROCEED_WITHOUT_REPORT. -/
def wfProceedWithoutReport (src : OpSource) : Bool :=
  src.holds (OpBody.names 3 0xB000 0x03)
/-- Operands of RUN_SHUTDOWN_BIST. -/
def wfRunShutdownBist (src : OpSource) : Bool :=
  src.holds (OpBody.names 3 0xB010 0x01)
/-- Operands of BIST_COMPLETE. -/
def wfBistComplete (found lanes : List (List Byte)) (layers : List Nat) : Bool :=
  (found ++ lanes).all (fun e => e.length == 8) && layers.length == 20 && layers.all (fun b => decide (b < 8))
/-- Operands of DEBUG_LINE_READ. -/
def wfDebugLineRead (src : OpSource) : Bool :=
  src.holds (OpBody.names 1 0xB200 0x02)
/-- Operands of DEBUG_LINE_WRITE. -/
def wfDebugLineWrite (src : OpSource) : Bool :=
  src.holds (OpBody.names 2 0xB200 0x02)
/-- Operands of ARRAY_TEST. -/
def wfArrayTest (src : OpSource) : Bool :=
  src.holds (OpBody.names 3 0xB300 0x01)
/-- Operands of ARRAY_TEST_COMPLETE. -/
def wfArrayTestComplete (failing : Nat) : Bool :=
  decide (failing < 4294967296)
/-- Operands of EXTEST. -/
def wfExtest (cells : Nat) : Bool :=
  decide (cells < 262144)
/-- Operands of SAMPLE_PRELOAD. -/
def wfSamplePreload (cells : Nat) : Bool :=
  decide (cells < 262144)
/-- Operands of CLAMP. -/
def wfClamp (cells : Nat) : Bool :=
  decide (cells < 262144)
/-- Operands of INTERNAL_SCAN. -/
def wfInternalScan (code : Nat) : Bool :=
  decide (0x80 ≤ code) && decide (code ≤ 0x8F)
/-- Operands of BYPASS. -/
def wfBypass (code : Nat) : Bool :=
  decide (code < 256)
/-- Operands of LOCK_WAIT_TIMEOUT. -/
def wfLockWaitTimeout (eng : Nat) : Bool :=
  decide (eng < 32)
/-- Operands of ENGINE_BACK_IN_SERVICE. -/
def wfEngineBackInService (eng : Nat) : Bool :=
  decide (eng < 32)
/-- Operands of DONE_SEND. -/
def wfDoneSend (ls mask : Nat) (seeds : List Nat) (markers : List (List Int)) (trained : List Trained) : Bool :=
  decide (16 ≤ ls) && decide (ls < 24) && decide (mask < 512) && seeds.length == 9 && seeds.all (fun s => decide (s < 8192)) && markers.length == 9 && markers.all (fun m => m.length == 16) && trained.all Trained.wf
/-- Operands of ILLEGAL. -/
def wfKIllegal (eng : Nat) : Bool :=
  decide (eng < 32)
/-- Operands of PC_RANGE. -/
def wfKPcRange (eng : Nat) : Bool :=
  decide (eng < 32)

/-- A command is well formed when its operands are. -/
def Instr.wf : Instr → Bool
  | .resetNRelease strap failed => wfResetNRelease strap failed
  | .endOfPowerUp found => wfEndOfPowerUp found
  | .resetNLow => true
  | .pwrOkFall => true
  | .shutdown src => wfShutdown src
  | .shutdownReady => true
  | .terminationSense up dn => wfTerminationSense up dn
  | .hello ls rates rate => wfHello ls rates rate
  | .setPreset ls pos preset => wfSetPreset ls pos preset
  | .setTaps ls pos cm2 cm1 c0 cp1 cp2 => wfSetTaps ls pos cm2 cm1 c0 cp1 cp2
  | .reply ls pos status => wfReply ls pos status
  | .done ls mask => wfDone ls mask
  | .patternTimeout ls => wfPatternTimeout ls
  | .pilotLock lane freq snr => wfPilotLock lane freq snr
  | .codewordDecode ls frames decoded iters => wfCodewordDecode ls frames decoded iters
  | .lanesetLocked ls => wfLanesetLocked ls
  | .lockTimeout ls => wfLockTimeout ls
  | .capabilityBlock carrier block => wfCapabilityBlock carrier block
  | .exchangeTimeout ls => wfExchangeTimeout ls
  | .linkDownPauseEnd => true
  | .retrainLink src => wfRetrainLink src
  | .laneLockLost lane => wfLaneLockLost lane
  | .lanePairingFailure lane => wfLanePairingFailure lane
  | .laneWindowEnd lane => wfLaneWindowEnd lane
  | .wakeLockTimeout lane => wfWakeLockTimeout lane
  | .adcCalibration lane cal => wfAdcCalibration lane cal
  | .driftHoldEnd lane => wfDriftHoldEnd lane
  | .backgroundRetrainComplete ls trained => wfBackgroundRetrainComplete ls trained
  | .repairReq ls stripe pos => wfRepairReq ls stripe pos
  | .mirrorOn ls stripe pos count => wfMirrorOn ls stripe pos count
  | .spareTrained ls trained => wfSpareTrained ls trained
  | .switch ls stripe pos count => wfSwitch ls stripe pos count
  | .spareSwitchOver ls => wfSpareSwitchOver ls
  | .repairDone ls stripe pos => wfRepairDone ls stripe pos
  | .lanesetWithdrawal ls failed => wfLanesetWithdrawal ls failed
  | .train ls msg => wfTrain ls msg
  | .rejoin ls => wfRejoin ls
  | .testStart ls pattern => wfTestStart ls pattern
  | .testEnd ls => wfTestEnd ls
  | .refuse ls => wfRefuse ls
  | .patternTest src => wfPatternTest src
  | .repairRequest src => wfRepairRequest src
  | .clearCheckerCounters src => wfClearCheckerCounters src
  | .checkerCounterRead src bits errors => wfCheckerCounterRead src bits errors
  | .checkerSync lane => wfCheckerSync lane
  | .checkerSyncLoss lane bits errors => wfCheckerSyncLoss lane bits errors
  | .lanesetWake ls => wfLanesetWake ls
  | .wakeDetectorFire lane run last => wfWakeDetectorFire lane run last
  | .acquisitionWindowClose lane => wfAcquisitionWindowClose lane
  | .wakeWordRecognised lane signs last => wfWakeWordRecognised lane signs last
  | .wakeAckTimeout ls => wfWakeAckTimeout ls
  | .flitReceive ls given updates began => wfFlitReceive ls given updates began
  | .replayReq ls last => wfReplayReq ls last
  | .replayReqRepeat ls => wfReplayReqRepeat ls
  | .repeatedReplayWithdrawal ls => wfRepeatedReplayWithdrawal ls
  | .quietIdleEnter ls => wfQuietIdleEnter ls
  | .quietIdleExit ls => wfQuietIdleExit ls
  | .lanesetPark ls => wfLanesetPark ls
  | .parkFlitsSend ls => wfParkFlitsSend ls
  | .parkFlit ls => wfParkFlit ls
  | .rdRequest port => wfRdRequest port
  | .wrRequest port => wfWrRequest port
  | .wrcRequest port => wfWrcRequest port
  | .atom port => wfAtom port
  | .rmwAtomic ch => wfRmwAtomic ch
  | .fence port => wfFence port
  | .fenceComplete port => wfFenceComplete port
  | .release port => wfRelease port
  | .readResponse pc => wfReadResponse pc
  | .shareWindowEnd => true
  | .admissionQueueRelease track cls => wfAdmissionQueueRelease track cls
  | .arbiterDecision pc => wfArbiterDecision pc
  | .grantCut pc => wfGrantCut pc
  | .writeQueueEntry pc => wfWriteQueueEntry pc
  | .writeDrain pc => wfWriteDrain pc
  | .routeTableRebuildComplete => true
  | .journalRecordApply => true
  | .slotZeroing track => wfSlotZeroing track
  | .parcelRecreateResume => true
  | .warmUpEnd => true
  | .heatEpoch => true
  | .moveStart => true
  | .moveCopyDone parcel replayed => wfMoveCopyDone parcel replayed
  | .moveRecopyPass parcel replayed => wfMoveRecopyPass parcel replayed
  | .moveSwap parcel replayed => wfMoveSwap parcel replayed
  | .moveProgressTimeout parcel => wfMoveProgressTimeout parcel
  | .trackGate track => wfTrackGate track
  | .trackUnpark track => wfTrackUnpark track
  | .trackUnparkComplete track => wfTrackUnparkComplete track
  | .pin src => wfPin src
  | .unpin src => wfUnpin src
  | .arrayReset src => wfArrayReset src
  | .arrayResetComplete die eyes => wfArrayResetComplete die eyes
  | .act pc bank row bad => wfAct pc bank row bad
  | .pre pc bank bad => wfPre pc bank bad
  | .prea pc bad => wfPrea pc bad
  | .refpb pc bad => wfRefpb pc bad
  | .trr pc bank row bad => wfTrr pc bank row bad
  | .sre pc bad => wfSre pc bad
  | .srx pc bad => wfSrx pc bad
  | .mrw pc reg value bad => wfMrw pc reg value bad
  | .resync ch => wfResync ch
  | .rd pc bank col noise bad => wfRd pc bank col noise bad
  | .wr pc bank col bad noise => wfWr pc bank col bad noise
  | .rda pc bank col noise bad => wfRda pc bank col noise bad
  | .wra pc bank col bad noise => wfWra pc bank col bad noise
  | .trainCommand pc bad => wfTrainCommand pc bad
  | .alert ch again => wfAlert ch again
  | .retryBufferRelease ch => wfRetryBufferRelease ch
  | .replayLimit ch eyes again => wfReplayLimit ch eyes again
  | .rowIdleClose pc bank => wfRowIdleClose pc bank
  | .refreshDue pc => wfRefreshDue pc
  | .trrEscalation pc => wfTrrEscalation pc
  | .retrainingWindow ch eyes => wfRetrainingWindow ch eyes
  | .retrainingWindowEscalation ch => wfRetrainingWindowEscalation ch
  | .gearChange track => wfGearChange track
  | .gearChangeComplete track eyes => wfGearChangeComplete track eyes
  | .selfRefreshRateStep die step => wfSelfRefreshRateStep die step
  | .priorityScrubLine pc => wfPriorityScrubLine pc
  | .writeBack ch => wfWriteBack ch
  | .patrolScrubRow pc upsets => wfPatrolScrubRow pc upsets
  | .hardErrorCheck pc noise => wfHardErrorCheck pc noise
  | .scrubLate pc => wfScrubLate pc
  | .injectStoredLine src => wfInjectStoredLine src
  | .injectFlitCrc src => wfInjectFlitCrc src
  | .injectWriteCrc src => wfInjectWriteCrc src
  | .injectCommandParity src => wfInjectCommandParity src
  | .injectOuvendCrc src => wfInjectOuvendCrc src
  | .injectRouteEntry src => wfInjectRouteEntry src
  | .copy port => wfCopy port
  | .fill port => wfFill port
  | .gather port => wfGather port
  | .scatter port => wfScatter port
  | .reduce port => wfReduce port
  | .scan port => wfScan port
  | .histogram port => wfHistogram port
  | .atomicBatch port => wfAtomicBatch port
  | .checksum port => wfChecksum port
  | .kernel port => wfKernel port
  | .abort port => wfAbort port
  | .abortJob src => wfAbortJob src
  | .partStart eng => wfPartStart eng
  | .engineDomainOn track => wfEngineDomainOn track
  | .partialResult eng => wfPartialResult eng
  | .commitGrant eng => wfCommitGrant eng
  | .jobComplete port job => wfJobComplete port job
  | .speculativeRead eng su => wfSpeculativeRead eng su
  | .engineFault eng => wfEngineFault eng
  | .resetEngine src => wfResetEngine src
  | .engineWatchdog eng => wfEngineWatchdog eng
  | .jobTimeout port job => wfJobTimeout port job
  | .beginKernelLoad src => wfBeginKernelLoad src
  | .kernelImageAppend src => wfKernelImageAppend src
  | .activateKernel src => wfActivateKernel src
  | .retireKernel src => wfRetireKernel src
  | .kNop eng => wfKNop eng
  | .kEnd eng => wfKEnd eng
  | .kEndp eng => wfKEndp eng
  | .kTrap eng => wfKTrap eng
  | .kFence eng => wfKFence eng
  | .kMilestone eng => wfKMilestone eng
  | .kTime eng => wfKTime eng
  | .kJr eng => wfKJr eng
  | .kJalr eng => wfKJalr eng
  | .kAdd eng => wfKAdd eng
  | .kSub eng => wfKSub eng
  | .kMul eng => wfKMul eng
  | .kMulhu eng => wfKMulhu eng
  | .kMulhs eng => wfKMulhs eng
  | .kDivu eng => wfKDivu eng
  | .kDivs eng => wfKDivs eng
  | .kRemu eng => wfKRemu eng
  | .kRems eng => wfKRems eng
  | .kAnd eng => wfKAnd eng
  | .kOr eng => wfKOr eng
  | .kXor eng => wfKXor eng
  | .kSll eng => wfKSll eng
  | .kSrl eng => wfKSrl eng
  | .kSra eng => wfKSra eng
  | .kMins eng => wfKMins eng
  | .kMaxs eng => wfKMaxs eng
  | .kMinu eng => wfKMinu eng
  | .kMaxu eng => wfKMaxu eng
  | .kMov eng => wfKMov eng
  | .kPopc eng => wfKPopc eng
  | .kClz eng => wfKClz eng
  | .kEq eng => wfKEq eng
  | .kNe eng => wfKNe eng
  | .kLts eng => wfKLts eng
  | .kLes eng => wfKLes eng
  | .kLtu eng => wfKLtu eng
  | .kLeu eng => wfKLeu eng
  | .kFeq eng => wfKFeq eng
  | .kFlt eng => wfKFlt eng
  | .kFle eng => wfKFle eng
  | .kFadd eng => wfKFadd eng
  | .kFsub eng => wfKFsub eng
  | .kFmul eng => wfKFmul eng
  | .kFdiv eng => wfKFdiv eng
  | .kFma eng => wfKFma eng
  | .kFmin eng => wfKFmin eng
  | .kFmax eng => wfKFmax eng
  | .kFsqrt eng => wfKFsqrt eng
  | .kCvti eng => wfKCvti eng
  | .kCvtf eng => wfKCvtf eng
  | .kCvtw eng => wfKCvtw eng
  | .kBcst eng => wfKBcst eng
  | .kExt eng => wfKExt eng
  | .kIns eng => wfKIns eng
  | .kRsum eng => wfKRsum eng
  | .kRmin eng => wfKRmin eng
  | .kRmax eng => wfKRmax eng
  | .kVmov eng => wfKVmov eng
  | .kPand eng => wfKPand eng
  | .kPor eng => wfKPor eng
  | .kPxor eng => wfKPxor eng
  | .kPandn eng => wfKPandn eng
  | .kPnot eng => wfKPnot eng
  | .kPany eng => wfKPany eng
  | .kPcnt eng => wfKPcnt eng
  | .kPfrom eng => wfKPfrom eng
  | .kPto eng => wfKPto eng
  | .kVtag eng => wfKVtag eng
  | .kStag eng => wfKStag eng
  | .kSnext eng => wfKSnext eng
  | .kSget eng => wfKSget eng
  | .kSput eng => wfKSput eng
  | .kSset eng => wfKSset eng
  | .kSclose eng => wfKSclose eng
  | .kSpos eng => wfKSpos eng
  | .kScratchLoad eng => wfKScratchLoad eng
  | .kScratchStore eng => wfKScratchStore eng
  | .kSatom eng => wfKSatom eng
  | .kLock eng => wfKLock eng
  | .kUnlock eng => wfKUnlock eng
  | .kUnlocka eng => wfKUnlocka eng
  | .kLi eng => wfKLi eng
  | .kLih eng => wfKLih eng
  | .kVbcstiW eng => wfKVbcstiW eng
  | .kVbcstiD eng => wfKVbcstiD eng
  | .kBr eng => wfKBr eng
  | .kCall eng => wfKCall eng
  | .kSopen eng => wfKSopen eng
  | .regulatorFault rail track => wfRegulatorFault rail track
  | .clockCheck locked inRange offset => wfClockCheck locked inRange offset
  | .xckStop => true
  | .xckResume => true
  | .idleEntry => true
  | .engineGate track => wfEngineGate track
  | .gatingBudgetTick => true
  | .idleLanesetPark => true
  | .unparkCall => true
  | .powerMeasurement watts volts vddqc vpp => wfPowerMeasurement watts volts vddqc vpp
  | .sleepRequest src => wfSleepRequest src
  | .automaticSleep => true
  | .sleepVoteTimeout block => wfSleepVoteTimeout block
  | .sleepStopStep sreFails => wfSleepStopStep sreFails
  | .sleepLinkParkTimeout => true
  | .wake0 high => wfWake0 high
  | .wake1 high => wfWake1 high
  | .wakeComplete lost => wfWakeComplete lost
  | .sensorSample sensors => wfSensorSample sensors
  | .sensorFailed sensor => wfSensorFailed sensor
  | .distrustEvaluation => true
  | .distrustArm => true
  | .gearCeilingStep track => wfGearCeilingStep track
  | .coolantWarm slice => wfCoolantWarm slice
  | .tripComparator sensor => wfTripComparator sensor
  | .secondStageTrip sensor => wfSecondStageTrip sensor
  | .dramMonitorWindow sensors => wfDramMonitorWindow sensors
  | .tripRestart eyes => wfTripRestart eyes
  | .preambleDetect amplitude delimiter reference => wfPreambleDetect amplitude delimiter reference
  | .falseDetection => true
  | .ouvendFrameError frame => wfOuvendFrameError frame
  | .poll dest => wfPoll dest
  | .beacon time => wfBeacon time
  | .get src => wfGet src
  | .set src => wfSet src
  | .list src => wfList src
  | .blockGet src => wfBlockGet src
  | .finalAnswer path => wfFinalAnswer path
  | .beginLoading src => wfBeginLoading src
  | .commit src => wfCommit src
  | .discard src => wfDiscard src
  | .loadingAbandoned => true
  | .force src => wfForce src
  | .clear src => wfClear src
  | .clearOccurrences src => wfClearOccurrences src
  | .clearAllInactive src => wfClearAllInactive src
  | .emptyFirstAndLastFault src => wfEmptyFirstAndLastFault src
  | .enterGreyMode src => wfEnterGreyMode src
  | .resume src => wfResume src
  | .arm src => wfArm src
  | .trigger src => wfTrigger src
  | .milestoneBallEdge => true
  | .milestoneRelease => true
  | .snapshotRead src => wfSnapshotRead src
  | .stewardMismatch => true
  | .stewardWatchdog => true
  | .stewardRestartComplete => true
  | .fuseWordRead src => wfFuseWordRead src
  | .fuseWordStrictRead src => wfFuseWordStrictRead src
  | .burnWord src failing => wfBurnWord src failing
  | .finaliseRegion src => wfFinaliseRegion src
  | .calibrationOverride src => wfCalibrationOverride src
  | .applyCalibration src => wfApplyCalibration src
  | .calibrationQuiescentPoint => true
  | .applyTimeout => true
  | .lifecycleTransition src => wfLifecycleTransition src
  | .interconnectReportWrite src => wfInterconnectReportWrite src
  | .proceedWithoutReport src => wfProceedWithoutReport src
  | .reportWindowTimeout => true
  | .runShutdownBist src => wfRunShutdownBist src
  | .bistComplete found lanes layers => wfBistComplete found lanes layers
  | .debugLineRead src => wfDebugLineRead src
  | .debugLineWrite src => wfDebugLineWrite src
  | .arrayTest src => wfArrayTest src
  | .arrayTestComplete failing => wfArrayTestComplete failing
  | .tapReset => true
  | .extest cells => wfExtest cells
  | .idcode => true
  | .samplePreload cells => wfSamplePreload cells
  | .clamp cells => wfClamp cells
  | .highz => true
  | .internalScan code => wfInternalScan code
  | .bypass code => wfBypass code
  | .lockWaitTimeout eng => wfLockWaitTimeout eng
  | .engineBackInService eng => wfEngineBackInService eng
  | .doneSend ls mask seeds trained markers => wfDoneSend ls mask seeds markers trained
  | .kIllegal eng => wfKIllegal eng
  | .kPcRange eng => wfKPcRange eng
  | .lossOfRails => true

end Sys2Proof
end

