-- ==== Sys2Proof/Machine/Ops.lean ====
section
/-!
DEFINITION. Operations that every family uses: the frame around a meaning, the register file, time, units.
-/
namespace Sys2Proof.Machine

/-! The register file (R9, R368). -/

/-- Register key of INDEX:SUB of a unit, by its stack-wide number at the object's depth (R14). -/
def regKey (idx sub unit : Nat) : Nat := (idx * 256 + sub) * 4096 + unit

/-- Values that stand in place of a row's default: parked slots of system tracks (R155), the severity of a source (R385) are given by their own functions. -/
def regDefault (key : Nat) : Nat :=
  let unit := key % 4096
  let sub := key / 4096 % 256
  let idx := key / 4096 / 256
  if idx = 0x4011 ∧ sub ≤ 2 ∧ (unit = 0 ∨ unit = 4) then 3966
  else if idx = 0x8000 ∧ (sub = 5 ∨ sub = 6) then sourceSev unit
  else match rowAt idx sub with
    | some r => if idx = 0x2202 then (if sub % 9 = 8 then 8 else sub % 9) else r.dflt
    | none => 0

/-- The value of a register. -/
def obj (h : Hw) (idx sub : Nat) (unit : Nat := 0) : Nat :=
  let k := regKey idx sub unit
  tget (regDefault k) h.regs k

/-- The state with one register written. -/
def setObj (h : Hw) (idx sub unit v : Nat) : Hw :=
  let k := regKey idx sub unit
  { h with regs := tput (regDefault k) h.regs k v }

/-- Bits of a register's value. -/
def objWidth (idx sub : Nat) : Nat :=
  match rowAt idx sub with
  | some r => 8 * r.size
  | none => 32

/-- Adds to a counter, which saturates at the largest value of its type. -/
def bumpBy (h : Hw) (idx sub unit n : Nat) : Hw :=
  setObj h idx sub unit (satAdd (objWidth idx sub) (obj h idx sub unit) n)

/-- Counts one. -/
def bump (h : Hw) (idx sub : Nat) (unit : Nat := 0) : Hw := bumpBy h idx sub unit 1

/-- A register as a flag. -/
def flag (h : Hw) (idx sub : Nat) (unit : Nat := 0) : Bool := obj h idx sub unit != 0

/-- A STRING or BLOB value. -/
def blob (h : Hw) (idx sub : Nat) : List Byte := tget [] h.blobs (idx * 256 + sub)

/-- The state with one STRING or BLOB written. -/
def setBlob (h : Hw) (idx sub : Nat) (v : List Byte) : Hw :=
  { h with blobs := tput [] h.blobs (idx * 256 + sub) v }

/-- A fresh free value (Config.freeValue): the spec leaves the value open. -/
def draw (h : Hw) (site : Nat) : Nat × Hw := (Config.freeValue site h.draws, { h with draws := h.draws + 1 })

/-! The frame around a meaning. -/

/-- Adds to what the command drives outward. -/
def emit (h : Hw) (o : Out) : Hw := { h with out := h.out ++ [o] }

/-- A command begins: nothing driven yet, nothing set going. -/
def begin (h : Hw) : Hw := { h with out := [], react := {} }

/-! Units (R13, R14, R20). -/

/-- Units in the stack at a depth (Table 1.2). -/
def unitCount (depth : Nat) : Nat :=
  match depth with
  | 0 => 1
  | 1 => 8
  | 2 => 16
  | 3 => 64
  | 4 => 128
  | 5 => 512
  | _ => 2048

/-- Stack-wide number of the unit a selector names, at a depth not below the selector's own (R14, R20). -/
def selUnit (sel depth : Nat) : Nat := field sel 12 2 / (2048 / unitCount depth)

/-- The selector cut to a depth, lower fields zero (R22). -/
def truncSel (sel depth : Nat) : Nat :=
  depth * 8192 + (if depth = 0 then 0 else selUnit sel depth * (2048 / unitCount depth) * 4)

/-- The selector of a unit at a depth. -/
def unitSel (depth unit : Nat) : Nat := depth * 8192 + unit * (2048 / unitCount depth) * 4

/-- The depth a selector states. -/
def selDepth (sel : Nat) : Nat := sel / 8192

/-- The members of an object of depth `d` that a selector names, ascending: one unit when the selector is as deep as the object (R22, R23). -/
def selMembers (sel d : Nat) : List Nat :=
  let sd := min (selDepth sel) d
  let n := unitCount d / unitCount sd
  span (selUnit sel sd * n) n

/-! Time. -/

/-- Time in ns of the stack time counter. -/
def now (h : Hw) : Nat := h.clock.now

/-- Milliseconds, microseconds and seconds in ns. -/
def us (n : Nat) : Nat := n * 1000
def ms (n : Nat) : Nat := n * 1000000
def sec (n : Nat) : Nat := n * 1000000000

/-! Route entries (Table 5.1). -/

def entryOf (track slot state : Nat) (released pinned : Bool) : Nat :=
  track * 2 ^ 29 + slot * 2 ^ 10 + state * 2 ^ 8 + bit released * 2 ^ 7 + bit pinned * 2 ^ 6

def entTrack (e : Nat) : Nat := field e 31 29
def entSlot (e : Nat) : Nat := field e 28 10
def entState (e : Nat) : Nat := field e 9 8
def entReleased (e : Nat) : Bool := bitAt e 7
def entPinned (e : Nat) : Bool := bitAt e 6

/-- The static assignment (R155). -/
def staticEntry (p : Nat) : Nat :=
  let j := p / 8
  entryOf ((p % 8) ^^^ (j % 8)) (16 * (j / 16) + ((j % 16) ^^^ (j / 16 % 16))) 0 false false

/-- The entry of a parcel in SRAM, its errors apart. -/
def route (h : Hw) (p : Nat) : Nat := tget (staticEntry p) h.place.route p

/-! Power domains (Table 11.2): 0 ON, 1 RETAIN, 2 OFF in 0x7040. -/

def domainState (h : Hw) (d : Nat) : Nat := obj h 0x7040 d

/-! Heat (R157). -/

def heatOf (h : Hw) (p : Nat) : Nat := tget 0 h.place.heat p


end Sys2Proof.Machine
end

