-- ==== Sys2Proof/Machine/Tx.lean ====
section
/-!
DEFINITION. Lanes, lanesets and ports as tables, the division of lanesets into ports (R103), and the sending of slot
groups: credits (R127, R129), the choice of laneset (R95), sequence numbers and retry buffers (R131), layouts (R106 to R124).
-/
namespace Sys2Proof.Machine

/-! Tables of the link. -/

def lane (h : Hw) (n : Nat) : Lane := tget {} h.link.lanes n
def setLane (h : Hw) (n : Nat) (v : Lane) : Hw :=
  { h with link := { h.link with lanes := tput {} h.link.lanes n v } }
def laneset (h : Hw) (n : Nat) : Laneset := tget {} h.link.lanesets n
def setLaneset (h : Hw) (n : Nat) (v : Laneset) : Hw :=
  { h with link := { h.link with lanesets := tput {} h.link.lanesets n v } }
def port (h : Hw) (n : Nat) : Port := tget {} h.link.ports n
def setPort (h : Hw) (n : Nat) (v : Port) : Hw :=
  { h with link := { h.link with ports := tput {} h.link.ports n v } }

/-- Lane number of a position of a laneset. -/
def laneOf (ls pos : Nat) : Nat := 9 * ls + pos

/-- State of a laneset (0x2201): 0 in service, 1 withdrawn, 2 out of service, 3 parked, 4 pattern test. -/
def lsState (h : Hw) (ls : Nat) : Nat := obj h 0x2201 ls
def setLsState (h : Hw) (ls v : Nat) : Hw := { setObj h 0x2201 ls 0 v with react := { h.react with link := true } }
def inService (h : Hw) (ls : Nat) : Bool := lsState h ls == 0

/-- The link is in ACTIVE (0x2200:02). -/
def linkActive (h : Hw) : Bool := obj h 0x2200 2 == 4

/-! Ports (Table 3.9). -/

/-- The PORTS code in use: 0 one port, 1 two, 2 four. -/
def portsCode (h : Hw) : Nat := obj h 0x2200 7
def portCount (h : Hw) : Nat := match portsCode h with | 0 => 1 | 1 => 2 | _ => 4

/-- The port of a laneset. -/
def portOf (h : Hw) (ls : Nat) : Nat :=
  let k := if ls < 16 then ls else 2 * (ls - 16)
  k / (16 / portCount h)

/-- Upstream and downstream lanesets of a port. -/
def portUps (h : Hw) (p : Nat) : List Nat := (List.range 16).filter (fun k => portOf h k == p)
def portDns (h : Hw) (p : Nat) : List Nat := (span 16 8).filter (fun k => portOf h k == p)

/-- The SEQ of the last flit delivered in order, 0xFFF before the first (R107). -/
def ackOf (h : Hw) (p : Nat) : Nat := ((port h p).expect + 4095) % 4096

/-! Sending. -/

/-- Slots of a group: its header and what it announces (R111). -/
def groupSlots : TxGroup → Nat
  | .rsp _ data => 1 + 4 * data.length
  | .arsp .. => 1
  | .jcpl _ _ _ r => 1 + bit r.isSome
  | .mgt body => 1 + (body.length + 15) / 16

/-- What limits a group: 0 data-bearing RSP, 1 other RSP-channel groups, 2 MGT (R129). -/
def groupKind : TxGroup → Nat
  | .rsp _ data => if data.isEmpty then 1 else 0
  | .mgt _ => 2
  | _ => 1

/-- RSP credits held by a port (0x3011). -/
def rspCredits (h : Hw) (p : Nat) : Nat := obj h 0x3011 p

/-- The port holds the credits for a group; a data-bearing RSP leaves the reserve of 0x3010:01 (R127, R129). -/
def creditsFor (h : Hw) (p : Nat) (g : TxGroup) : Bool :=
  match groupKind g with
  | 0 => decide (groupSlots g + obj h 0x3010 1 ≤ rspCredits h p)
  | 1 => decide (groupSlots g ≤ rspCredits h p)
  | _ => decide (groupSlots g ≤ (port h p).mgtCredits)

/-- Takes a group's credits. -/
def takeCredits (h : Hw) (p : Nat) (g : TxGroup) : Hw :=
  if groupKind g = 2 then
    let q := port h p
    setPort h p { q with mgtCredits := q.mgtCredits - groupSlots g }
  else setObj h 0x3011 p 0 (rspCredits h p - groupSlots g)

/-- The first upstream laneset of the port that can take a DATA flit: in service, not waiting to park, with room in its retry buffer of 64 flits (R83, R95, R136). -/
def freeLaneset (h : Hw) (p : Nat) : Option Nat :=
  (portUps h p).find? (fun k => inService h k && !(laneset h k).parkWait && decide ((laneset h k).retry.length < 64))

/-- An upstream laneset sends flits without end: in LOCK, EXCHANGE and ACTIVE of the link or of its own return, unless it is quiet or sends a test pattern (R81, R83, R93, R135). -/
def streams (h : Hw) (ls : Nat) : Bool :=
  let l := laneset h ls
  match l.wd with
  | some w => w.phase != .pattern
  | none => decide (2 ≤ obj h 0x2200 2) && decide (obj h 0x2200 2 ≤ 4) && inService h ls && !l.quiet && l.test == 0

/-- Lane frames of 146 symbols that pass in a time, at the lane rate in use (R38). -/
def framesIn (h : Hw) (ns : Nat) : Nat := ns * (match obj h 0x2000 1 with | 0 => 112 | 1 => 56 | _ => 28) / 146

/-- More codewords have gone out on an upstream laneset: they advance the scrambler and, in ACTIVE, the codeword count (R67, R90). -/
def sentCodewords (h : Hw) (ls n : Nat) : Hw :=
  let l := laneset h ls
  let count := if linkActive h && inService h ls then (l.cwCount + n) % 4294967296 else l.cwCount
  setLaneset h ls { l with streamCw := l.streamCw + n, scr := l.scr + 2048 * n, cwCount := count }

/-- The flits that an upstream laneset has sent of itself until now, to fill its lanes, are accounted for: whole flits, beyond those already counted (assumption 151). -/
def fillIdle (h : Hw) (ls : Nat) : Hw :=
  if streams h ls then sentCodewords h ls (2 * (framesIn h (now h - (laneset h ls).streamAt) / 2) - (laneset h ls).streamCw) else h

/-- The stream of flits of an upstream laneset begins now. -/
def startStream (h : Hw) (ls : Nat) : Hw := setLaneset h ls { laneset h ls with streamAt := now h, streamCw := 0, quiet := false }

/-- Drives one flit on an upstream laneset (R67, R90, R107, R135): it ends quiet idle, its two codewords advance the scrambler and, in ACTIVE, the codeword count; a DATA flit carries its own SEQ, any other that of the port's next one. -/
def driveFlit (h : Hw) (ls : Nat) (c : FlitContent) (bad : Bool) : Hw :=
  let p := portOf h ls
  let h := if (laneset h ls).quiet then startStream h ls else fillIdle h ls
  let scr := (laneset h ls).scr
  emit (sentCodewords h ls 2) (.flit ls c (match c with | .data f => f.seq | _ => (port h p).nextSeq) (ackOf h p) bad scr)

/-- Sends a flit on a laneset; an armed injection inverts the CRC of the next DATA flit (R298, R299). -/
def sendFlit (h : Hw) (ls : Nat) (c : FlitContent) : Hw :=
  let data := match c with | .data _ => true | _ => false
  if data && h.inject.flit == some ls then
    driveFlit { h with inject := { h.inject with flit := none }, react := { h.react with injected := h.react.injected + 1 } } ls c true
  else driveFlit h ls c false

/-- Sends a capability flit; until one is received on the laneset's counterpart (assumption 150), every eighth flit in EXCHANGE is a sync flit (R82, R83). -/
def sendCapability (h : Hw) (ls block : Nat) : Hw :=
  let count := fun (h : Hw) => setLaneset h ls { laneset h ls with exchFlits := (laneset h ls).exchFlits + 1 }
  let h := if (laneset h ls).exchFlits % 8 = 7 && !(laneset h (16 + ls / 2)).capSeen then count (sendFlit h ls .sync) else h
  count (sendFlit h ls (.capability block))

/-- Sends the wake sequence on a laneset and its first 32 flits, which are sync flits (R99). -/
def sendWake (h : Hw) (ls : Nat) : Hw := (List.range 32).foldl (fun h _ => sendFlit h ls .sync) (emit h (.wake ls))

/-- Puts a DATA flit on a laneset and into its retry buffer (R131). -/
def putFlit (h : Hw) (ls : Nat) (f : TxFlit) : Hw :=
  let l := laneset h ls
  sendFlit (setLaneset h ls { l with retry := l.retry ++ [f], order := l.order ++ [f.seq] }) ls (.data f)

/-- Sends a new DATA flit with one group, or none, and the credits to return, at most 511 of a channel (assumption 143). -/
def newFlit (h : Hw) (p ls : Nat) (g : Option TxGroup) : Hw :=
  let q := port h p
  let f : TxFlit := { seq := q.nextSeq, crReq := min q.retReq 511, crJob := min q.retJob 511, crMgt := min q.retMgt 511, group := g }
  let h := setPort h p { q with nextSeq := (q.nextSeq + 1) % 4096, retReq := q.retReq - f.crReq, retJob := q.retJob - f.crJob, retMgt := q.retMgt - f.crMgt }
  putFlit (bump h 0x3000 p) ls f

/-- Sends replayed flits, oldest first, while a laneset can take them (R93, step 2). -/
def sendReplays : Nat → Hw → Nat → Hw
  | 0, h, _ => h
  | n + 1, h, p =>
    let q := port h p
    match q.replay, freeLaneset h p with
    | f :: r, some ls => sendReplays n (putFlit (bump (setPort h p { q with replay := r }) 0x3003 p) ls f) p
    | _, _ => h

/-- The first copy of a response goes out: its latency sample ends (R205). -/
def endSample (h : Hw) (w : HeldGroup) : Hw :=
  match w.sample with
  | some x => { h with react := { h.react with samples := h.react.samples ++ [x] } }
  | none => h

/-- Sends waiting groups in order; a group of a kind behind one that cannot be sent waits too. Answers what still waits. -/
def sendWaiting : Hw → Nat → List HeldGroup → List Nat → Hw × List HeldGroup
  | h, _, [], _ => (h, [])
  | h, p, w :: ws, blocked =>
    let g := w.group
    let stop := blocked.contains (groupKind g) || !creditsFor h p g || !(port h p).replay.isEmpty
    match (if stop then none else freeLaneset h p) with
    | some ls => sendWaiting (newFlit (takeCredits (endSample h w) p g) p ls (some g)) p ws blocked
    | none =>
      let (h', rest) := sendWaiting h p ws (groupKind g :: blocked)
      (h', w :: rest)

/-- Returns credits in DATA flits of their own while some are due (R128); the fuel covers the nine flits of a full buffer. -/
def sendCredits : Nat → Hw → Nat → Hw
  | 0, h, _ => h
  | n + 1, h, p =>
    let q := port h p
    if q.retReq + q.retJob + q.retMgt = 0 || !q.replay.isEmpty then h
    else match freeLaneset h p with
      | some ls => sendCredits n (newFlit h p ls none) p
      | none => h

/-- A group is the completion of a tag's FENCE: one zero-line entry (R119). -/
def isCompletion (tag : Nat) (g : TxGroup) : Bool :=
  match g with
  | .rsp [e] [] => e.tag == tag
  | _ => false

/-- The hold of a FENCE ends once its completion waits no more: later requests execute, and with JOBS = 1 its marker leaves the job buffer (R119). -/
def liftFence (h : Hw) (p : Nat) : Hw :=
  let q := port h p
  match q.fence with
  | some f => if f.done && !q.wait.any (fun w => isCompletion f.tag w.group) then setPort h p { q with fence := none, job := if f.jobs then q.job.tail else q.job } else h
  | none => h

/-- Sends all that a port can send: replays first, then waiting groups, then credits. -/
def flushPort (h : Hw) (p : Nat) : Hw :=
  if (port h p).down || !linkActive h then liftFence h p
  else
    let h := sendReplays (port h p).replay.length h p
    let (h, rest) := sendWaiting h p (port h p).wait []
    let h := setPort h p { port h p with wait := rest }
    liftFence (sendCredits 16 h p) p

/-- Gives a group to a port's transmitter, with the latency sample that its sending ends; a port that is down discards responses and counts them (R96). -/
def sendSampled (h : Hw) (p : Nat) (w : HeldGroup) : Hw :=
  let q := port h p
  if q.down then liftFence (bump h 0x3006 p) p
  else flushPort (setPort h p { q with wait := q.wait ++ [w] }) p

/-- Gives a group to a port's transmitter. -/
def sendGroup (h : Hw) (p : Nat) (g : TxGroup) : Hw := sendSampled h p { group := g }

/-- Credits become due as slots leave a receive buffer (R128). -/
def returnCredits (h : Hw) (p req job mgt : Nat) : Hw :=
  let q := port h p
  flushPort (setPort h p { q with retReq := q.retReq + req, retJob := q.retJob + job, retMgt := q.retMgt + mgt }) p

/-! Layouts. -/

/-- A header slot of 16 bytes from its 128-bit value. -/
def slotBytes (v : Nat) : List Byte := leBytes 16 v

/-- An RSP entry's 28 bits (Table 4.9). -/
def rspEntryBits (e : RspEntry) : Nat :=
  2 ^ 27 + e.first % 4 * 2 ^ 25 + e.tag % 4096 * 2 ^ 12 + e.status % 32 * 2 ^ 7 + e.lines % 8 * 2 ^ 4 + e.poison % 16

/-- An RSP slot: entries E0 to E3 from bit 8, without gaps (Table 4.8). -/
def rspSlot (es : List RspEntry) : Nat := 0x08 + ((es.take 4).zipIdx.map (fun e => rspEntryBits e.1 * 2 ^ (8 + 28 * e.2))).sum

/-- The bytes of a slot group (R111, R122 to R124). -/
def groupBytes : TxGroup → List Byte
  | .rsp es data => slotBytes (rspSlot es) ++ (data.map lineBytes).flatten
  | .arsp tag status old wide =>
    slotBytes (0x09 + tag % 4096 * 2 ^ 8 + status % 32 * 2 ^ 20 + (if wide then old % 2 ^ 64 else old % 2 ^ 32) * 2 ^ 64)
  | .jcpl id status bytes r =>
    slotBytes (0x0A + status % 256 * 2 ^ 8 + id % 65536 * 2 ^ 16 + bit r.isSome * 2 ^ 32 + bytes % 2 ^ 48 * 2 ^ 40) ++
      (match r with | some v => leBytes 16 v | none => [])
  | .mgt body =>
    let n := (body.length + 15) / 16
    slotBytes (0x0C + n * 2 ^ 8 + body.length * 2 ^ 16) ++ fitBytes (16 * n) body

/-- A REPLAY_REQ slot (Table 4.10). -/
def replaySlot (idx : Nat) (last : Option Nat) : List Byte :=
  slotBytes (0x0E + idx % 16 * 2 ^ 8 + last.getD 0 % 4096 * 2 ^ 12 + bit last.isNone * 2 ^ 24)

/-- The index of a laneset in its direction. -/
def lsIndex (ls : Nat) : Nat := if ls < 16 then ls else ls - 16

/-- The 16 bytes of a link-control message (R90): type, direction and index, stripe lane, position, codeword count, and in TRAIN a back-channel message. -/
def linkMsgBytes (m : LinkMsg) : List Byte :=
  let mk := fun (type ls b2 b3 count : Nat) (tail : List Byte) =>
    fitBytes 16 ([BitVec.ofNat 8 type, BitVec.ofNat 8 (lsIndex ls + (if ls < 16 then 0 else 16)), BitVec.ofNat 8 b2, BitVec.ofNat 8 b3] ++ leBytes 4 count ++ tail)
  match m with
  | .repairReq ls st pos => mk 1 ls st pos 0 []
  | .mirrorOn ls st pos n => mk 2 ls st pos n []
  | .switch ls st pos n => mk 3 ls st pos n []
  | .repairDone ls st pos => mk 4 ls st pos 0 []
  | .train ls b => mk 5 ls 0 0 0 (bcBytes (lsIndex ls) b)
  | .rejoin ls => mk 6 ls 0 0 0 []
  | .testStart ls n => mk 7 ls n 0 0 []
  | .testEnd ls => mk 8 ls 0 0 0 []
  | .refuse ls => mk 9 ls 0 0 0 []

/-- A LINKCTL slot and its message slot (Table 4.10). -/
def linkCtlSlots (m : LinkMsg) : List Byte := slotBytes 0x0D ++ linkMsgBytes m

/-- The 64-bit header of a flit (Table 4.2); an unsequenced one carries zero credits (R108). -/
def flitHeader (c : FlitContent) (seq ack : Nat) : Nat :=
  let base := seq % 4096 * 2 ^ 4 + ack % 4096 * 2 ^ 16
  match c with
  | .sync => 0
  | .data f => base + 1 + f.crReq * 2 ^ 28 + f.crJob * 2 ^ 46 + f.crMgt * 2 ^ 55
  | .idle _ => base + 2
  | .capability _ => base + 3
  | .park => base + 4

/-- The slots of a flit. -/
def flitSlotBytes : FlitContent → List Byte
  | .data { group := some g, .. } => groupBytes g
  | .idle slots => slots
  | .capability b => leBytes 64 b
  | _ => []

/-- The 512 bytes of a flit before scrambling (R106 to R109): a sync flit is all zero; an injection inverts the CRC. -/
def flitBytes (c : FlitContent) (seq ack : Nat) (badCrc : Bool) : List Byte :=
  if c = .sync then List.replicate 512 0#8
  else
    let body := fitBytes 504 (leBytes 8 (flitHeader c seq ack) ++ flitSlotBytes c)
    let crc := crc64 body
    body ++ leBytes 8 (if badCrc then 2 ^ 64 - 1 - crc else crc)

/-- Information bits of codeword `c` of a flit before scrambling (R66). -/
def flitInfo (bytes : List Byte) (c : Nat) : Nat := leNat ((bytes.drop (256 * c)).take 256)

/-- The flit's bytes of two codewords' information bits (R66). -/
def infoBytes (a b : Nat) : List Byte := leBytes 256 a ++ leBytes 256 b

/-! Control flits. -/

/-- An updated ACK goes out in an IDLE flit on the port's first in-service upstream laneset (R132). -/
def sendAck (h : Hw) (p : Nat) : Hw :=
  match (portUps h p).find? (inService h) with
  | some k => sendFlit h k (.idle [])
  | none => h

/-- A REPLAY_REQ for a downstream laneset, in an IDLE flit on the port's first in-service upstream laneset (R133). -/
def sendReplayReq (h : Hw) (ls : Nat) : Hw :=
  match (portUps h (portOf h ls)).find? (inService h) with
  | some k => sendFlit h k (.idle (replaySlot (lsIndex ls) (laneset h ls).lastSeq))
  | none => h

/-- A laneset that may carry a flit: in service, and in ACTIVE of a port that is not down (R96). -/
def takesFlits (h : Hw) (ls : Nat) : Bool := inService h ls && !(linkActive h && (port h (portOf h ls)).down)

/-- A link-control message, in an IDLE flit on the first upstream laneset of the link that takes flits (R90, R96). -/
def sendCtl (h : Hw) (m : LinkMsg) : Hw :=
  match (List.range 16).find? (takesFlits h) with
  | some k => sendFlit h k (.idle (linkCtlSlots m))
  | none => h

end Sys2Proof.Machine
end

