-- ==== Sys2Proof/Machine/FaultOps.lean ====
section
/-!
DEFINITION. What one fault occurrence does (R384 to R398, R405): COUNT, STATUS, ERR latch, record, first and last fault,
notification, Milestone, entry into Grey mode.
-/
namespace Sys2Proof.Machine

/-- What an occurrence tells besides its source (Table 14.4). -/
structure Where where
  selector : Nat := 0
  port : Nat := 0xFF
  engine : Nat := 0xFF
  line : Option Nat := none
  location : Nat := 0
  detail : Nat := 0
  spec : Bool := false
  forced : Bool := false
  deriving DecidableEq, Repr

/-- Bytes 0 to 59 of a record (Table 14.4). -/
def recBody (r : FaultRec) : List Byte :=
  leBytes 60 (r.time % 2 ^ 64 + r.source * 2 ^ 64 + r.severity * 2 ^ 80 + bit r.spec * 2 ^ 82 + bit r.forced * 2 ^ 83 +
    bit r.upgraded * 2 ^ 84 + bit r.grey * 2 ^ 85 + r.selector * 2 ^ 88 + r.port * 2 ^ 104 + r.engine * 2 ^ 112 +
    r.seq % 2 ^ 32 * 2 ^ 120 + r.count % 2 ^ 32 * 2 ^ 152 +
    (match r.line with | some l => l % 2 ^ 31 * 2 ^ 184 + 2 ^ 215 | none => 0) +
    r.location % 2 ^ 32 * 2 ^ 216 + r.detail % 2 ^ 128 * 2 ^ 256)

/-- The 64 bytes of a record, CHECK over bytes 0 to 59 last (R393). -/
def recBytes (r : FaultRec) : List Byte := recBody r ++ leBytes 4 (crc32c (recBody r))

/-! Fault registers, one set per source: unit of the register is the source number. -/

def srcStatus (h : Hw) (s : Nat) : Bool := flag h 0x8000 2 s

/-- The domain that a persisting cause comes from: the stewards judge distrust and the classes, the fabric tells of the link and of scrub, THM watches the rest. -/
def srcDomain (s : Nat) : Nat :=
  if s = Src.sensorDistrust ∨ s = Src.classOvercommit then 2
  else if s = Src.portDown ∨ s = Src.driftRetrainWaiting ∨ s = Src.scrubLate then 5 else 1

/-- The cause of a source persists: by what the state shows of it, or as its block last said (R384, assumption 172). -/
def persists (h : Hw) (s : Nat) : Bool :=
  if s = Src.driftRetrainWaiting then (span 16 8).any (fun k => (laneset h k).spare.isNone && (laneset h k).queue.any (·.drift))
  else if s = Src.classOvercommit then (List.range 8).any (fun t => flag h 0x3420 1 t)
  else if s = Src.scrubLate then h.chans.pcs.any (fun e => e.2.late)
  else if s = Src.capUnmet then h.power.unmet
  else if s = Src.inputRailOut then !h.power.railRaised.isEmpty
  else if s = Src.thermalTrip then h.mode == .trip || h.mode == .dramOff
  else if s = Src.bandRusset then (List.range 16).any (fun d => obj h 0x7810 1 d == 2)
  else flag h 0x8000 3 s

/-- ACTIVE as it reaches the fault registers: a domain that is not ON shows no fault (Table 11.3). -/
def srcActive (h : Hw) (s : Nat) : Bool := persists h s && domainState h (srcDomain s) == 0
def srcEnabled (h : Hw) (s : Nat) : Bool := flag h 0x8000 4 s
def srcSeverity (h : Hw) (s : Nat) : Nat := obj h 0x8000 5 s

/-- ACTIVE follows a cause that persists (R384). -/
def setActive (h : Hw) (s : Nat) (b : Bool) : Hw := setObj h 0x8000 3 s (bit b)

def setLatch (h : Hw) (s : Nat) (b : Bool) : Hw :=
  { h with faults := { h.faults with latch := tput false h.faults.latch s b } }

/-- A 53-byte map with bit i for source i (R411). -/
def sourceMap (h : Hw) (sub : Nat) : List Byte :=
  leBytes 53 ((sourceRows.map (fun r => if (if sub = 3 then srcActive h r.num else flag h 0x8000 sub r.num) then 2 ^ r.num else 0)).sum)

/-- Grey mode is in force (0x8300:01). -/
def grey (h : Hw) : Bool := flag h 0x8300 1

/-- Entry into Grey mode (R405): `cause` are bits of 0x8300:04, `source` the INTEGRITY source if one causes it. In SLEEP and before the end of power-up the entry waits for the last step of the wake or of power-up. Grey mode entered again after a trip keeps the source it had. -/
def enterGrey (h : Hw) (cause : Nat) (source : Option Nat) : Hw :=
  if (h.mode != .run && h.mode != .stopping) || obj h 0x7000 1 == 2 || obj h 0x7000 1 == 4 then
    { h with faults := { h.faults with greyWait := h.faults.greyWait ||| cause, greySource := h.faults.greySource <|> source } }
  else if grey h then
    let h := setObj (bump (setObj h 0x8300 4 0 (obj h 0x8300 4 ||| cause)) 0x8300 5) 0x8300 6 0 (now h)
    match source with
    | some s => if obj h 0x8300 7 = 0xFFFF then setObj h 0x8300 7 0 s else h
    | none => h
  else
    let h := setObj (setObj h 0x8300 1 0 1) 0x8300 4 0 cause
    let h := setObj (bump h 0x8300 5) 0x8300 6 0 (now h)
    let h := setObj h 0x8300 7 0 (match source with | some s => s | none => if bitAt cause 2 then obj h 0x8300 7 else 0xFFFF)
    { h with react := { h.react with grey := true } }

/-- The last step of a wake or of power-up: an entry that waited, or one that a restart after a trip calls for, takes place (R407). -/
def enterWaiting (h : Hw) (cause : Nat) : Hw :=
  let f := h.faults
  if f.greyWait ||| cause = 0 then h else enterGrey { h with faults := { f with greyWait := 0, greySource := none } } (f.greyWait ||| cause) f.greySource

/-- An INTEGRITY source's latch is set. -/
def integrityLatch (h : Hw) : Bool := h.faults.latch.any (fun e => e.2 && tget false h.faults.integrity e.1)

/-- The values the snapshot registers latch: every register that stands at other than its default, of the objects of 0x2000 to 0x7FFF and 0x9800 to 0x9FFF (R398). -/
def latchable (key : Nat) : Bool :=
  let idx := key / 4096 / 256
  (decide (0x2000 ≤ idx) && decide (idx ≤ 0x7FFF)) || (decide (0x9800 ≤ idx) && decide (idx ≤ 0x9FFF))

/-- A channel's neighbour-refresh generator: its seed until it first draws (R183). -/
def lfsrOf (h : Hw) (ch : Nat) : Nat :=
  match (tget {} h.chans.chs ch).lfsr with
  | some v => v
  | none => let v := Config.lfsrSeed (obj h 0x1000 4) ch % 4294967296; if v = 0 then 1 else v

/-- What the snapshot registers take: the values of the register file, the channels' generators, and for each path its selected parcel's entry and heat (R398, R400). -/
def latched (h : Hw) : Tbl Nat :=
  let t := (List.range 64).foldl (fun t k => tput (regDefault (regKey 0x5022 1 k)) t (regKey 0x5022 1 k) (lfsrOf h k)) (h.regs.filter (fun e => latchable e.1))
  (List.range 5).foldl (fun t p => tset (tset t (regKey 0x4001 2 p) (route h (obj h 0x4001 1 p))) (regKey 0x4001 3 p) (heatOf h (obj h 0x4001 1 p))) t

/-- A NOTIFICATION (R395): an answer body with OP 0x8F, sent on each port named while 17 MGT credits remain after it. -/
def notify (h : Hw) (r : FaultRec) : Hw :=
  let slot := r.seq % 256
  let body := leBytes 16 (0x8F + 0x8010 * 2 ^ 32 + slot * 2 ^ 48 + 1 * 2 ^ 56 + r.selector * 2 ^ 64 + 64 * 2 ^ 96) ++ recBytes r
  if r.severity = 0 || !bitAt (obj h 0x8020 1) (r.severity - 1) then h
  else ((List.range 4).filter (fun p => bitAt (obj h 0x8020 2) p && decide (p < portCount h))).foldl
    (fun h p => if (port h p).mgtCredits ≥ 6 + 17 && !(port h p).down then sendGroup h p (.mgt body) else bump h 0x8020 3) h

/-- Keeps the first and the last fault (R394). -/
def keepFirstLast (h : Hw) (r : FaultRec) : Hw :=
  if r.severity < obj h 0x8012 3 then h
  else
    let f := h.faults
    { h with faults := { f with first := (match f.first with | some x => some x | none => some r), last := some r } }

/-- A trigger event of the cycle in which the trigger fired: its bit is set, and the lowest code is recorded (R398). -/
def alsoFired (h : Hw) (code detail : Nat) : Hw :=
  let h := setObj h 0x9010 4 0 (obj h 0x9010 4 ||| 2 ^ (code - 1))
  if code < obj h 0x9010 2 then setObj (setObj h 0x9010 2 0 code) 0x9010 3 0 detail else h

/-- A trigger event of Milestone (R396 to R398): `code` of Table 14.5 and the detail. `after` takes the fault source that a firing raises. Events of one command fall into one cycle, but for the record of the firing itself (assumption 173). -/
def milestoneEvent (after : Hw → Nat → Hw) (h : Hw) (code detail : Nat) : Hw :=
  if !bitAt (obj h 0x9000 3) (code - 1) then h
  else if h.react.fired && !(code == 3 && detail == Src.milestoneFired) then alsoFired h code detail
  else if obj h 0x9000 2 != 1 then bump h 0x9000 9
  else
    let h := setObj (setObj (setObj (setObj h 0x9000 2 0 2) 0x9010 1 0 (now h)) 0x9010 2 0 code) 0x9010 3 0 detail
    let h := setObj (setObj (bump h 0x9000 10) 0x9010 4 0 (2 ^ (code - 1))) 0x9010 6 0 (obj h 0x8011 1)
    let h := setBlob h 0x9010 5 (sourceMap h 2)
    let h := { h with faults := { h.faults with snapTaken := true, snap := latched h }, react := { h.react with fired := true } }
    let h := if code != 1 && flag h 0x9000 7 then emit { h with faults := { h.faults with ballLow := true } } .milestoneLow else h
    after h Src.milestoneFired

/-- A record enters the ring, with everything a record of its severity does (R387, R392 to R396, R405). -/
def writeRecord (fire : Hw → Nat → Nat → Hw) (h : Hw) (r : FaultRec) : Hw :=
  let n := obj h 0x8011 1
  let r := { r with seq := n, grey := grey h }
  let h := setObj (bump h 0x8011 1) 0x8011 2 0 (n % 256)
  let h := { h with faults := { h.faults with ring := tset h.faults.ring (n % 256) r } }
  let h := notify (keepFirstLast h r) r
  if r.severity ≥ obj h 0x9000 4 && (obj h 0x9000 5 == 0xFFFF || obj h 0x9000 5 == r.source) then fire h 3 r.source else h

/-- One occurrence; `fuel` bounds the chain record, firing, record of the firing. -/
def raiseN : Nat → Hw → Nat → Where → Hw
  | 0, h, s, _ => bump h 0x8000 7 s
  | fuel + 1, h, s, w =>
    let h := bump h 0x8000 7 s
    if !srcEnabled h s then h
    else
      let sev := if w.spec then 0 else srcSeverity h s
      let known := srcStatus h s
      let h := setObj h 0x8000 2 s 1
      let h := { h with faults := { h.faults with integrity := tput false h.faults.integrity s (sev == 3) } }
      let h := if sev ≥ 2 then setLatch h s true else h
      let r : FaultRec := { time := now h, source := s, severity := sev, spec := w.spec, forced := w.forced, selector := w.selector, port := w.port, engine := w.engine, count := obj h 0x8000 7 s, line := w.line, location := w.location, detail := w.detail }
      let fire := milestoneEvent (fun h s => raiseN fuel h s {})
      let h := if !known || sev ≥ 2 || w.forced then writeRecord fire h r else bump h 0x8011 3
      if sev = 3 then enterGrey h 1 (some s) else h

/-- One occurrence of a fault source (R387). -/
def raise (h : Hw) (s : Nat) (w : Where := {}) : Hw := raiseN 3 h s w

/-- A Milestone trigger event (R396). -/
def milestone (h : Hw) (code detail : Nat) : Hw := milestoneEvent (fun h s => raise h s) h code detail

/-- A link event of Milestone: `b` is the bit of 0x9000:06, the detail a laneset (R396). -/
def linkEvent (h : Hw) (b ls : Nat) : Hw := if bitAt (obj h 0x9000 6) b then milestone h 5 ls else h

/-- Upgrades a speculative occurrence (R244, R393): its record takes the mapped severity, in place while it is in the ring, else as a new record. -/
def upgrade (h : Hw) (r : FaultRec) : Hw :=
  let sev := srcSeverity h r.source
  let r' := { r with severity := sev, spec := false, upgraded := true }
  let fire := milestoneEvent (fun h s => raise h s)
  let h := { h with faults := { h.faults with integrity := tput false h.faults.integrity r.source (sev == 3) } }
  let h := if sev ≥ 2 then setLatch h r.source true else h
  let h :=
    if tfind h.faults.ring (r.seq % 256) = some r then
      let h := { h with faults := { h.faults with ring := tset h.faults.ring (r.seq % 256) r' } }
      let h := notify (keepFirstLast h r') r'
      if sev ≥ obj h 0x9000 4 && (obj h 0x9000 5 == 0xFFFF || obj h 0x9000 5 == r.source) then fire h 3 r.source else h
    else writeRecord fire h { r' with time := now h, count := obj h 0x8000 7 r.source }
  if sev = 3 then enterGrey h 1 (some r.source) else h

/-- ERR_N is low while a latch is set, or while THM holds it; AO holds the latches, so no gated domain takes part (R307, R389). -/
def errLow (h : Hw) : Bool := h.faults.latch.any Prod.snd || h.thmErr

end Sys2Proof.Machine
end

