-- ==== Sys2Proof/Machine/LineCode.lean ====
section
/-!
DEFINITION. The Reed-Solomon code of a stored line and the poison mark (R280 to R284, R287). A stored line is a number of
576 bits: symbol n is bits 16n to 16n + 15, the four check symbols first, then the 32 data symbols.
-/
namespace Sys2Proof.Machine

/-- Multiplication by α in GF(2^16), polynomial 0x1_100B (R281). -/
def gfDouble (a : Nat) : Nat := if a ≥ 32768 then (2 * a) ^^^ 0x1100B else 2 * a

/-- Product in GF(2^16): `n` bits of `b` from the top. -/
def gfMulN : Nat → Nat → Nat → Nat
  | 0, _, _ => 0
  | n + 1, a, b => (if b % 2 = 1 then a else 0) ^^^ gfMulN n (gfDouble a) (b / 2)

def gfMul (a b : Nat) : Nat := gfMulN 16 a b

/-- α^n. -/
def gfPow : Nat → Nat
  | 0 => 1
  | n + 1 => gfDouble (gfPow n)

/-- Symbol n of a stored line. -/
def sym (c n : Nat) : Nat := c / 2 ^ (16 * n) % 65536

/-- Syndrome S(m) = C(α^m), by Horner's rule from symbol 35 down (R283). -/
def syndrome (c m : Nat) : Nat :=
  (List.range 36).foldl (fun s i => gfMul s (gfPow m) ^^^ sym c (35 - i)) 0

def syndromes (c : Nat) : List Nat := (List.range 4).map (syndrome c)

/-- Coefficients of g(x) = (x + 1)(x + α)(x + α²)(x + α³) below x^4, lowest first (R281). -/
def genPoly : List Nat :=
  let step := fun (p : List Nat) (r : Nat) => List.zipWith (· ^^^ ·) (p.map (gfMul r) ++ [0]) (0 :: p)
  ([1, gfPow 1, gfPow 2, gfPow 3].foldl step [1]).take 4

/-- One step of the division by g: the remainder of (r·x + d·x^4) (R281). -/
def checkStep (r : List Nat) (d : Nat) : List Nat :=
  let fb := d ^^^ r.getD 3 0
  List.zipWith (· ^^^ ·) (0 :: r.take 3) (genPoly.map (gfMul fb))

/-- The check symbols of 32 data symbols, as 64 bits. -/
def checkOf (data : Nat) : Nat :=
  let r := (List.range 32).foldl (fun r i => checkStep r (sym data (31 - i))) [0, 0, 0, 0]
  (List.range 4).foldl (fun v i => v + r.getD i 0 * 2 ^ (16 * i)) 0

/-- The poison offset over the four check symbols (R287). -/
def poisonOffset : Nat := 0x9E37 + 0x79B9 * 2 ^ 16 + 0x7F4A * 2 ^ 32 + 0x7C15 * 2 ^ 48

/-- A line as it is stored, poisoned or not (R280, R287). -/
def encodeLine (data : Line) (poison : Bool) : Nat :=
  (checkOf data.toNat ^^^ (if poison then poisonOffset else 0)) + data.toNat * 2 ^ 64

/-- Where bit k of symbol n crosses the TSVs: 72 times its beat, plus DQ TSV 2j or 2j + 1 for data symbol j, plus 64 and CB TSV 2i or 2i + 1 for check symbol i (R282). -/
def burstPlace (n k : Nat) : Nat := 72 * (k / 2) + (if n < 4 then 64 + 2 * n else 2 * (n - 4)) + k % 2

/-- The bits of a stored line that a pattern over the eight beats of its burst touches, TSV by TSV within a beat. -/
def fromBurst (v : Nat) : Nat :=
  if v = 0 then 0
  else ((List.range 36).map (fun n => ((List.range 16).map (fun k => bit (bitAt v (burstPlace n k)) * 2 ^ (16 * n + k))).sum)).sum

/-- The data of a stored line. -/
def lineData (c : Nat) : Line := BitVec.ofNat 512 (c / 2 ^ 64)

/-- The one bad symbol that a syndrome is of: its position and error value (R283). -/
def single (s : List Nat) : Option (Nat × Nat) :=
  match s with
  | [s0, s1, s2, s3] =>
    if s0 = 0 then none
    else match (List.range 36).find? (fun n => gfMul s0 (gfPow n) == s1) with
      | some n => if gfMul s1 (gfPow n) = s2 ∧ gfMul s2 (gfPow n) = s3 then some (n, s0) else none
      | none => none
  | _ => none

/-- How a stored line is classed (R283). -/
inductive LineClass where
  | clean
  | poisoned
  | corrected (pos : Nat)
  | poisonedCorrected (pos : Nat)
  | uncorrectable
  deriving DecidableEq, Repr

/-- A decoded line: its class, its data after correction, whether it is poisoned. -/
structure Decoded where
  cls : LineClass
  data : Line
  poison : Bool
  deriving DecidableEq, Repr

/-- A stored line with the error value taken off one symbol. -/
def fixSym (c n e : Nat) : Nat := c ^^^ (e * 2 ^ (16 * n))

/-- Decodes a stored line (R283, R284); an uncorrectable line is treated as poisoned. -/
def decodeLine (c : Nat) : Decoded :=
  let s := syndromes c
  let sp := syndromes poisonOffset
  if s = [0, 0, 0, 0] then ⟨.clean, lineData c, false⟩
  else if s = sp then ⟨.poisoned, lineData c, true⟩
  else match single s with
    | some (n, e) => ⟨.corrected n, lineData (fixSym c n e), false⟩
    | none =>
      match single (List.zipWith (· ^^^ ·) s sp) with
      | some (n, e) => ⟨.poisonedCorrected n, lineData (fixSym c n e), true⟩
      | none => ⟨.uncorrectable, lineData c, true⟩

end Sys2Proof.Machine
end

