-- ==== Sys2Proof/Machine/Memory.lean ====
section
/-!
DEFINITION. The stored lines. Physical line n = (track · 266,240 + slot) · 1,024 + o holds 72 bytes, check symbols first, at
byte addresses 72n to 72n + 71: every slot of the stack and no more (R143, R144, R280).
-/
namespace Sys2Proof.Machine

/-- Slots of a track (R143). -/
def slotsPerTrack : Nat := 266240

/-- Physical line of a slot's line. -/
def physLine (track slot o : Nat) : Nat := (track * slotsPerTrack + slot) * 1024 + o

/-- The die that holds a physical line (R14, R144). -/
def lineDie (n : Nat) : Nat := 2 * (n / 1024 / slotsPerTrack) + n % 1024 / 4 % 16 / 8

/-- A byte address lies in a zone; the system slots are slots 266,110 to 266,239 of tracks 0 and 4 (R148). -/
def Zone.has : Zone → Nat → Bool
  | .all, _ => true
  | .die d, a => lineDie (a / 72) == d
  | .system, a =>
    let t := a / 72 / 1024 / slotsPerTrack
    (t == 0 || t == 4) && decide (266110 ≤ a / 72 / 1024 % slotsPerTrack)

/-- What an unlisted byte reads as: zero where the stack is zero-filled, elsewhere whatever the cell holds (R281, assumption 8). -/
def unlisted (d : Dram) (a : Nat) : Byte := if d.zones.any (·.has a) then 0#8 else Config.powerOnByte d.epoch a

/-- One stored byte. -/
def readByte (d : Dram) (a : Nat) : Byte := tget (unlisted d a) d.cells a

/-- The form that `cells` keeps: addresses strictly rising, none equal to what an unlisted address reads as. -/
def Memory.wf (d : Dram) : Bool := twf (unlisted d) d.cells

/-- One byte stored. -/
def writeByte (d : Dram) (a : Nat) (b : Byte) : Dram := { d with cells := tput (unlisted d a) d.cells a b }

/-- Bytes stored one after another. -/
def writeBytes : Dram → Nat → List Byte → Dram
  | d, _, [] => d
  | d, a, b :: bs => writeBytes (writeByte d a b) (a + 1) bs

/-- The 576 bits of a physical line. -/
def rawLine (d : Dram) (n : Nat) : Nat := leNat ((span (72 * n) 72).map (readByte d))

/-- A change to the stored lines. -/
inductive DramOp where
  /-- A line with its check symbols. -/
  | line (n raw : Nat)
  /-- `count` lines from `n` become zero data with zero check symbols. -/
  | zero (n count : Nat)
  /-- Every row of a zone becomes zero. -/
  | fill (z : Zone)
  /-- DRAM power is lost. -/
  | lose
  deriving DecidableEq, Repr

/-- Drops the cells of a range of addresses. -/
def dropCells (cells : List Host.Cell) (a n : Nat) : List Host.Cell :=
  cells.filter (fun c => decide (c.1 < a) || decide (a + n ≤ c.1))

/-- Carries out a change. -/
def DramOp.run (d : Dram) : DramOp → Dram
  | .line n raw => writeBytes d (72 * n) (leBytes 72 raw)
  | .zero n count =>
    if d.zones.contains .all then { d with cells := dropCells d.cells (72 * n) (72 * count) }
    else writeBytes d (72 * n) (List.replicate (72 * count) 0#8)
  | .fill z => { d with cells := d.cells.filter (fun c => !z.has c.1), zones := if d.zones.contains .all then d.zones else if z = .all then [z] else d.zones ++ [z] }
  | .lose => { cells := [], zones := [], epoch := d.epoch + 1 }

/-- Carries out changes in order. -/
def runStores (d : Dram) (ops : List DramOp) : Dram := ops.foldl DramOp.run d

/-- What a meaning works on when it touches stored lines: the rest of the stack, the lines as they stand, and the changes made so far. -/
structure Core where
  hw : Hw
  dram : Dram
  stores : List DramOp
  deriving DecidableEq, Repr

/-- Makes a change. -/
def Core.store (c : Core) (op : DramOp) : Core := { c with dram := op.run c.dram, stores := c.stores ++ [op] }

/-- Works on the rest of the stack alone. -/
def Core.onHw (c : Core) (f : Hw → Hw) : Core := { c with hw := f c.hw }

/-- Physical lines of a run that hold a listed byte, ascending. -/
def listedLines (d : Dram) (n count : Nat) : List Nat :=
  (d.cells.filterMap (fun c => if 72 * n ≤ c.1 ∧ c.1 < 72 * (n + count) then some (c.1 / 72) else none)).eraseReps

end Sys2Proof.Machine
end

