-- ==== Sys2Proof/Machine/PlaceOps.lean ====
section
/-!
DEFINITION. Operations of placement: route entries and their journal (R145 to R151), the slot map (R152 to R155), the start
and rollback of moves (R159, R163).
-/
namespace Sys2Proof.Machine

def parcels : Nat := 2097152

def setPlace (h : Hw) (v : Place) : Hw := { h with place := v }

/-- The parcel that the static assignment puts in a slot below 262,144 (R155). -/
def staticParcel (track slot : Nat) : Nat :=
  let j := 16 * (slot / 16) + ((slot % 16) ^^^ (slot / 16 % 16))
  8 * j + (track ^^^ (j % 8))

/-- Brings a record into the image (R149). -/
def applyRec (image : Tbl Nat) : JournalRec → Tbl Nat
  | .entry p w => tput (staticEntry p) image p w
  | .released p n => (span p n).foldl (fun im q =>
      let w := tget (staticEntry q) im q
      tput (staticEntry q) im q (if entReleased w then w else w + 2 ^ 7)) image

/-- Applies the oldest unapplied record to both images. -/
def applyOldest (h : Hw) : Hw :=
  match h.place.journal with
  | [] => h
  | r :: rs => setObj (setPlace h { h.place with image := applyRec h.place.image r, journal := rs }) 0x4080 4 0 rs.length

/-- Journals a change; with 256 records unapplied it waits until one has been applied (R149). -/
def journal (h : Hw) (r : JournalRec) : Hw :=
  let h := if h.place.journal.length ≥ 256 then applyOldest h else h
  let js := h.place.journal ++ [r]
  setObj (setPlace h { h.place with journal := js }) 0x4080 4 0 js.length

/-- Writes an entry in SRAM alone: the moving state is not journaled (R149). -/
def putRoute (h : Hw) (p w : Nat) : Hw :=
  setPlace h { h.place with route := tput (staticEntry p) h.place.route p w }

/-- An entry as the journal keeps it: the moving state is never journaled (R149). -/
def journaled (w : Nat) : Nat := if entState w = 1 then w - 2 ^ 8 else w

/-- Journals an entry and then writes it. -/
def setRoute (h : Hw) (p w : Nat) : Hw := putRoute (journal h (.entry p (journaled w))) p w

/-- The parcels whose entry a record changes. -/
def journalParcels : JournalRec → List Nat
  | .entry p _ => [p]
  | .released p n => span p n

/-- A record as one number, for what the journal ring holds of it (R148). -/
def journalWord : JournalRec → Nat
  | .entry p w => 2 * (p * 2 ^ 32 + w)
  | .released p n => 2 * (p * 2 ^ 32 + n) + 1

/-- The word the mirror gives for a parcel: the image with unapplied records over it; both mirror tracks hold the same image, so the word is the same whichever of them can be read (R150). -/
def mirrorWord (h : Hw) (p : Nat) : Nat :=
  tget (staticEntry p) (h.place.journal.foldl applyRec h.place.image) p

/-- A lookup (R145): a correctable error is corrected and written back (R147); an uncorrectable one sends the bank to the mirror and starts a rebuild in Grey mode (R150). -/
def lookup (h : Hw) (p : Nat) : Hw × Nat :=
  let bank := p % 32
  let bad := tget 0 h.place.sramBad p
  if tget false h.place.mirrorBanks bank then (bump h 0x4080 3, mirrorWord h p)
  else if bad = 0 then (h, route h p)
  else if bad = 1 then
    let h := bump (setPlace h { h.place with sramBad := tput 0 h.place.sramBad p 0 }) 0x4080 2
    (raise h Src.routeEntryCorrected, route h p)
  else
    let h := setPlace h { h.place with mirrorBanks := tput false h.place.mirrorBanks bank true }
    let h := bump h 0x4080 3
    let h := { h with faults := { h.faults with greyPlacement := if grey h then h.faults.greyPlacement else obj h 0x4000 1 } }
    let h := raise (setObj h 0x4000 1 0 3) Src.routeTableUncorrectable
    (h, mirrorWord h p)

/-! The slot map (R152). -/

/-- A system slot (R148). -/
def systemSlot (track slot : Nat) : Bool := (track == 0 || track == 4) && decide (266110 ≤ slot) && decide (slot < slotsPerTrack)

/-- State of a slot that is not listed. -/
def slotDefault (h : Hw) (track slot : Nat) : SlotState :=
  if systemSlot track slot then .system
  else if tget false h.place.cleared track || decide (262144 ≤ slot) then .freeZeroed else .inUse

def slotKey (track slot : Nat) : Nat := track * slotsPerTrack + slot

/-- A track is parked (0x4011:05). -/
def trackParked (h : Hw) (t : Nat) : Bool := flag h 0x4011 5 t

/-- The state of a slot: on a parked track every slot but a retired one is PARKED. -/
def slotState (h : Hw) (track slot : Nat) : SlotState :=
  let s := tget (slotDefault h track slot) h.place.slots (slotKey track slot)
  if trackParked h track && s != .retired then .parked else s

def isFree (s : SlotState) : Bool := s == .freeDirty || s == .freeZeroed

/-- Puts a slot into a state and keeps the counts of its track (0x4011:01, :02, :04). -/
def setSlot (h : Hw) (track slot : Nat) (s : SlotState) : Hw :=
  let old := slotState h track slot
  let adj := fun (h : Hw) (sub : Nat) (was is : Bool) => setObj h 0x4011 sub track (obj h 0x4011 sub track + bit is - bit was)
  let h := adj h 1 (isFree old) (isFree s)
  let h := adj h 2 (old == .freeZeroed) (s == .freeZeroed)
  let h := adj h 4 (old == .retired) (s == .retired)
  setPlace h { h.place with slots := tput (slotDefault h track slot) h.place.slots (slotKey track slot) s }

def freeSlots (h : Hw) (t : Nat) : Nat := obj h 0x4011 1 t
def zeroedSlots (h : Hw) (t : Nat) : Nat := obj h 0x4011 2 t

/-- The lowest unlisted slot from `s` on, in a bank column if one is given, within `fuel` slots. -/
def firstUnlisted (h : Hw) (t : Nat) (col : Option Nat) : Nat → Nat → Option Nat
  | 0, _ => none
  | fuel + 1, s =>
    if s ≥ slotsPerTrack then none
    else if (match col with | some c => s % 16 == c | none => true) && !thas h.place.slots (slotKey t s) && !systemSlot t s then some s
    else firstUnlisted h t col fuel (s + 1)

/-- The lowest slot of a track in one of two free states, in a bank column if one is given. -/
def lowestSlot (h : Hw) (t : Nat) (st : SlotState) (col : Option Nat) : Option Nat :=
  if trackParked h t then none
  else
    let inCol := fun s => match col with | some c => s % 16 == c | none => true
    let listed := (h.place.slots.filter (fun e => e.1 / slotsPerTrack == t && e.2 == st && inCol (e.1 % slotsPerTrack))).map (fun e => e.1 % slotsPerTrack)
    let base := if tget false h.place.cleared t then 0 else 262144
    let fresh := if st == .freeZeroed then firstUnlisted h t col slotsPerTrack base else none
    match listed.head?, fresh with
    | some a, some b => some (min a b)
    | some a, none => some a
    | none, b => b

/-- A destination in a bank column: FREE_DIRTY before FREE_ZEROED, lowest number first (R153, R164). -/
def destSlot (h : Hw) (t col : Nat) : Option Nat :=
  match lowestSlot h t .freeDirty (some col) with
  | some s => some s
  | none => lowestSlot h t .freeZeroed (some col)

/-- Counts a committed line access (0x4000:04) and heats its parcel. -/
def heatLine (h : Hw) (p : Nat) : Hw :=
  if domainState h 6 != 0 then h else
  let h := bump h 0x4000 4
  setPlace h { h.place with heat := tput 0 h.place.heat p (min 255 (heatOf h p + 1)) }

/-- Heat of a bank column of a track. -/
def columnHeat (h : Hw) (t col : Nat) : Nat :=
  (h.place.heat.map (fun e => let w := route h e.1; if entTrack w = t ∧ entSlot w % 16 = col ∧ entState w ≠ 2 then e.2 else 0)).sum

/-- The slot in the coolest bank column of a track that has a free one: of equally cool columns the lowest slot number, FREE_DIRTY before FREE_ZEROED (R153, R164). -/
def coolestSlot (h : Hw) (t : Nat) : Option Nat :=
  let cands := (List.range 16).filterMap (fun c => (destSlot h t c).map (fun s => (2 * columnHeat h t c + bit (slotState h t s == .freeZeroed), s)))
  (cands.foldl (fun best x => match best with
    | none => some x
    | some b => if x.1 < b.1 || (x.1 == b.1 && decide (x.2 < b.2)) then some x else some b) none).map Prod.snd

/-! Parcels of slots. -/

/-- The parcel whose entry names a slot, if the slot is in use. -/
def parcelAt (h : Hw) (track slot : Nat) : Option Nat :=
  let named := (h.place.route.find? (fun e => entTrack e.2 == track && entSlot e.2 == slot && entState e.2 != 2)).map Prod.fst
  match named with
  | some p => some p
  | none =>
    if slot < 262144 && !thas h.place.route (staticParcel track slot) then some (staticParcel track slot) else none

/-- Moves a parcel's count between tracks (0x4011:03). -/
def countParcel (h : Hw) (out_ in_ : Option Nat) : Hw :=
  let h := match out_ with | some t => setObj h 0x4011 3 t (obj h 0x4011 3 t - 1) | none => h
  match in_ with | some t => setObj h 0x4011 3 t (obj h 0x4011 3 t + 1) | none => h

/-! Moves (R159, R163). -/

def moveOf (h : Hw) (p : Nat) : Option Move := h.place.moves.find? (fun m => m.parcel == p)

/-- Replaces the list of moves and shows their number (0x4010:06). -/
def setMoves (h : Hw) (ms : List Move) : Hw :=
  setObj (setPlace h { h.place with moves := ms }) 0x4010 6 0 ms.length

/-- Changes one move. -/
def setMove (h : Hw) (m : Move) : Hw :=
  setMoves h (h.place.moves.map (fun x => if x.parcel == m.parcel then m else x))

/-- Rollback or abandonment (R163): the entry settles on the source, the destination becomes FREE_DIRTY, the event is counted. -/
def rollBack (byFault : Bool) (h : Hw) (m : Move) : Hw :=
  let e := route h m.parcel
  let h := putRoute h m.parcel (entryOf m.srcTrack m.srcSlot 0 (entReleased e) (entPinned e))
  let h := setSlot h m.dstTrack m.dstSlot .freeDirty
  bump (setMoves h (h.place.moves.filter (fun x => x.parcel != m.parcel))) 0x4010 (if byFault then 5 else 4)

/-- A policy claims a parcel: a move of it for a policy of lower precedence is abandoned, and starts again for the new one (R162). -/
def claim (h : Hw) (r : MoveReq) : Hw :=
  let h := match moveOf h r.parcel with | some m => if r.prio < m.prio then rollBack false h m else h | none => h
  setPlace h { h.place with queue := h.place.queue.filter (fun q => q.parcel != r.parcel) ++ [r] }

/-- A write to a line of a moving parcel sets its dirty bit (R159). -/
def markDirty (h : Hw) (p o : Nat) : Hw :=
  match moveOf h p with
  | some m => if bitAt m.dirty o then h else setMove h { m with dirty := m.dirty + 2 ^ o }
  | none => h

/-! Retirement (R164, R168). -/

/-- Appends a retired slot to 0x4050:03 until it holds 256 words, and counts it (R168). -/
def noteRetired (h : Hw) (track slot : Nat) : Hw :=
  let l := blob h 0x4050 3
  let w := leBytes 4 (track * 2 ^ 29 + slot * 2 ^ 10)
  let listed := (List.range (l.length / 4)).any (fun i => (l.drop (4 * i)).take 4 == w)
  bump (if l.length < 1024 && !listed then setBlob h 0x4050 3 (l ++ w) else h) 0x4050 5

/-- Retires a slot that holds no live parcel; a released, held parcel is retired with it in place (R164). -/
def retireInPlace (h : Hw) (track slot : Nat) : Hw :=
  let h := match parcelAt h track slot with
    | some p => countParcel (setRoute h p (entryOf track slot 2 true (entPinned (route h p)))) (some track) none
    | none => h
  noteRetired (setSlot h track slot .retired) track slot

/-- Asks for a retirement move, or retires at once when no live parcel is stored: a move into the slot is given up first (R164, R472, assumption 134). -/
def retireSlot (h : Hw) (track slot prio : Nat) : Hw :=
  match slotState h track slot with
  | .retired | .system => h
  | .inUse =>
    match parcelAt h track slot with
    | some p =>
      if entReleased (route h p) then retireInPlace h track slot
      else if h.place.queue.any (fun r => r.parcel == p && decide (r.prio ≤ prio)) || (match moveOf h p with | some m => m.retire | none => false) then h
      else claim h { parcel := p, prio := prio, retire := some (slotKey track slot) }
    | none => retireInPlace ((h.place.moves.filter (fun m => m.dstTrack == track && m.dstSlot == slot)).foldl (rollBack false) h) track slot
  | _ => retireInPlace h track slot

/-- A slot meets a trigger: one that stores no live parcel is retired at once, one in warm-up is marked; otherwise the next epoch asks for the move (R156, R164, R472, assumption 148). -/
def retireTrigger (h : Hw) (track slot prio : Nat) : Hw :=
  let live := slotState h track slot == .inUse && (match parcelAt h track slot with | some p => !entReleased (route h p) | none => false)
  if live && obj h 0x4000 1 != 0 then h else retireSlot h track slot prio

/-- The errors of the last 24 h after `n` more. -/
def addErrors (h : Hw) (old : List Nat) (n : Nat) : List Nat :=
  old.filter (fun t => decide (now h < t + sec 86400)) ++ List.replicate n (now h)

/-- Reports a corrected line to placement: it counts for its row and its slot, and a trigger that is met retires the slot (R164, R472). -/
def reportErrors (h : Hw) (phys n : Nat) : Hw :=
  let ts := phys / 1024
  let o := phys % 1024
  let row := ts * 4 * 16 + (o / 256) * 16 + o / 4 % 16
  let re := addErrors h (tget [] h.place.rowErrs row) n
  let se := addErrors h (tget [] h.place.slotErrs ts) n
  let h := setPlace h { h.place with rowErrs := tput [] h.place.rowErrs row re, slotErrs := tput [] h.place.slotErrs ts se }
  let t := ts / slotsPerTrack
  let s := ts % slotsPerTrack
  if se.length ≥ obj h 0x4050 2 then retireTrigger h t s 1
  else if re.length ≥ obj h 0x4050 1 && flag h 0x4000 5 then retireTrigger h t s 3
  else h

/-- Words of a retired-slot list: track and slot (R168). -/
def retiredWords (l : List Byte) : List (Nat × Nat) :=
  (List.range (l.length / 4)).map (fun i => let w := leNat ((l.drop (4 * i)).take 4); (field w 31 29, field w 28 10))

/-- Every slot of 0x4050:03 is to be retired (R168). -/
def retireListed (h : Hw) : Hw := (retiredWords (blob h 0x4050 3)).foldl (fun h w => retireSlot h w.1 w.2 0) h

/-- The slots that meet the triggers of priorities 1 and 3, and those of 0x4050:03 that are not retired yet, are asked for once more; during warm-up the list alone (R156, R164, R168). -/
def retirements (h : Hw) : Hw :=
  let recent := fun (e : Nat × List Nat) => (e.2.filter (fun t => decide (now h < t + sec 86400))).length
  let ask := fun (prio : Nat) (h : Hw) (ts : Nat) => retireSlot h (ts / slotsPerTrack) (ts % slotsPerTrack) prio
  let h := retireListed h
  if obj h 0x4000 1 = 0 then h
  else
    let h := h.place.bad.foldl (ask 1) h
    let h := ((h.place.slotErrs.filter (fun e => decide (obj h 0x4050 2 ≤ recent e))).map Prod.fst).foldl (ask 1) h
    if flag h 0x4000 5 then ((h.place.rowErrs.filter (fun e => decide (obj h 0x4050 1 ≤ recent e))).map (fun e => e.1 / 64)).foldl (ask 3) h else h

/-- Reports an uncorrectable line of a slot (Table 5.6, priority 1). -/
def reportBad (h : Hw) (phys : Nat) : Hw :=
  let h := if h.place.bad.contains (phys / 1024) then h else setPlace h { h.place with bad := h.place.bad ++ [phys / 1024] }
  retireTrigger h (phys / 1024 / slotsPerTrack) (phys / 1024 % slotsPerTrack) 1

end Sys2Proof.Machine
end

