-- ==== Sys2Proof/Machine/ChanOps.lean ====
section
/-!
DEFINITION. Operations of channels: where a line lies (R14, R144), what a read of it finds and records (R283, R284), the
write queue (R173, R216), corrections on their way back (R285, R286), refresh counts (R177, R178), timing (R175).
-/
namespace Sys2Proof.Machine

/-! Tables. -/

def pcSt (h : Hw) (n : Nat) : Pc := tget {} h.chans.pcs n
def setPc (h : Hw) (n : Nat) (v : Pc) : Hw := { h with chans := { h.chans with pcs := tput {} h.chans.pcs n v } }
def chSt (h : Hw) (n : Nat) : Chan := tget {} h.chans.chs n
def setCh (h : Hw) (n : Nat) (v : Chan) : Hw := { h with chans := { h.chans with chs := tput {} h.chans.chs n v } }
def dieSt (h : Hw) (n : Nat) : Die := tget {} h.chans.dies n
def setDie (h : Hw) (n : Nat) (v : Die) : Hw := { h with chans := { h.chans with dies := tput {} h.chans.dies n v } }
def trkSt (h : Hw) (n : Nat) : TrackSt := tget {} h.chans.tracks n
def setTrk (h : Hw) (n : Nat) (v : TrackSt) : Hw := { h with chans := { h.chans with tracks := tput {} h.chans.tracks n v } }
/-- Class `c` on track `t`. -/
def clsSt (h : Hw) (t c : Nat) : ClassSt := tget {} h.chans.classes (8 * t + c)
def setCls (h : Hw) (t c : Nat) (v : ClassSt) : Hw :=
  { h with chans := { h.chans with classes := tput {} h.chans.classes (8 * t + c) v } }

/-! Where a physical line lies (R144): the numbers of R14. -/

def pTrack (n : Nat) : Nat := n / 1024 / slotsPerTrack
def pSlot (n : Nat) : Nat := n / 1024 % slotsPerTrack
/-- Pseudo-channel of the stack. -/
def pPc (n : Nat) : Nat := 16 * pTrack n + n % 1024 / 4 % 16
def pBank (n : Nat) : Nat := pSlot n % 16
def pRow (n : Nat) : Nat := 4 * (pSlot n / 16) + n % 1024 / 256
/-- Line in the row, 0 to 15. -/
def pCol (n : Nat) : Nat := 4 * (n % 1024 / 64 % 4) + n % 4
/-- The physical line at a place. -/
def lineAt (pcn bank row col : Nat) : Nat :=
  physLine (pcn / 16) (16 * (row / 4) + bank) (4 * (row % 4 * 64 + col / 4 * 16 + pcn % 16) + col % 4)

/-- What a system slot's line holds besides errors: 16 image words in parcel order, or journal records, whose form the spec leaves open (R148, assumption 62). -/
def systemBits (h : Hw) (n : Nat) : Nat :=
  let s := pSlot n
  if !systemSlot (pTrack n) s then 0
  else if s < 266112 then encodeLine (BitVec.ofNat 512 (Config.journalLine n (h.place.journal.map journalWord))) false
  else
    let p := ((s - 266112) * 1024 + n % 1024) * 16
    encodeLine (BitVec.ofNat 512 (leNat ((span p 16).map (fun q => leBytes 4 (tget (staticEntry q) h.place.image q))).flatten)) false

/-- The 576 bits of a stored line. A cell of a system slot lists what differs from what the slot holds, so that the image is kept in one place (R148). -/
def cellBits (c : Core) (n : Nat) : Nat := rawLine c.dram n ^^^ systemBits c.hw n

/-- Stores the 576 bits of a line. -/
def Core.storeLine (c : Core) (n raw : Nat) : Core := c.store (.line n (raw ^^^ systemBits c.hw n))

def chOf (pcn : Nat) : Nat := pcn / 2
def dieOf (pcn : Nat) : Nat := pcn / 8
def trkOf (pcn : Nat) : Nat := pcn / 16

/-- Layout of 0x9802:02 (R301). -/
def locOf (n : Nat) : Nat := (pPc n * 16 + pBank n) * 2 ^ 21 + pRow n * 16 + pCol n

/-- The host address of a stored line, if a parcel's entry names its slot. -/
def hostLine (h : Hw) (n : Nat) : Option Nat := (parcelAt h (pTrack n) (pSlot n)).map (fun p => 1024 * p + n % 1024)

/-- What a fault record tells of a line. -/
def whereLine (h : Hw) (n : Nat) (spec : Bool := false) : Where :=
  { selector := unitSel 6 (pPc n * 16 + pBank n), line := hostLine h n, location := locOf n, spec := spec }

/-! Array area states (Table 1.3). -/

def dieState (h : Hw) (d : Nat) : Nat := obj h 0x1110 2 d
def setDieState (h : Hw) (d v : Nat) : Hw := setObj h 0x1110 2 d v
/-- The die's channels serve requests. -/
def dieOn (h : Hw) (d : Nat) : Bool := dieState h d == 0

/-- The band of a die: 0 Slate, 1 Ochre, 2 Russet (0x7810:01). -/
def band (h : Hw) (d : Nat) : Nat := obj h 0x7810 1 d

/-- The gear in use of a track. -/
def gear (h : Hw) (t : Nat) : Nat := obj h 0x5010 1 t

/-! Timing (R175, Table 6.3): nCK in units of 1/7,000,000 ns, so that every count is exact: 2,000,000 at G0. -/

/-- Clock period in 1/7,000,000 ns. -/
def nckOf (g : Nat) : Nat := match g with | 0 => 2000000 | 1 => 4000000 | _ => 8000000

/-- Rows of Table 6.3 with a minimum time: Slate minimum in ps (2.2857 ns for tCCD_L, which its counts give), and whether the band adds to it. -/
def timingPs : List (Nat × Bool) :=
  [(14000, true), (14000, false), (4000, false), (14000, true), (29000, true), (0, false), (0, false), (2285, false), (2000, false), (4000, false),
   (16000, false), (16000, true), (2500, false), (7500, false), (5000, false), (0, false), (120000, false), (8000, false), (130000, false)]

/-- A time rounded up to counts of a gear; `ps` in ps. The quotients of Table 6.3 are exact at nCK = 2/7, 4/7 and 8/7 ns. -/
def toCounts (g ps : Nat) : Nat := (ps * 7000 + nckOf g - 1) / nckOf g

/-- The time a band adds, in ps. -/
def bandPs (b : Nat) : Nat := match b with | 0 => 0 | 1 => 500 | _ => 1500

/-- The 19 counts of Table 6.3 for a gear in a band. -/
def timing (g b : Nat) : List Nat :=
  let t := timingPs.map (fun r => toCounts g (r.1 + (if r.2 then bandPs b else 0)))
  let at_ := fun i => t.getD i 0
  (List.range 19).map (fun i =>
    if i = 5 then at_ 4 + at_ 3 else if i = 6 then 4 else if i = 7 then max 4 (at_ 7)
    else if i = 15 then at_ 1 - at_ 2 + 6 else at_ i)

/-! What waits, and the rows it needs (R171, R172, R212). -/

/-- The physical line of a host line under an entry. -/
def physOf (e line : Nat) : Nat := physLine (entTrack e) (entSlot e) (line % 1024)

def qKey (pc i : Nat) : Nat := pc * 16 + i
def inputQ (h : Hw) (pc i : Nat) : List Xfer := tget [] h.chans.inputs (qKey pc i)
def setInputQ (h : Hw) (pc i : Nat) (q : List Xfer) : Hw :=
  { h with chans := { h.chans with inputs := tput [] h.chans.inputs (qKey pc i) q } }

/-- Transfers of a pseudo-channel that wait: in its queues and in its return store. -/
def waitingXfers (h : Hw) (pc : Nat) : List Xfer :=
  ((span 3 11).map (inputQ h pc)).flatten ++ (pcSt h pc).cut.map Prod.snd

/-- A line lies in a bank's open row. -/
def inOpenRow (h : Hw) (pc bank n : Nat) : Bool := pBank n == bank && tfind (pcSt h pc).rows bank == some (pRow n)

/-- What the granted transfer still needs of a bank's open row: lines not collected, or the lines a drain has still to move. -/
def grantNeeds (h : Hw) (pc bank : Nat) : Bool :=
  let s := pcSt h pc
  match s.granted with
  | some (.xfer x _) => x.lines.any (fun l => !s.got.any (fun g => g.1 == l.idx) && inOpenRow h pc bank (physOf (route h (l.line / 1024)) l.line))
  | some (.drain _ n) => (s.wq.take (4 - n)).any (fun e => inOpenRow h pc bank e.phys)
  | _ => false

/-- A request still needs the open row of a bank: the granted transfer, or one that waits. -/
def rowNeeded (h : Hw) (pc bank : Nat) : Bool :=
  grantNeeds h pc bank || (waitingXfers h pc).any (fun x => x.lines.any (fun l => inOpenRow h pc bank (physOf (route h (l.line / 1024)) l.line)))

/-! Commands that the controller issues of itself. -/

/-- A replay is counted and raised by its kind: write CRC or parity (R186). -/
def noteReplay (h : Hw) (ch : Nat) (crc : Bool) : Hw :=
  if crc then raise (bump h 0x5120 5 ch) Src.writeCrc { selector := unitSel 3 ch }
  else raise (bump h 0x5120 4 ch) Src.cmdParity { selector := unitSel 3 ch }

/-- Commands that a controller issues within one event, `wr` being whether one carries a write burst: they take sequence numbers, and their alert windows close within it. An armed injection hits the first that can carry it, which is replayed at once after RESYNC (R170, R186, R188, R298, assumption 155). -/
def ownCommands (h : Hw) (ch n : Nat) (wr : Bool) : Hw :=
  let number := fun (h : Hw) (n : Nat) => setCh h ch { chSt h ch with seq := ((chSt h ch).seq + n) % 16 }
  let hit := fun (h : Hw) (crc : Bool) => noteReplay (number { h with react := { h.react with injected := h.react.injected + 1 } } 2) ch crc
  let h := number h n
  let h := if h.inject.parity == some ch then hit { h with inject := { h.inject with parity := none } } false else h
  if wr && h.inject.write == some ch then hit { h with inject := { h.inject with write := none } } true else h

/-! Refresh (R177 to R182). -/

/-- The owed count of a pseudo-channel (0x5021:01). -/
def owed (h : Hw) (p : Nat) : Int := toSigned 16 (obj h 0x5021 1 p)
def setOwed (h : Hw) (p : Nat) (v : Int) : Hw := setObj h 0x5021 1 p (ofSigned 16 v)

/-- Limit of the owed count in the band in use. -/
def owedLimit (h : Hw) (p : Nat) : Nat := 16 * (if band h (dieOf p) = 0 then obj h 0x5020 1 else obj h 0x5020 2)

/-- `n` refreshes of 8 rows each, bank after bank in rotation (R177). -/
def refreshBanks : Nat → Hw → Nat → Hw
  | 0, h, _ => h
  | n + 1, h, p =>
    let s := pcSt h p
    let row := (tget 0 s.rowPtr s.rotation + 8) % 66560
    refreshBanks n (setPc h p { s with rotation := (s.rotation + 1) % 16, rowPtr := tput 0 s.rowPtr s.rotation row }) p

/-- The commands of a sequence that takes longer than an alert window: those issued before have left the retry buffer when it ends, unless an alert stands, which keeps them to be replayed (R186, R188). -/
def takeSeq (h : Hw) (ch n : Nat) : Hw :=
  let h := ownCommands h ch n false
  if (chSt h ch).alert.isSome then h else setCh h ch { chSt h ch with retry := [] }

/-- The granted transfer goes to the return store, tagged with the input it holds; the lines it has moved stay moved (R218). An atomic waits on in its unit. -/
def storeCut (h : Hw) (pc : Nat) : Hw :=
  let s := pcSt h pc
  match s.granted with
  | some (.xfer x i) =>
    let atomic := (chSt h (chOf pc)).rmw.any (fun r => match r with | .host n _ => n == x.txn | .batch .. => false)
    if atomic then setPc h pc { s with granted := none, got := [] }
    else setPc h pc { s with granted := none, got := [], cut := s.cut ++ [(i, x)], moved := if s.got.isEmpty then s.moved else tset s.moved x.txn s.got }
  | _ => h

/-- A die enters self-refresh: PREA, then SRE, which carries each owed count and the band floor; the die issues the owed refreshes first and never goes slower than the floor (R182, R193). A transfer still under way goes back to wait in the return store. -/
def enterSr (h : Hw) (d floor : Nat) : Hw :=
  let h := (span (4 * d) 4).foldl (fun h ch => takeSeq h ch 4) h
  let h := (span (8 * d) 8).foldl (fun h p =>
    let n := (owed h p).toNat + (pcSt h p).emergency.length
    let h := refreshBanks n (storeCut h p) p
    let s := pcSt h p
    setPc h p { s with rows := [], carried := n, emergency := [], excess := 0, granted := none, got := [], sr := true }) h
  let h := { h with react := { h.react with waits := (d / 2) :: h.react.waits } }
  setDie (setDieState h d 2) d { dieSt h d with floor := floor, rate := floor }

/-- A die leaves self-refresh: the owed counts restart at 0 (R182), it reports the rate step it used last (R193), and its canary rows no longer hold anything of meaning (R194). -/
def leaveSr (h : Hw) (d : Nat) : Hw :=
  let h := (span (4 * d) 4).foldl (fun h ch => let h := takeSeq h ch 2; setCh h ch { chSt h ch with canary := false }) h
  let h := (span (8 * d) 8).foldl (fun h p => setOwed (setPc h p { pcSt h p with carried := 0, emergency := [], excess := 0, sr := false }) p 0) h
  setObj (setDieState h d 0) 0x5140 1 d (dieSt h d).rate

/-- Steps 1 to 3 of an array reset: the channels stop, the die enters self-refresh, its logic is reset (R18). -/
def beginReset (h : Hw) (d : Nat) : Hw :=
  let h := (span (4 * d) 4).foldl (fun h ch => setCh h ch { chSt h ch with alert := none, fails := 0, retry := [] }) (enterSr h d (band h d))
  setDieState (setDie h d { dieSt h d with resetAt := now h, training := 0 }) d 1

/-- Line transfers of a class on a track (0x3417), which also count for the running share window (R208). -/
def countLines (h : Hw) (t c n : Nat) : Hw :=
  setCls (bumpBy h 0x3417 c t n) t c { clsSt h t c with winLines := (clsSt h t c).winLines + n }

/-! Neighbour refresh (R183, R184). -/

/-- One bit of the generator: the newest of the last 32 sequence bits is bit 0. -/
def lfsrStep (v : Nat) : Nat :=
  let n := bit (bitAt v 31 ^^ bitAt v 21 ^^ bitAt v 1 ^^ bitAt v 0)
  (2 * v + n) % 4294967296

/-- One draw: 32 steps. -/
def lfsrDraw (v : Nat) : Nat := (List.range 32).foldl (fun v _ => lfsrStep v) v

/-- Queues a row for targeted refresh; a full queue of its bank sends it to input 14 (R184). -/
def queueTrr (h : Hw) (pc bank row : Nat) : Hw :=
  let s := pcSt h pc
  let full := decide (8 ≤ (s.trr.filter (fun r => r.1 == bank)).length)
  let h := setPc h pc { s with trr := s.trr ++ [(bank, row, now h, full)] }
  if full then bump h 0x5021 5 pc else h

/-- The row scramble code of a die by its ROW_ADJACENCY record, else the ROM's (R184, Table 15.7). -/
def scrambleCode (h : Hw) (d : Nat) : Nat := (match tfind h.test.calib (7 * 256 + d) with | some (w :: _) => w | _ => Config.romCalibration (256 * 7 + d) 0) % 16

/-- Physical neighbours of a row at a distance; one past an array edge does not exist (R184). -/
def neighbourRows (h : Hw) (pc bank row d : Nat) : List Nat :=
  ((Config.neighbours (dieOf pc) (scrambleCode h (dieOf pc)) bank row d).take 2).filter (fun r => decide (r < 66560))

/-- The draw that every ACT makes (R183). -/
def drawNeighbours (h : Hw) (pc bank row : Nat) : Hw :=
  let ch := chOf pc
  let v := lfsrDraw (lfsrOf h ch)
  let k := obj h 0x5020 3
  let h := setCh h ch { chSt h ch with lfsr := some v }
  let h := if v % 2 ^ k = 0 then (neighbourRows h pc bank row 1).foldl (fun h r => queueTrr h pc bank r) h else h
  if v % 2 ^ (k + 1) = 0 then (neighbourRows h pc bank row 2).foldl (fun h r => queueTrr h pc bank r) h else h

/-- Opens the row of a line for an access that the stack makes on its own, by PRE when the bank has another row open, and ACT; a row that is open needs none (R172, R183, assumption 135). -/
def openRow (h : Hw) (n : Nat) : Hw :=
  let p := pPc n
  let s := pcSt h p
  if tfind s.rows (pBank n) = some (pRow n) then h
  else
    let h := ownCommands h (chOf p) (if thas s.rows (pBank n) then 2 else 1) false
    drawNeighbours (bump (setPc h p { pcSt h p with rows := tset s.rows (pBank n) (pRow n) }) 0x5120 1 (chOf p)) p (pBank n) (pRow n)

/-- After the last column command to a row: with an idle time of 0 it closes with that command, unless a request needs it (R172). -/
def closeOwn (h : Hw) (n : Nat) : Hw :=
  let p := pPc n
  if obj h 0x5000 1 = 0 && !rowNeeded h p (pBank n) then setPc h p { pcSt h p with rows := tdel (pcSt h p).rows (pBank n) } else h

/-- The 64 rows of a slot are opened in turn, and its lines are given their column commands, reads 0x5120:02 or writes 0x5120:03, but for those of `own`, which count their own (assumption 135). -/
def sweepSlot (sub : Nat) (own : List Nat) (h : Hw) (t s : Nat) : Hw :=
  let h := (List.range 64).foldl (fun h i => let n := physLine t s (i / 16 * 256 + i % 16 * 4); closeOwn (openRow h n) n) h
  (span (8 * t) 8).foldl (fun h ch =>
    let n := 128 - own.countP (fun o => chOf (pPc (physLine t s o)) == ch)
    bumpBy (ownCommands h ch n (sub == 3)) 0x5120 sub ch n) h

/-! The write queue (R173, R216). -/

def wqFind (h : Hw) (n : Nat) : Option WqEntry := (pcSt h (pPc n)).wq.find? (fun e => e.phys == n)
/-- The queue has room for a line: it merges with one already there, or fewer than 32 are queued. -/
def wqRoom (h : Hw) (n : Nat) : Bool := (wqFind h n).isSome || decide ((pcSt h (pPc n)).wq.length < 32)

/-- What a move recorded of a line no longer counts: it is to be written anew (R197). -/
def forgetRecord (h : Hw) (n : Nat) : Hw :=
  if h.chans.recorded.contains n then { h with chans := { h.chans with recorded := h.chans.recorded.filter (· != n) } } else h

/-- A line enters the write queue: it merges over an earlier one (R173). -/
def queueLine (h : Hw) (e : WqEntry) : Hw :=
  let p := pPc e.phys
  forgetRecord (setPc h p { pcSt h p with wq := (pcSt h p).wq.filter (fun x => x.phys != e.phys) ++ [e] }) e.phys

/-- Newer data of a line have come: write-backs of older data become stale, and what a look-ahead found in it no longer counts (R244, R286). -/
def overtake (h : Hw) (n : Nat) : Hw :=
  let k := chOf (pPc n)
  let c := chSt h k
  let h := if c.corr.any (fun x => x.phys == n) then
      setCh h k { c with corr := c.corr.map (fun x => if x.phys == n then { x with stale := true } else x) }
    else h
  forgetRecord { h with chans := { h.chans with specPoison := tdel h.chans.specPoison n } } n

/-- A write becomes visible (R138). -/
def pushWrite (h : Hw) (e : WqEntry) : Hw := overtake (queueLine h e) e.phys

/-- A queued line reaches the array with fresh check symbols, and with what the TSVs added unseen by the write CRC. A failed channel drops it and records that (R187). -/
def drainNoisy (c : Core) (e : WqEntry) (noise : Nat) : Core :=
  let p := pPc e.phys
  let h := bump (setPc c.hw p { pcSt c.hw p with wq := (pcSt c.hw p).wq.filter (fun x => x != e) }) 0x5120 3 (chOf p)
  let h := match e.cls with | some k => countLines h (trkOf p) k 1 | none => h
  if (chSt h (chOf p)).failed then { c with hw := raise h Src.channelFailed (whereLine h e.phys) }
  else
    let h := match e.check with | some s => { h with chans := { h.chans with hard := h.chans.hard ++ [(e.phys, s)] } } | none => h
    ({ c with hw := openRow h e.phys } : Core).storeLine e.phys (encodeLine e.data e.poison ^^^ noise)

/-- A queued line reaches the array by a WR of the controller's own. -/
def drainEntry (c : Core) (e : WqEntry) : Core :=
  (drainNoisy (c.onHw (fun h => ownCommands h (chOf (pPc e.phys)) 1 true)) e 0).onHw (fun h => closeOwn h e.phys)

/-- Drains the oldest line. -/
def drainOldest (c : Core) (p : Nat) : Core :=
  match (pcSt c.hw p).wq with
  | [] => c
  | e :: _ => drainEntry c e

/-- Drains every queued line of a pseudo-channel. -/
def drainAll (c : Core) (p : Nat) : Core := (pcSt c.hw p).wq.foldl drainEntry c

/-- A write of the stack's own that may not wait: with the queue full, the oldest line drains first (assumption 13). -/
def forceWrite (c : Core) (e : WqEntry) : Core :=
  let c := if wqRoom c.hw e.phys then c else drainOldest c (pPc e.phys)
  c.onHw (fun h => pushWrite h e)

/-- A channel's waiting write-backs give way to the zeroing of all that it stores (R286). -/
def dropCorrections (h : Hw) (ch : Nat) : Hw :=
  ((chSt h ch).corr).foldl (fun h e => bump h 0x9800 6 (pPc e.phys)) (setCh h ch { chSt h ch with corr := [] })

/-- Nothing of a slot is queued or on its way back any more. -/
def dropSlotWrites (h : Hw) (track slot : Nat) : Hw :=
  let out := fun (n : Nat) => pTrack n != track || pSlot n != slot
  let h := (span (16 * track) 16).foldl (fun h p =>
    let s := pcSt h p
    if s.wq.all (fun e => out e.phys) then h else setPc h p { s with wq := s.wq.filter (fun e => out e.phys) }) h
  let h := (span (8 * track) 8).foldl (fun h k =>
    let c := chSt h k
    if c.corr.all (fun e => out e.phys) then h
    else (c.corr.filter (fun e => !out e.phys)).foldl (fun h e => bump h 0x9800 6 (pPc e.phys)) (setCh h k { c with corr := c.corr.filter (fun e => out e.phys) })) h
  { h with chans := { h.chans with hard := h.chans.hard.filter (fun e => out e.1), recorded := h.chans.recorded.filter out, specPoison := tdrop h.chans.specPoison (fun n => !out n) } }

/-! Reads of the array (R283, R284). -/

/-- A corrected or poisoned line waits to be written back; with 32 waiting it is dropped (R285). -/
def queueWriteBack (h : Hw) (n : Nat) (data : Line) (poison : Bool) (check : Option Nat) : Hw :=
  let k := chOf (pPc n)
  let c := chSt h k
  if 32 ≤ c.corr.length then raise (bump h 0x9800 7 (pPc n)) Src.writebackDropped (whereLine h n)
  else setCh h k { c with corr := c.corr ++ [⟨n, data, poison, false, check⟩] }

/-- Symbol counts of 0x9801, kept in the register file by position. -/
def countSymbol (h : Hw) (pos p : Nat) : Hw := setObj h 0x9801 pos p (satAdd 32 (obj h 0x9801 pos p) 1)

/-- The occurrence that a raise has just recorded, to be upgraded later (R244). -/
def lastOccurrence (h : Hw) (src : Nat) (w : Where) : FaultRec :=
  let n := obj h 0x8011 1
  match tfind h.faults.ring ((n + 255) % 256) with
  | some r => if r.source = src ∧ r.spec ∧ r.location = w.location ∧ r.time = now h then r
    else { time := now h, source := src, severity := 0, spec := true, selector := w.selector, line := w.line, location := w.location, count := obj h 0x8000 7 src }
  | none => { time := now h, source := src, severity := 0, spec := true, selector := w.selector, line := w.line, location := w.location, count := obj h 0x8000 7 src }

/-- Records an uncorrectable line; a speculative one is kept for its upgrade (R244, R284, R301). -/
def noteUncorrectable (h : Hw) (n : Nat) (spec : Bool) : Hw :=
  let w := whereLine h n spec
  let h := bump h 0x9800 2 (pPc n)
  let h := setObj h 0x9802 2 0 (locOf n)
  let h := match w.line with | some l => setObj h 0x9802 1 0 l | none => h
  let h := raise h Src.lineUncorrectable w
  let h := if spec then { h with chans := { h.chans with specPoison := tset h.chans.specPoison n (lastOccurrence h Src.lineUncorrectable w) } } else h
  reportBad h n

/-- Counts, records and reports what a decode found (Table 10.1); what a move has recorded is recorded once (R197). -/
def noteDecode (h : Hw) (n : Nat) (d : LineClass) (spec : Bool) : Hw :=
  match d with
  | .clean => h
  | .poisoned => h
  | .corrected pos =>
    reportErrors (raise (countSymbol (bump h 0x9800 1 (pPc n)) pos (pPc n)) Src.lineCorrected (whereLine h n)) n 1
  | .poisonedCorrected pos =>
    reportErrors (raise (countSymbol (bump h 0x9800 5 (pPc n)) pos (pPc n)) Src.poisonedCorrected (whereLine h n)) n 1
  | .uncorrectable => if h.chans.recorded.contains n then h else noteUncorrectable h n spec

/-- The outcome asks for a write-back (Table 10.1). -/
def wantsWriteBack : LineClass → Bool
  | .clean | .poisoned => false
  | _ => true

/-- A line whose write-back waits in the correction queue, settled already (R197, R285). -/
def corrFind (h : Hw) (n : Nat) : Option Correction := (chSt h (chOf (pPc n))).corr.find? (fun x => x.phys == n && !x.stale)

/-- Reads a line from the array with `noise` added on the TSVs, and decodes it (R282); `own` is whether the controller issues the RD within the event. -/
def arrayRead (c : Core) (n noise : Nat) (own : Bool := true) : Core × Decoded :=
  (c.onHw (fun h =>
    let h := openRow h n
    let h := if own then ownCommands h (chOf (pPc n)) 1 false else h
    let h := bump h 0x5120 2 (chOf (pPc n))
    if own then closeOwn h n else h), decodeLine (cellBits c n ^^^ noise))

/-- Reads a line as it now stands: from the write queue undecoded, from a write-back under way, else from the array (R173, R197, R282). -/
def readLine (c : Core) (n noise : Nat) (spec : Bool) (own : Bool := true) : Core × Line × Bool :=
  match wqFind c.hw n, corrFind c.hw n with
  | some e, _ => (c, e.data, e.poison)
  | none, some x => (c, x.data, x.poison)
  | none, none =>
    if (chSt c.hw (chOf (pPc n))).failed then (c, 0#512, true)
    else
      let (c, d) := arrayRead c n noise own
      let h := noteDecode c.hw n d.cls spec
      let h := if wantsWriteBack d.cls then queueWriteBack h n d.data d.poison none else h
      ({ c with hw := h }, d.data, d.poison)

/-- A poisoned line is delivered to the host or an engine: counted, and a speculative occurrence of it upgraded (R244, R284). -/
def notePoisonDelivered (h : Hw) (n : Nat) : Hw :=
  let h := bump h 0x9800 3 (pPc n)
  match tfind h.chans.specPoison n with
  | some r => upgrade { h with chans := { h.chans with specPoison := tdel h.chans.specPoison n } } r
  | none => h

/-! Host lines. -/

/-- The entry of a line's parcel, by a lookup (R145). -/
def resolve (h : Hw) (line : Nat) : Hw × Nat := lookup h (line / 1024)

/-- Reads a host line for the host or an engine: zero when its parcel is released (R121, R146). -/
def readHost (c : Core) (line noise : Nat) : Core × Line × Bool :=
  let (h, e) := resolve c.hw line
  let c := { c with hw := h }
  if entReleased e then (c, 0#512, false)
  else
    let (c, d, p) := readLine c (physOf e line) noise false
    (if p then c.onHw (fun h => notePoisonDelivered h (physOf e line)) else c, d, p)

/-! Re-creation (R154). -/

/-- The unparked track with the most FREE_ZEROED slots, lowest number on a tie. -/
def richestTrack (h : Hw) : Nat :=
  (List.range 8).foldl (fun b t => if !trackParked h t && (trackParked h b || decide (zeroedSlots h b < zeroedSlots h t)) then t else b) 0

/-- The zeroed slot a re-creation takes. -/
def zeroedFor (h : Hw) (own : Nat) : Option (Nat × Nat) :=
  match lowestSlot h own .freeZeroed none with
  | some s => some (own, s)
  | none => let t := richestTrack h; (lowestSlot h t .freeZeroed none).map (fun s => (t, s))

/-- Makes a released parcel live before a write or atomic. Answers whether it is live; if not, the access waits, and a parcel's wait counts once (assumption 144). -/
def recreate (c : Core) (p : Nat) : Core × Bool :=
  let (h, e) := lookup c.hw p
  let c := { c with hw := h }
  if !entReleased e then (c, true)
  else
    let freed := entState e == 2
    let own := if freed then entTrack (staticEntry p) else entTrack e
    match zeroedFor h own with
    | some (t, s) =>
      let h := setRoute h p (entryOf t s 0 false (entPinned e))
      let h := if freed then h else setSlot (dropSlotWrites h (entTrack e) (entSlot e)) (entTrack e) (entSlot e) .freeDirty
      let h := countParcel (setSlot h t s .inUse) (if freed then none else some (entTrack e)) (some t)
      ({ c with hw := setPlace h { h.place with waits := h.place.waits.filter (· != p) } }, true)
    | none =>
      if freed then
        if h.place.waits.contains p then (c, false)
        else ({ c with hw := bump (setPlace h { h.place with waits := h.place.waits ++ [p] }) 0x4030 4 }, false)
      else
        let c := (c.onHw (fun h => sweepSlot 3 [] (dropSlotWrites h (entTrack e) (entSlot e)) (entTrack e) (entSlot e))).store (.zero (physLine (entTrack e) (entSlot e) 0) 1024)
        (c.onHw (fun h => setRoute h p (entryOf (entTrack e) (entSlot e) 0 false (entPinned e))), true)

/-- Writes a line of a live parcel: it becomes visible, heats the parcel if it is a committed access, and marks a moving parcel's line dirty (R157, R159). -/
def writeHost (c : Core) (line : Nat) (data : Line) (poison : Bool) (cls : Option Nat) (age : Nat) : Core :=
  let (h, e) := resolve c.hw line
  let h := markDirty (heatLine h (line / 1024)) (line / 1024) (line % 1024)
  forceWrite { c with hw := h } { phys := physOf e line, data := data, poison := poison, cls := cls, age := age }

end Sys2Proof.Machine
end

