-- ==== Sys2Proof/Machine/DictCore.lean ====
section
/-!
DEFINITION. Answers of the dictionary: their layout (R365), the record of the last operation (R372), PENDING operations
and their final answers (R370), and the reply frames of Ouvend (R361).
-/
namespace Sys2Proof.Machine

/-- Key of the last segment of a value: the load of a kernel is each path's own. -/
def segKey (idx sub p : Nat) : Nat := (idx * 256 + sub) * 8 + (if idx = 0x6100 then p else 0)

/-- Status codes of Table 13.10. -/
inductive Status where
  | ok | pending | retry | busy | noSuchObject | badSelector | notReadable | notWritable | wrongState | accessDenied
  | badLength | badValue | badOperation | greyMode | notReady | refused | stillActive | maskConflict | alreadyComplete | noSuchJob
  deriving DecidableEq, Repr

def Status.code : Status → Nat
  | .ok => 0x00
  | .pending => 0x01
  | .retry => 0x02
  | .busy => 0x03
  | .noSuchObject => 0x10
  | .badSelector => 0x11
  | .notReadable => 0x12
  | .notWritable => 0x13
  | .wrongState => 0x14
  | .accessDenied => 0x15
  | .badLength => 0x16
  | .badValue => 0x17
  | .badOperation => 0x18
  | .greyMode => 0x19
  | .notReady => 0x20
  | .refused => 0x21
  | .stillActive => 0x22
  | .maskConflict => 0x23
  | .alreadyComplete => 0x24
  | .noSuchJob => 0x25

/-- Statuses of operations that are not executed: the checks of Table 13.10, BUSY and RETRY (R369, R371, R373). -/
def Status.unexecuted : Status → Bool
  | .retry | .busy | .noSuchObject | .badSelector | .notReadable | .notWritable | .accessDenied | .badLength | .badValue | .badOperation | .greyMode | .wrongState => true
  | _ => false

def path (h : Hw) (p : Nat) : PathState := tget {} h.dict.paths p
def setPath (h : Hw) (p : Nat) (v : PathState) : Hw :=
  { h with dict := { h.dict with paths := tput {} h.dict.paths p v } }

/-- The LOADING session ends: every shadow is dropped and the configuration state is `state` (R379, R380). -/
def closeSession (h : Hw) (state : Nat) : Hw :=
  let d := h.dict
  setObj (setObj { h with dict := { d with shadows := [], blobShadows := [], segments := d.segments.filter (fun e => e.1 / 8 != 0x405003) } } 0x1010 1 0 state) 0x1010 5 0 0

/-- An open session is discarded: the state is that from which it was entered. -/
def dropSession (h : Hw) : Hw := if obj h 0x1010 1 = 1 then closeSession h h.dict.prior else h

/-- What an operation answers: status, the header fields that may differ from the request's, and DATA. -/
structure Answer where
  status : Status
  index : Option Nat := none
  sub : Option Nat := none
  count : Nat := 0
  selector : Option Nat := none
  total : Nat := 0
  data : List Byte := []
  deriving DecidableEq, Repr

/-- The selector an answer returns: cut to the object's depth, lower fields zero (R22); as received where there is no object or unit, but for its reserved bits (R6, Table 1.4). -/
def headSel (b : OpBody) : Nat :=
  let received := b.selector / 4 * 4
  match rowAt b.index b.sub with
  | some r => if selDepth b.selector = 7 then received else truncSel b.selector (min (selDepth b.selector) r.depth)
  | none => received

/-- TOTAL of an object whose type has one size; STRING and BLOB answers give their own (Table 13.7). -/
def fixedTotal (b : OpBody) : Nat :=
  match rowAt b.index b.sub with
  | some r => if r.ty = .str ∨ r.ty = .blob then 0 else r.size
  | none => 0

/-- The answer body (Table 13.7). -/
def answerBody (b : OpBody) (a : Answer) : List Byte :=
  leBytes 1 (b.op ||| 0x80) ++ leBytes 1 a.status.code ++ leBytes 2 b.tag ++ leBytes 2 (a.index.getD b.index) ++
  leBytes 1 (a.sub.getD b.sub) ++ leBytes 1 a.count ++ leBytes 2 (a.selector.getD (headSel b)) ++ leBytes 2 0 ++
  leBytes 4 a.total ++ a.data

/-- A frame that the stack sends to the bus master: header, payload and CRC-32, least significant byte first; `bad` inverts the CRC (R354, R356, Table 13.2). -/
def sentFrame (h : Hw) (type : Nat) (payload : List Byte) (bad : Bool) : List Byte :=
  let body := leBytes 4 (payload.length * 2 ^ 16 + type * 2 ^ 12 + h.boot.strap * 2 ^ 6) ++ payload
  body ++ leBytes 4 (if bad then 2 ^ 32 - 1 - crc32 body else crc32 body)

/-- Sends an Ouvend reply; an armed injection inverts its CRC (R298). -/
def reply (h : Hw) (type : Nat) (payload : List Byte) : Hw :=
  let bad := h.inject.reply
  let h := if bad then { h with inject := { h.inject with reply := false }, react := { h.react with injected := h.react.injected + 1 } } else h
  emit h (.ouvend (sentFrame h type payload bad))

/-- Sends an answer on its path: an ANSWER frame on Ouvend, its CRC inverted if that was injected (R298), or an MGT group. -/
def sendAnswer (h : Hw) (p : Nat) (body : List Byte) : Hw :=
  if p = 0 then reply h 2 body
  else sendGroup h (p - 1) (.mgt body)

/-- Records the operation and its answer as the path's last (R372). -/
def recordOp (h : Hw) (p : Nat) (b : OpBody) (body : List Byte) : Hw :=
  setPath h p { path h p with record := some { op := b.op, tag := b.tag, index := b.index, sub := b.sub, selector := b.selector, offset := b.offset, answer := body } }

/-- The last status on Ouvend (0x1001:02). -/
def noteStatus (h : Hw) (p : Nat) (s : Status) : Hw := if p = 0 then setObj h 0x1001 2 0 s.code else h

/-- Answers an operation at once; `replies` is false for frames to a group address or to 63 (R30). -/
def answerNow (h : Hw) (p : Nat) (b : OpBody) (a : Answer) (replies : Bool) : Hw :=
  let body := answerBody b a
  let h := noteStatus h p a.status
  let h := if a.status.unexecuted then h else recordOp h p b body
  if replies then sendAnswer h p body else h

/-- Answers PENDING: the action goes on, and the final answer comes later (R370). -/
def answerPending (h : Hw) (p : Nat) (b : OpBody) (replies : Bool) : Hw :=
  let h := noteStatus h p .pending
  if replies then
    let h := bump h 0x1040 10
    sendAnswer (setPath h p { path h p with pending := some { body := b } }) p (answerBody b { status := .pending, total := fixedTotal b })
  else h

/-- The action of a path's PENDING operation is over: its final answer is ready. -/
def finishOp (h : Hw) (p : Nat) (a : Answer) : Hw :=
  match (path h p).pending with
  | some q => setPath h p { path h p with pending := some { q with final := some (answerBody q.body a), recorded := !a.status.unexecuted } }
  | none => h

/-- The final answer of a PENDING operation: held for POLL on Ouvend, sent at once in-band (R370); it becomes the recorded answer. -/
def finalAnswer (p : Nat) (h : Hw) : Hw :=
  match (path h p).pending with
  | some q =>
    match q.final with
    | some body =>
      let h := if q.recorded then recordOp h p q.body body else h
      let h := setPath h p { path h p with pending := none }
      if p = 0 then setPath h p { path h p with held := some body } else sendAnswer h p body
    | none => h
  | none => h

/-- What an object's action does: it ends with an answer, or the operation is answered PENDING (R370). -/
inductive Act where
  | done (c : Core) (a : Answer)
  | wait (c : Core)
  /-- Answered PENDING; the final answer is settled, and comes when the action's time is over. -/
  | later (c : Core) (a : Answer)

/-- An action on everything but the stored lines that ends at once. -/
def actHw (c : Core) (h : Hw) (st : Status := .ok) : Act := .done { c with hw := h } { status := st, total := 4 }

end Sys2Proof.Machine
end

