-- ==== Sys2Proof/Machine/Classes.lean ====
section
/-!
DEFINITION. Traffic classes (chapter 07): effective limits and admission (R209, R210), inputs and their queues (R212, R219),
measured latency and urgency (R205 to R207), shares (R208), the capacity model (R220 to R222).
-/
namespace Sys2Proof.Machine

/-- The class of a port's request (R139, R202). -/
def classOf (h : Hw) (p label : Nat) : Nat := if portsCode h = 2 then obj h 0x3020 p else label

def txn (h : Hw) (n : Nat) : Option Txn := tfind h.chans.txns n
def setTxn (h : Hw) (n : Nat) (v : Txn) : Hw := { h with chans := { h.chans with txns := tset h.chans.txns n v } }

/-! Limits (R209). -/

/-- Class scale of a track: the lower of the power scale and the thermal scale (R314). -/
def scaleOf (h : Hw) (t : Nat) : Nat := min (obj h 0x7020 7 t) (obj h 0x7810 3 t)

def effectiveLimit (limit scale : Nat) : Nat := max 1 (limit * scale / 256)

/-- Brings 0x3412 of a track up to date. -/
def updateLimits (h : Hw) (t : Nat) : Hw :=
  (List.range 8).foldl (fun h c => setObj h 0x3412 c t (effectiveLimit (obj h 0x3402 c) (scaleOf h t))) h

def outstanding (h : Hw) (t c : Nat) : Nat := obj h 0x3413 c t

/-! The capacity model (R220). A rate is a fraction of lines per ns. -/

/-- The fastest gear a track may run at: 0x5010:02 and the limits of R187 and R190 (R201). -/
def permittedGear (h : Hw) (t : Nat) : Nat := max (obj h 0x5010 2 t) (trkSt h t).imposed

/-- Usable capacity u at a gear and band, as a fraction: nCK is 2^(g+1)/7 ns. -/
def capacity (h : Hw) (g b : Nat) : Nat × Nat :=
  let trc := (timing g b).getD 5 1
  let m := obj h 0x3420 3
  let r := obj h 0x3420 5
  let den := 2 ^ (g + 1)
  let bus := 28 * trc
  let bank := 256 * m * 7
  ((100 - r) * min bus bank, 100 * trc * den)

/-- Sum of limits of classes c to 7. -/
def limitsFrom (ns : List Nat) (c : Nat) : Nat := (ns.drop c).sum

/-- pred(c) rounded up to whole ns. -/
def predicted (h : Hw) (u : Nat × Nat) (ns : List Nat) (c : Nat) : Nat :=
  obj h 0x3420 4 + (4 * limitsFrom ns c * u.2 + u.1 - 1) / u.1

/-- load(c) as a fraction. -/
def loadFrom (h : Hw) (ns : List Nat) (c : Nat) : Nat × Nat :=
  (span c (8 - c)).foldl (fun a k =>
    let t := obj h 0x3401 k
    if t = 0 then a else (a.1 * t + 4 * ns.getD k 0 * a.2, a.2 * t)) (0, 1)

/-- Class c fits: its predicted latency is within its target and its load within u. -/
def classFits (h : Hw) (u : Nat × Nat) (ns : List Nat) (c : Nat) : Bool :=
  let t := obj h 0x3401 c
  let f := obj h 0x3420 4
  let l := loadFrom h ns c
  decide (f ≤ t) && decide (4 * limitsFrom ns c * u.2 ≤ (t - f) * u.1) && decide (l.1 * u.2 ≤ u.1 * l.2)

/-! Urgency (R207). -/

/-- Thresholds of levels 1 to 3 in percent of the target. -/
def levelPct (l : Nat) : Nat := match l with | 1 => 50 | 2 => 75 | 3 => 90 | _ => 0

/-- The level that follows from A, the target, the hysteresis and the level so far. -/
def nextLevel (a8 target hyst level : Nat) : Nat :=
  let at_ := fun (pct : Nat) => decide (pct * target * 256 ≤ a8 * 100)
  if target = 0 then 0
  else ((List.range 4).filter (fun l => l = 0 || at_ (levelPct l) || (decide (l ≤ level) && at_ (levelPct l - hyst)))).foldl max 0

/-- Urgency with share promotion. -/
def urgency (h : Hw) (t c : Nat) : Nat :=
  let s := clsSt h t c
  if s.promoted then max 1 s.level else s.level

/-- The input at which a class waits (Table 7.2); in Grey mode every one waits at input 3 (R223). -/
def inputOf (h : Hw) (t c : Nat) : Nat :=
  if grey h then 3
  else match urgency h t c with
    | 0 => 3 + c
    | l => 10 + l

/-! Input queues (R212, R219). -/

/-- The channel's queue of an input has a free entry. -/
def inputRoom (h : Hw) (pc i : Nat) : Bool :=
  decide ((inputQ h (2 * chOf pc) i).length + (inputQ h (2 * chOf pc + 1) i).length < 16)

/-- Puts a transfer in by age. -/
def insertAge (x : Xfer) : List Xfer → List Xfer
  | [] => [x]
  | y :: ys => if x.age < y.age then x :: y :: ys else y :: insertAge x ys

/-- A transaction becomes outstanding as the first of its transfers enters an input queue (R209). -/
def markEntered (h : Hw) (n : Nat) : Hw :=
  match txn h n with
  | some q => if q.entered then h else setTxn (setObj h 0x3413 q.cls q.track (outstanding h q.track q.cls + 1)) n { q with entered := true }
  | none => h

/-- A transfer joins an input queue. -/
def joinInput (h : Hw) (x : Xfer) (i : Nat) : Hw := markEntered (setInputQ h x.pc i (inputQ h x.pc i ++ [x])) x.txn

/-- A transfer reaches an input; with the queue full its requester keeps it (R212). -/
def enterInput (h : Hw) (x : Xfer) (i : Nat) : Hw :=
  if inputRoom h x.pc i then joinInput h x i
  else bump { h with chans := { h.chans with offers := h.chans.offers ++ [(i, x)] } } 0x3432 i (chOf x.pc)

/-- The class of a transfer's transaction. -/
def xferClass (h : Hw) (x : Xfer) : Nat := match txn h x.txn with | some q => q.cls | none => 0

def isRead (h : Hw) (x : Xfer) : Bool := match txn h x.txn with | some q => q.kind == .rd | none => false
def isWrite (h : Hw) (x : Xfer) : Bool := match txn h x.txn with | some { kind := .wr _, .. } => true | _ => false

/-- Keeps count of how long each class has waited on a track (R208). -/
def noteWaits (h : Hw) (t : Nat) : Hw :=
  let cs := ((span (16 * t) 16).map (waitingXfers h)).flatten.map (xferClass h)
  (List.range 8).foldl (fun h c =>
    let s := clsSt h t c
    match s.waitFrom, cs.contains c with
    | none, true => setCls h t c { s with waitFrom := some (now h) }
    | some f, false => setCls h t c { s with waitFrom := none, winWait := s.winWait + (now h - max f h.chans.winStart) }
    | _, _ => h) h

/-- Puts a transfer and where it stands in by age. -/
def insertStanding (x : Option Nat × Xfer) : List (Option Nat × Xfer) → List (Option Nat × Xfer)
  | [] => [x]
  | y :: ys => if x.2.age < y.2.age then x :: y :: ys else y :: insertStanding x ys

/-- Transfers of a channel that are not in the queue of their class's input, oldest first: each with the queue it stands in, or none for one that its requester keeps. -/
def misinput (h : Hw) (ch : Nat) : List (Option Nat × Xfer) :=
  let queued := fun (pc : Nat) => ((span 3 11).map (fun i => ((inputQ h pc i).filter (fun x => inputOf h (trkOf pc) (xferClass h x) != i)).map (fun x => (some i, x)))).flatten
  let kept := (h.chans.offers.filter (fun o => chOf o.2.pc == ch)).map (fun o => ((none : Option Nat), o.2))
  (queued (2 * ch) ++ queued (2 * ch + 1) ++ kept).foldl (fun l x => insertStanding x l) []

/-- One of them goes to its input while the queue there has room; one that has to wait stays where it is, and is counted against the new input once (R212, R219). -/
def placeXfer (h : Hw) (e : Option Nat × Xfer) : Hw :=
  let x := e.2
  let j := inputOf h (trkOf x.pc) (xferClass h x)
  let y := { x with want := none }
  match e.1 with
  | none => if inputRoom h x.pc j then joinInput { h with chans := { h.chans with offers := h.chans.offers.filter (fun o => o.2 != x) } } y j else h
  | some i =>
    if inputRoom h x.pc j then setInputQ (setInputQ h x.pc i ((inputQ h x.pc i).filter (fun z => z != x))) x.pc j (insertAge y (inputQ h x.pc j))
    else if x.want = some j then h
    else bump (setInputQ h x.pc i ((inputQ h x.pc i).map (fun z => if z = x then { x with want := some j } else z))) 0x3432 j (chOf x.pc)

/-- A pseudo-channel's return-store entries take the tags of the inputs that their transfers now hold (R219). -/
def retag (h : Hw) (pc : Nat) : Hw :=
  let s := pcSt h pc
  if s.cut.isEmpty then h else setPc h pc { s with cut := s.cut.map (fun e => (inputOf h (trkOf pc) (xferClass h e.2), e.2)) }

/-- Waiting transfers of a channel move to the inputs of their classes, and those kept by their requesters are offered again, oldest first: a class has changed, or entries have freed (R212, R219). -/
def reoffer (h : Hw) (ch : Nat) : Hw := (misinput h ch).foldl placeXfer (retag (retag h (2 * ch)) (2 * ch + 1))

/-- The same for a whole track. -/
def reinput (h : Hw) (t : Nat) : Hw := (span (8 * t) 8).foldl reoffer h

/-- Shows a class's urgency on a track and moves its transfers. -/
def showUrgency (h : Hw) (t c : Nat) : Hw := setObj h 0x3411 c t (urgency h t c)

/-- Evaluates the urgency of a class on a track; an unprotected class stays at level 0 (R207, R222). -/
def evalUrgency (h : Hw) (t c : Nat) : Hw :=
  let s := clsSt h t c
  let l := if flag h 0x3416 c t then nextLevel s.lat (obj h 0x3401 c) (obj h 0x3400 3) s.level else 0
  if l = s.level then showUrgency h t c else reinput (showUrgency (setCls h t c { s with level := l }) t c) t

/-- The model for one track: as configured (fastest permitted gear, Slate, no scale) or as in use (R221, R222). 0x3422 shows u rounded down to its resolution (assumption 156). -/
def runModel (h : Hw) (t : Nat) (configured : Bool) : Hw :=
  let h := bump (updateLimits h t) 0x3420 2 t
  let g := if configured then permittedGear h t else gear h t
  let b := if configured then 0 else max (band h (2 * t)) (band h (2 * t + 1))
  let ns := (List.range 8).map (fun c => if configured then obj h 0x3402 c else obj h 0x3412 c t)
  let u := capacity h g b
  let h := setObj h 0x3422 1 t (u.1 * 65536 / u.2)
  let h := (List.range 8).foldl (fun h c => setObj h 0x3421 c t (if obj h 0x3401 c = 0 then 0 else predicted h u ns c)) h
  let bad := (List.range 8).filter (fun c => obj h 0x3401 c != 0 && !classFits h u ns c)
  let was := flag h 0x3420 1 t
  let h := setObj h 0x3420 1 t (bit (!bad.isEmpty))
  let h := if !bad.isEmpty && !was then raise h Src.classOvercommit { selector := unitSel 1 t } else h
  let top := bad.foldl max 0
  (List.range 8).foldl (fun h c => evalUrgency (setObj h 0x3416 c t (bit (bad.isEmpty || decide (top < c)))) t c) h

/-- The model runs for every track. -/
def runModels (h : Hw) (configured : Bool) : Hw := (List.range 8).foldl (fun h t => runModel h t configured) h

/-- A gear, band or scale of some track has changed: the model runs for every track as it is in use, or once at the end of a steward restart (R221, R404). -/
def modelRun (h : Hw) : Hw :=
  if h.mode == .trip || h.mode == .dramOff then h
  else if h.faults.restarting then { (List.range 8).foldl updateLimits h with faults := { h.faults with modelDue := true } }
  else runModels h false

/-! Measured latency (R205, R206). -/

/-- A latency sample of `s` ns. Suspended in Grey mode (R223). -/
def latencySample (h : Hw) (t c s : Nat) : Hw :=
  if grey h then h
  else
    let k := clsSt h t c
    let a : Int := k.lat
    let a' := (a + (256 * (s : Int) - a) / (2 : Int) ^ obj h 0x3400 1).toNat
    let h := setObj (setCls h t c { k with lat := a' }) 0x3410 c t (a' / 256)
    let target := obj h 0x3401 c
    let h := if target != 0 && decide (target < s) then bump h 0x3414 c t else h
    evalUrgency h t c

/-! Shares (R208). -/

/-- Ends a window for one class of a track, given all line transfers of the track in it. -/
def endWindow (h : Hw) (t total c : Nat) : Hw :=
  let s := clsSt h t c
  let waited := s.winWait + (match s.waitFrom with | some f => now h - max f h.chans.winStart | none => 0)
  let window := us (obj h 0x3400 2)
  let promote := decide (window ≤ 2 * waited) && decide (s.winLines * 100 < obj h 0x3403 c * total || (total = 0 && obj h 0x3403 c != 0)) && waited != 0
  let h := setCls h t c { s with promoted := promote, winLines := 0, winWait := 0 }
  showUrgency (if promote then bump h 0x3415 c t else h) t c

/-- Ends a window for every class of a track. -/
def shareWindow (h : Hw) (t : Nat) : Hw :=
  let total := ((List.range 8).map (fun c => (clsSt h t c).winLines)).sum
  (List.range 8).foldl (fun h c => endWindow h t total c) h

/-- A window that counts for nothing; a promotion of the window before it ends. -/
def lapseWindow (h : Hw) (t : Nat) : Hw :=
  (List.range 8).foldl (fun h c => showUrgency (setCls h t c { clsSt h t c with promoted := false, winLines := 0, winWait := 0 }) t c) h

/-! Admission (R209, R210). -/

/-- The lines of a transaction as transfers, one per pseudo-channel, under an entry. -/
def xfersOf (n : Nat) (q : Txn) (track : Nat) : List Xfer :=
  let ls := (List.range q.count).map (fun i => (⟨i, q.line + i⟩ : XLine))
  let pcs := (ls.map (fun l => 16 * track + l.line % 1024 / 4 % 16)).eraseReps
  pcs.map (fun p => { txn := n, pc := p, lines := ls.filter (fun l => 16 * track + l.line % 1024 / 4 % 16 == p), age := n })

/-- Admits a transaction to its track: its transfers reach their inputs. -/
def admitTxn (h : Hw) (n : Nat) : Hw :=
  match txn h n with
  | none => h
  | some q =>
    let (h, e) := lookup h (q.line / 1024)
    let t := entTrack e
    let h := setTxn h n { q with track := t }
    noteWaits ((xfersOf n q t).foldl (fun h x => enterInput h x (inputOf h t q.cls)) h) t

/-- An update of an ATOMIC-BATCH job enters a channel's read-modify-write unit, or leaves it: it is outstanding meanwhile (R209). -/
def unitEnter (h : Hw) (ch c : Nat) : Hw := setObj h 0x3413 c (ch / 8) (outstanding h (ch / 8) c + 1)
def unitLeave (h : Hw) (ch c : Nat) : Hw := setObj h 0x3413 c (ch / 8) (outstanding h (ch / 8) c - 1)

/-- The track has room under the class's limit; limits are suspended in Grey mode. -/
def underLimit (h : Hw) (t c : Nat) : Bool := grey h || decide (outstanding h t c < effectiveLimit (obj h 0x3402 c) (scaleOf h t))

/-- A transaction of a changed class still waits in an old queue (R204). -/
def reclassWaits (h : Hw) (t port c : Nat) : Bool :=
  (List.range 8).any (fun k => k != c && (clsSt h t k).queue.any (fun n => match txn h n with | some q => q.cls == c && q.port == port | none => false))

/-- Queued transactions of a track whose class has changed, oldest first, with the queue they stand in. -/
def misplaced (h : Hw) (t : Nat) : List (Nat × Nat) :=
  ((List.range 8).map (fun k => ((clsSt h t k).queue.filter (fun n => match txn h n with | some q => q.cls != k | none => false)).map (fun n => (n, k)))).flatten.foldl
    (fun l e => l.takeWhile (fun y => decide (y.1 < e.1)) ++ e :: l.dropWhile (fun y => decide (y.1 < e.1))) []

/-- Moves queued transactions whose class has changed to their queue, oldest first, while it has room (R204). -/
def moveReclassed (h : Hw) (t : Nat) : Hw :=
  (misplaced h t).foldl (fun h e =>
    match txn h e.1 with
    | some q =>
      if 256 ≤ (clsSt h t q.cls).queue.length then h
      else
        let h := setCls h t e.2 { clsSt h t e.2 with queue := (clsSt h t e.2).queue.erase e.1 }
        setCls h t q.cls { clsSt h t q.cls with queue := (clsSt h t q.cls).queue ++ [e.1] }
    | none => h) h

/-- The oldest entry of a class's queue that is of the class. -/
def queuedOf (h : Hw) (t c : Nat) : Option Nat := (clsSt h t c).queue.find? (fun n => match txn h n with | some q => q.cls == c | none => false)

/-- A request offered for admission: admitted, queued, or left with its requester when the queue is full. Answers whether it was taken. -/
def offerTxn (h : Hw) (q : Txn) : Hw × Bool :=
  let s := clsSt h q.track q.cls
  let n := h.chans.nextTxn
  let take := fun (h : Hw) => setTxn { h with chans := { h.chans with nextTxn := n + 1 } } n q
  if (queuedOf h q.track q.cls).isNone && underLimit h q.track q.cls && !reclassWaits h q.track q.port q.cls then (admitTxn (take h) n, true)
  else if s.queue.length < 256 && !reclassWaits h q.track q.port q.cls then
    (setCls (take h) q.track q.cls { s with queue := s.queue ++ [n] }, true)
  else (bump h 0x3440 q.cls q.track, false)

/-- A transaction stops being outstanding. -/
def endTxn (h : Hw) (n : Nat) : Hw :=
  match txn h n with
  | some q =>
    let h := if q.entered then setObj h 0x3413 q.cls q.track (outstanding h q.track q.cls - 1) else h
    { h with chans := { h.chans with txns := tdel h.chans.txns n } }
  | none => h

/-- A port's requests take the class that 0x3020 now gives it (R204). -/
def reclassPort (h : Hw) (p : Nat) : Hw :=
  if portsCode h != 2 then h
  else
    let c := obj h 0x3020 p
    let h := h.chans.txns.foldl (fun h e =>
      if e.2.port = p && e.2.cls != c then
        let h := if !e.2.entered then h
          else
            let h := setObj h 0x3413 e.2.cls e.2.track (outstanding h e.2.track e.2.cls - 1)
            setObj h 0x3413 c e.2.track (outstanding h e.2.track c + 1)
        setTxn h e.1 { e.2 with cls := c }
      else h) h
    (List.range 8).foldl (fun h t => noteWaits (reinput (moveReclassed h t) t) t) h

end Sys2Proof.Machine
end

