-- ==== Sys2Proof/Machine/SleepOps.lean ====
section
/-!
DEFINITION. Power domains (R306, R308, R311) and the rollback of a sleep request (R318), which events of other blocks cause.
-/
namespace Sys2Proof.Machine

def setPower (h : Hw) (v : Power) : Hw := { h with power := v }

/-! Generated rails (R304): VPP comes up first and goes down last. -/

def enableVpp (h : Hw) : Hw := setPower h { h.power with vppUp := true }
def enableVddqc (h : Hw) : Hw := if h.power.vppUp then setPower h { h.power with vddqcUp := true } else h
def removeVddqc (h : Hw) : Hw := setPower h { h.power with vddqcUp := false }
def removeVpp (h : Hw) : Hw := if h.power.vddqcUp then h else setPower h { h.power with vppUp := false }

/-- Both rails, in order. -/
def railsUp (h : Hw) : Hw := enableVddqc (enableVpp h)
def railsDown (h : Hw) : Hw := removeVpp (removeVddqc h)

/-! Domains (Table 11.2). -/

/-- Takes a domain to a power state; a departure from ON is counted, and wear is raised once (R308). -/
def setDomain (h : Hw) (d v : Nat) : Hw :=
  let old := domainState h d
  if old = v then h
  else
    let h := setObj h 0x7040 d 0 v
    if old != 0 then h
    else
      let h := bump h 0x7041 d
      if obj h 0x7041 d = 180000000 then raise h Src.domainWear else h

/-- Discretionary gating, which draws on the domain's budget; with none left the domain stays ON (R308). -/
def gateDomain (h : Hw) (d v : Nat) : Hw :=
  if domainState h d != 0 || v = 0 then setDomain h d v
  else if obj h 0x7042 d = 0 then h
  else setDomain (setObj h 0x7042 d 0 (obj h 0x7042 d - 1)) d v

def lkDomain (i : Nat) : Nat := 8 + i
def engDomain (t : Nat) : Nat := 14 + t
def dctDomain (t : Nat) : Nat := 22 + t
def colDomain (n : Nat) : Nat := 30 + 2 * n
def arrDomain (n : Nat) : Nat := 31 + 2 * n

/-- Lanesets of a link domain: LKU0 to LKU3, then LKD0 and LKD1. -/
def lkLanesets (i : Nat) : List Nat := span (4 * i) 4

/-- In ACTIVE and IDLE a link domain follows its lanesets: all four parked, or not (R306, R311). -/
def gateLink (h : Hw) : Hw :=
  if h.mode != .run || decide (1 < obj h 0x7000 1) then h
  else (List.range 6).foldl (fun h i =>
    if (lkLanesets i).all (fun k => lsState h k == 3) then gateDomain h (lkDomain i) (if i < 4 then 2 else 1)
    else setDomain h (lkDomain i) 0) h

/-! Engines of a track (0x6011: 0 idle, 1 running, 2 gated, 3 halted, 4 resetting). -/

def engState (h : Hw) (e : Nat) : Nat := obj h 0x6011 e
def setEngState (h : Hw) (e v : Nat) : Hw := setObj h 0x6011 e 0 v

/-- Engines of a track show gated while their domain is off. -/
def engOff (h : Hw) (t : Nat) : Hw := (span (4 * t) 4).foldl (fun h e => if engState h e = 3 then h else setEngState h e 2) h
def engOn (h : Hw) (t : Nat) : Hw := (span (4 * t) 4).foldl (fun h e => if engState h e = 2 then setEngState h e 0 else h) h

/-! Sleep. -/

/-- Upstream lanesets that parked are woken; one whose parking still waits takes flits again (R318). -/
def wakeParked (h : Hw) (ls : List Nat) : Hw :=
  ls.foldl (fun h k =>
    let l := laneset h k
    if lsState h k = 3 then sendWake (bump (setLaneset (setLsState h k 0) k { l with wakeSent := true, parkWait := false, quiet := false }) 0x2240 k) k
    else if l.parkWait then setLaneset h k { l with parkWait := false } else h) h

/-- The blocks that have stopped restart in reverse order; the stack is as before the request, in ACTIVE (R311, R318). -/
def restartBlocks (h : Hw) (q : Sleep) : Hw :=
  let h := wakeParked h q.parked
  let h := (List.range 62).foldl (fun h d => setDomain h d (q.before.getD d (domainState h d))) h
  let h := if q.stopped ≥ 4 then (List.range 8).foldl (fun h t => if domainState h (engDomain t) = 0 then engOn h t else h) h else h
  let h := if q.stopped ≥ 3 then (List.range 16).foldl (fun h d => if dieState h d = 2 then leaveSr h d else h) h else h
  setObj (setPower h { h.power with sleep := none, activeAt := now h }) 0x7000 1 0 0

/-- A sleep request is refused, or completes RETRY when the stewards restart (R318, R319). -/
def endSleep (h : Hw) (result block : Nat) (a : Answer) : Hw :=
  match h.power.sleep with
  | none => h
  | some q =>
    let h := setObj (restartBlocks h q) 0x7000 5 0 result
    match q.path with
    | some p => finishOp (if result = 2 then raise (bump (setObj h 0x7000 6 0 block) 0x7000 8) Src.sleepRefused else h) p a
    | none => if result = 2 then raise (bump (setObj h 0x7000 6 0 block) 0x7000 8) Src.sleepRefused else h

/-- A block refuses. -/
def refuseSleep (h : Hw) (block : Nat) : Hw := endSleep h 2 block { status := .refused }

end Sys2Proof.Machine
end

