-- ==== Sys2Proof/Machine/Settle.lean ====
section
/-!
DEFINITION. The frame around every meaning: what a command has set going in other blocks is settled before it ends.
-/
namespace Sys2Proof.Machine

def setJobs (h : Hw) (v : Jobs) : Hw := { h with jobs := v }
def engine (h : Hw) (e : Nat) : Engine := tget {} h.jobs.engines e
def setEngine (h : Hw) (e : Nat) (v : Engine) : Hw := setJobs h { h.jobs with engines := tput {} h.jobs.engines e v }

/-- Lines of a part of a job. -/
def partLines (h : Hw) (r : Nat × Nat) : Nat :=
  match tfind h.jobs.jobs r.1 with
  | some j => match j.parts[r.2]? with | some p => p.lines | none => 0
  | none => 0

/-- Brings 0x6016 of an engine up to date: the lines of its running and queued parts. -/
def showLines (h : Hw) (e : Nat) : Hw :=
  let g := engine h e
  setObj h 0x6016 e 0 ((g.part.toList ++ g.queue).map (partLines h)).sum

/-- The part on an engine ends: data read ahead are discarded and counted, locks are freed; the images in instruction memory and the queue stay (R243, R270). How many cycles it was busy is left open. -/
def stopPart (h : Hw) (e : Nat) : Hw :=
  let g := engine h e
  let ahead := (g.su.map (fun s => s.2.ahead.length)).sum
  let h := setEngine (bumpBy h 0x6030 4 0 ahead) e { images := g.images, idleAt := now h, queue := g.queue }
  let h := if g.part.isSome then let (n, h) := draw h 41; bumpBy h 0x6014 e 0 n else h
  showLines (if engState h e = 1 then setEngState h e 0 else h) e

/-- The next record position of an ATOMIC-BATCH job over its parts: the lowest not acknowledged (R233, R246). -/
def nextPosition (j : Job) : Nat :=
  j.parts.foldl (fun m p => min m ((recordAt j.desc p.parcels p.low).getD j.desc.arg1)) j.desc.arg1

/-- Result slot of a job that ends early: the next position of an ATOMIC-BATCH in Grey mode (R250), zero for KERNEL (R275), none for other types. -/
def haltResult (j : Job) : Option Nat :=
  if j.desc.opcode = 8 then some ((j.parts.map (fun p => p.finding.a)).sum + nextPosition j * 2 ^ 64)
  else if j.desc.opcode = 10 then some 0 else none

/-- An admitted job in Grey mode ends with GREY_HALT, a committed one too; one that had ended before its commit point keeps its status (R250). -/
def haltJob (j : Job) : Job :=
  if j.status.isSome && !j.committed then j else { j with status := some 0x0A, result := haltResult j, parts := [] }

/-- Updates that wait in read-modify-write units are dropped, by job and part. -/
def dropBatch (gone : Nat → Nat → Bool) (h : Hw) : Hw :=
  let goes := fun (r : Rmw) => match r with | .batch j i .. => gone j i | .host .. => false
  h.chans.chs.foldl (fun h e =>
    let h := e.2.rmw.foldl (fun h r => match r with
      | .batch j i .. => if gone j i then unitLeave h e.1 ((tfind h.jobs.jobs j).elim 0 (fun q => q.desc.cls)) else h
      | .host .. => h) h
    if e.2.rmw.any goes then setCh h e.1 { chSt h e.1 with rmw := e.2.rmw.filter (fun r => !goes r) } else h) h

/-- Engines halt: every admitted job ends; its completion is still to be sent (R250, Table 14.8 step 4). -/
def haltEngines (h : Hw) : Hw :=
  let h := (List.range 32).foldl (fun h e =>
    let h := stopPart h e
    let h := setEngine h e { engine h e with queue := [] }
    let h := setObj h 0x6016 e 0 0
    if engState h e ≤ 1 then setEngState h e 3 else h) h
  dropBatch (fun _ _ => true) (setJobs h { h.jobs with jobs := h.jobs.jobs.map (fun e => (e.1, haltJob e.2)), waiting := [] })

/-- Moves settle and placement freezes (Table 14.8 step 5, R162). -/
def freezePlacement (h : Hw) : Hw :=
  let byFault := bitAt (obj h 0x8300 4) 0
  let h := h.place.moves.foldl (rollBack byFault) h
  if obj h 0x4000 1 = 3 then h
  else setObj { h with faults := { h.faults with greyPlacement := obj h 0x4000 1 } } 0x4000 1 0 2

/-- Activity (R311): a request or descriptor received, a job held, a move running. -/
def activity (h : Hw) : Bool :=
  (List.range 4).any (fun p => !(port h p).req.isEmpty || !(port h p).job.isEmpty) || !h.jobs.jobs.isEmpty || !h.place.moves.isEmpty

/-- The stack returns from IDLE to ACTIVE; the call for laneset parking ends (R311, R312). -/
def toActive (h : Hw) : Hw :=
  let h := setObj (wakeParked h h.power.parkedFor) 0x7000 1 0 0
  setPower h { h.power with parkedFor := [], activeAt := now h }

/-- Each injected error that has gone out is counted and raises INJECTION (R298); the notification of one can carry another. -/
def noteInjected : Nat → Hw → Hw
  | 0, h => h
  | n + 1, h =>
    if h.react.injected = 0 then h
    else
      let h := { h with react := { h.react with injected := h.react.injected - 1 } }
      noteInjected n (raise (bump h 0x9B00 7) Src.injection)

/-- Link domains follow a change of the link or of a laneset. -/
def settleLink (h : Hw) : Hw := if h.react.link then gateLink { h with react := { h.react with link := false } } else h

/-- Entry into Grey mode takes effect in engines, placement and sleep (Table 14.8), and every waiting transfer goes to input 3 (R223). -/
def settleGrey (h : Hw) : Hw :=
  if h.react.grey then
    (List.range 8).foldl reinput (refuseSleep (freezePlacement (haltEngines { h with react := { h.react with grey := false } })) 0)
  else h

/-- The stack is in IDLE, or a call for laneset parking still stands that a rollback has left (R312, R318). -/
def idleCall (h : Hw) : Bool := obj h 0x7000 1 == 1 || (obj h 0x7000 1 == 0 && !h.power.parkedFor.isEmpty)

/-- Activity ends IDLE and the call (R311, R312). -/
def settleIdle (h : Hw) : Hw := if h.mode == .run && idleCall h && activity h then toActive h else h

/-- Latency samples that ended are taken, and the waits of tracks whose transfers changed are noted (R205, R208). -/
def settleTraffic (h : Hw) : Hw :=
  let h := h.react.waits.foldl noteWaits h
  h.react.samples.foldl (fun h x => latencySample h x.1 x.2.1 (now h - x.2.2)) h

/-- Other blocks act on what the command has set going; what one of them sets going in turn is settled too. -/
def settle (h : Hw) : Hw :=
  { settleGrey (settleLink (settleGrey (settleLink (settleIdle (settleTraffic (noteInjected 8 h)))))) with react := {} }

/-- A meaning that works on everything but the stored lines. -/
def runHw (ok : Bool) (f : Hw → Hw) (s : State) : Host.Outcome State Fault Refusal :=
  if ok then .next { s with hw := settle (f (begin s.hw)) } else .fault .illFormed

/-- A meaning that works on stored lines too. -/
def runCore (ok : Bool) (f : Core → Core) (s : State) : Host.Outcome State Fault Refusal :=
  if ok then
    let c := f { hw := begin s.hw, dram := s.dram, stores := [] }
    .next { s with dram := runStores s.dram c.stores, hw := settle c.hw }
  else .fault .illFormed

/-- The stack runs and is not asleep: the link and the data path work. -/
def awake (h : Hw) : Bool := h.mode == .run && obj h 0x7000 1 != 2

/-- An effect that takes place only under a condition; otherwise nothing happens (assumption 6). -/
def only (c : Bool) (f : Hw → Hw) (h : Hw) : Hw := if c then f h else h

/-- The same for an effect on stored lines. -/
def onlyCore (c : Bool) (f : Core → Core) (k : Core) : Core := if c then f k else k

end Sys2Proof.Machine
end

