-- ==== Sys2Proof/Machine/Signal.lean ====
section
/-!
DEFINITION. Transmitter taps and the spectral mask (R41 to R48, R78), the receiver's adaptation (R49 to R63).
-/
namespace Sys2Proof.Machine

/-! Tap sets. -/

/-- A tap set is within range (R41, Table 2.3). -/
def tapsInRange (c : List Int) : Bool :=
  match c with
  | [cm2, cm1, c0, cp1, cp2] =>
    decide (-8 ≤ cm2) && decide (cm2 ≤ 8) && decide (-20 ≤ cm1) && decide (cm1 ≤ 0) && decide (32 ≤ c0) && decide (c0 ≤ 64) &&
    decide (-24 ≤ cp1) && decide (cp1 ≤ 0) && decide (-8 ≤ cp2) && decide (cp2 ≤ 8) &&
    decide (cm2.natAbs + cm1.natAbs + c0.natAbs + cp1.natAbs + cp2.natAbs ≤ 64)
  | _ => false

/-- The presets of Table 2.4; a number above 7 names none. -/
def preset (n : Nat) : List Int :=
  match n with
  | 0 => [0, 0, 64, 0, 0]
  | 1 => [0, 0, 56, -8, 0]
  | 2 => [0, 0, 48, -16, 0]
  | 3 => [0, -4, 48, -12, 0]
  | 4 => [0, -8, 44, -12, 0]
  | 5 => [0, -8, 40, -16, 0]
  | 6 => [-2, -10, 36, -14, -2]
  | 7 => [2, -12, 34, -14, -2]
  | _ => []

/-- The word of a tap set (Table 2.6). -/
def tapWord (c : List Int) : Nat := c.foldl (fun w x => w * 256 + ofSigned 8 x) 0

/-- The tap set of a word. -/
def tapsOf (w : Nat) : List Int :=
  [toSigned 8 (field w 39 32), toSigned 8 (field w 31 24), toSigned 8 (field w 23 16), toSigned 8 (field w 15 8), toSigned 8 (field w 7 0)]

/-! The spectral mask (R44), in fixed point: 2^48 stands for one. -/

def fixOne : Int := 281474976710656

/-- Product in fixed point. -/
def fixMul (a b : Int) : Int := a * b / fixOne

/-- Taylor series of the cosine: `n` further terms from term `t` of index `k`, `x2` the squared angle. -/
def cosTerms : Nat → Int → Int → Int → Int
  | 0, _, _, _ => 0
  | n + 1, t, k, x2 => t + cosTerms n (- fixMul t x2 / ((2 * k + 1) * (2 * k + 2))) (k + 1) x2

/-- Cosine of 2π·f/fs in fixed point, the angle brought into −π to π. -/
def fixCos (f fs : Nat) : Int :=
  let r : Int := (f % fs : Nat)
  let r := if 2 * r > fs then r - fs else r
  -- 2π in fixed point
  let x := 1768559438007110 * r / fs
  cosTerms 16 fixOne 0 (fixMul x x)

/-- |H|² of a tap set at f, in fixed point: the correlation form of the sum of R44. -/
def tapPower (c : List Int) (f fs : Nat) : Int :=
  let at_ := fun i => c.getD i 0
  let r := fun m => ((List.range (5 - m)).map (fun i => at_ i * at_ (i + m))).sum
  r 0 * fixOne + 2 * ((span 1 4).map (fun m => r m * fixCos (m * f) fs)).sum

/-- Fractional bits of the base-2 logarithm of `x`, 1 ≤ x < 2 in fixed point, by squaring. -/
def log2Bits : Nat → Int → Nat
  | 0, _ => 0
  | n + 1, x =>
    let y := fixMul x x
    if y ≥ 2 * fixOne then 2 ^ n + log2Bits n (y / 2) else log2Bits n y

/-- Base-2 logarithm in 2^-30 of a positive fixed-point value. -/
def fixLog2 (x : Int) : Int :=
  let n := x.toNat.log2
  let m : Int := if n ≥ 48 then x / 2 ^ (n - 48) else x * 2 ^ (48 - n)
  ((n : Int) - 48) * 1073741824 + log2Bits 30 m

/-- G(f) in 0.01 dB as the stack rounds it: the exact level in 0.001 dB, moved by the free error that R44 bounds by 0.02 dB, and never above 0 dB, the greatest level of a set within range. A null of the response has no lower bound. -/
def maskLevel (c : List Int) (f rate : Nat) : Int :=
  let fs := match rate with | 0 => 112000 | 1 => 56000 | _ => 28000
  let p := tapPower c f fs
  if p ≤ 0 then -1000000
  else
    -- 10·log10(2) = 3.01029995664 dB for each doubling; |H|²/64² removes 12 doublings
    let mdB := (fixLog2 p - 12 * 1073741824) * 301029995664 / (1073741824 * 100000000)
    let e := max (-20) (min 20 (Config.maskError c f rate))
    min 0 ((mdB + e + 5) / 10)

/-- Whether a tap set passes a mask word (R44, R46). -/
def passesPoint (c : List Int) (rate word : Nat) : Bool :=
  let f := field word 31 16
  f == 0 || decide (maskLevel c f rate ≤ toSigned 16 (field word 15 0))

/-- The mask in force: points 1 to 16 with their numbers. -/
def maskWords (h : Hw) : List (Nat × Nat) := (span 1 16).map (fun n => (n, obj h 0x2010 n))

/-- The lowest-numbered point that a set fails (R45). -/
def failingPoint (c : List Int) (rate : Nat) (mask : List (Nat × Nat)) : Option Nat :=
  (mask.find? (fun m => !passesPoint c rate m.2)).map Prod.fst

/-- The lane rate in use (0x2000:01). -/
def laneRate (h : Hw) : Nat := obj h 0x2000 1

/-- The active tap set of an upstream lane. -/
def activeTaps (h : Hw) (ln : Nat) : List Int := tapsOf (obj h 0x2100 ln)

/-- Records a refused tap set (R41, R45): status, lane, failing point. -/
def refuseTaps (h : Hw) (ln status : Nat) (point : Option Nat) : Hw :=
  let h := setObj (setObj h 0x2011 1 0 status) 0x2011 2 0 ln
  let h := match point with | some n => setObj h 0x2011 3 0 n | none => h
  bump h 0x2011 4

/-- Drives a tap set on an upstream lane if it is within range and passes the mask; answers the REPLY status (R41, R45). -/
def tryTaps (h : Hw) (ln : Nat) (c : List Int) : Hw × Nat :=
  if !tapsInRange c then (refuseTaps h ln 1 none, 1)
  else match failingPoint c (laneRate h) (maskWords h) with
    | some n => (refuseTaps h ln 2 (some n), 2)
    | none => (setObj h 0x2100 ln 0 (tapWord c), 0)

/-- The first candidate that is driven; each one that fails is refused and recorded (R78). At another lane rate than the mask was checked at, every candidate can fail: the lane then keeps its active set (R45, assumption 152). -/
def firstTaps : Hw → Nat → List (List Int) → Hw
  | h, _, [] => h
  | h, ln, c :: cs =>
    match tryTaps h ln c with
    | (h', 0) => h'
    | (h', _) => firstTaps h' ln cs

/-- A training of an upstream lane starts: its candidates in the order of R78. -/
def startTaps (h : Hw) (ln : Nat) : Hw :=
  let p := obj h 0x2101 ln
  let override := if p = 0xFF then [] else [preset p]
  firstTaps h ln (override ++ [preset 3] ++ (List.range 8).map preset ++ [activeTaps h ln])

/-- The laneset's lanes run PATTERN: the link does at an agreed rate, or the laneset does in a withdrawal (R73, R93). -/
def inPattern (h : Hw) (ls : Nat) : Bool :=
  match (laneset h ls).wd with
  | some w => w.phase == .pattern
  | none => obj h 0x2200 2 == 1 && h.link.up.rate.isSome

/-- The lowest position of an upstream laneset that senses termination: its back channel (R77). -/
def backPos (h : Hw) (ls : Nat) : Nat := ((List.range 9).find? (fun i => (lane h (laneOf ls i)).present)).getD 0

/-- Sends a back-channel message about a laneset's transmitter: as TRAIN while the laneset is withdrawn (R93), else on UP(2k) for DNk; a REPLY travels on the laneset that it is about (R77, assumption 123). -/
def sendBc (h : Hw) (ls : Nat) (m : BcMsg) : Hw :=
  if (laneset h ls).wd.isSome then sendCtl h (.train ls m)
  else
    let k := if ls < 16 then ls else 2 * (ls - 16)
    emit h (.backChannel k (backPos h k) (lsIndex ls) m)

/-- A back-channel request for a tap set of an upstream lane: checked, answered with REPLY, applied (R79). Outside PATTERN none arrives (R43). -/
def requestTaps (ls pos : Nat) (c : List Int) (h : Hw) : Hw :=
  if awake h && inPattern h ls && decide (ls < 16) && decide (pos < 9) then
    let (h, st) := tryTaps h (laneOf ls pos) c
    sendBc h ls (.reply pos st)
  else h

/-- What the stack asks of a downstream lane's transmitter is left open (R79, it may send): nothing, a preset or five taps, as free values say (assumption 122). -/
def askTaps (h : Hw) (ln : Nat) : Hw :=
  let ls := ln / 9
  let ask := fun (h : Hw) (m : BcMsg) => sendBc (setLane h ln { lane h ln with asked := true, reply := none }) ls m
  let (v, h) := draw h 60
  if v % 10 = 0 then h
  else if v % 10 ≤ 8 then ask h (.setPreset (ln % 9) (v % 10 - 1))
  else
    let tap := fun (n : Nat) => toSigned 8 (Config.freeValue 61 (h.draws + n) % 256)
    ask { h with draws := h.draws + 5 } (.setTaps (ln % 9) (tap 0) (tap 1) (tap 2) (tap 3) (tap 4))

/-- A REPLY to the request that is outstanding for its lane is kept, and the stack may ask again (R79). -/
def takeReply (ls pos status : Nat) (h : Hw) : Hw :=
  let n := laneOf ls pos
  if awake h && inPattern h ls && decide (16 ≤ ls) && decide (pos < 9) && (lane h n).asked then
    askTaps (setLane h n { lane h n with asked := false, reply := some status }) n
  else h

def execSetPreset (ls pos n : Nat) (s : State) : Host.Outcome State Fault Refusal :=
  runHw (wfSetPreset ls pos n) (requestTaps ls pos (preset n)) s

def execSetTaps (ls pos : Nat) (cm2 cm1 c0 cp1 cp2 : Int) (s : State) : Host.Outcome State Fault Refusal :=
  runHw (wfSetTaps ls pos cm2 cm1 c0 cp1 cp2) (requestTaps ls pos [cm2, cm1, c0, cp1, cp2]) s

def execReply (ls pos status : Nat) (s : State) : Host.Outcome State Fault Refusal :=
  runHw (wfReply ls pos status) (takeReply ls pos status) s

/-- ADC sub-converters that run at the lane rate in use (Table 2.1). -/
def subConverters (h : Hw) : Nat := match laneRate h with | 0 => 8 | 1 => 4 | _ => 2

/-- Background calibration of a lane's ADC: offset, gain and skew of each running sub-converter, whatever adaptation does (R49, R63). -/
def calibrateAdc (ln : Nat) (cal : List (Int × Int × Int)) (h : Hw) : Hw :=
  let old := (lane h ln).adcCal
  setLane h ln { lane h ln with adcCal := (List.range 8).map (fun i => if i < subConverters h then cal.getD i (0, 0, 0) else old.getD i (0, 0, 0)) }

def execAdcCalibration (s : State) (ln : Nat := 144) (cal : List (Int × Int × Int) := []) : Host.Outcome State Fault Refusal :=
  runHw (wfAdcCalibration ln cal) (fun h => only (awake h) (calibrateAdc ln cal) h) s

/-! Training results. -/

/-- Stores what training settled on a received lane, which becomes the reference of its drift window (R55). -/
def storeTrained (h : Hw) (ls : Nat) (t : Trained) : Hw :=
  let n := laneOf ls t.pos
  let h := setObj (setObj h 0x2110 n 0 t.ctle) 0x2112 n 0 (ofSigned 16 t.dfe)
  setLane h n { lane h n with
    gain := t.gain, ffe := t.ffe, levels := t.levels, frac := [], fullScale := t.fullScale,
    refGain := t.gain, refFfe := t.ffe, refDfe := t.dfe, failed := false, driftTimes := [], holdEnd := none }

/-! Adaptation (R53 to R60). -/

/-- The three slicer thresholds, midway between adjacent level estimates, in half steps (Table 2.7). -/
def thresholds (l : Lane) : List Int := (List.range 3).map (fun i => l.levels.getD i 0 + l.levels.getD (i + 1) 0)

/-- The adapted values of a lane in the order of an update: gain, FFE taps, DFE tap, level estimates. -/
def adapted (h : Hw) (ln : Nat) : List Int :=
  let l := lane h ln
  l.gain :: (List.range 16).map (fun i => l.ffe.getD i 0) ++ toSigned 16 (obj h 0x2112 ln) :: (List.range 4).map (fun i => l.levels.getD i 0)

/-- Range of an adapted value by its place in an update (Table 2.7); level estimates have none. -/
def clampAdapted (i : Nat) (v : Int) : Int :=
  if i = 0 then max 128 (min 1024 v) else if i ≤ 16 then max (-512) (min 511 v) else if i = 17 then max 0 (min 96 v) else v

/-- Where an update carries each value: the sums of its two codewords with a step of 2^−m, m being 0x2000:06; what lies below a value's resolution is kept (R53, assumption 121). Answers values and remainders. -/
def stepped (h : Hw) (ln : Nat) (u : LaneUpdate) : List (Int × Int) :=
  let m := obj h 0x2000 6
  (adapted h ln).zipIdx.map (fun v =>
    let total := v.1 * 65536 + (lane h ln).frac.getD v.2 0 + (u.first.getD v.2 0 + u.second.getD v.2 0) * 65536 / (2 : Int) ^ m
    (clampAdapted v.2 (total / 65536), total % 65536))

/-- A coefficient stays in its drift window: |value − reference| ≤ W % of max(|reference|, F), F an eighth of the main tap's reference (R55). -/
def inDrift (w f8 ref v : Int) : Bool := decide ((v - ref).natAbs * 800 ≤ w.toNat * max (8 * ref.natAbs) f8.natAbs)

/-- The values keep every adapted coefficient of the lane inside its window (R55). Gain, FFE and DFE are compared as counts of their own resolution, F too (assumption 124). -/
def updateFits (h : Hw) (l : Lane) (vs : List Int) : Bool :=
  let w : Int := obj h 0x2000 7
  let f8 := l.refFfe.getD 3 0
  inDrift w f8 l.refGain (vs.getD 0 0) && inDrift w f8 l.refDfe (vs.getD 17 0) &&
  (List.range 16).all (fun i => inDrift w f8 (l.refFfe.getD i 0) (vs.getD (i + 1) 0))

/-- An update of a flit whose first codeword began at `began` may be applied on a lane: adaptation is enabled, no drift hold and no waiting retrain freezes the lane, none has ended since, and the lane is in lock (R52, R53, R56, R58, R60, R63). -/
def mayAdapt (h : Hw) (ln began : Nat) : Bool :=
  let l := lane h ln
  flag h 0x2000 10 && l.holdEnd.isNone && !l.retrainAsked && !l.lost && l.thawed.all (fun t => decide (t < began))

/-- State of adaptation on a lane (0x2113 codes of R61): disabled reads 4 on every lane (R63); of several others the model shows out of lock, then waiting for retrain, drift hold, quiet idle (assumption 125). -/
def adaptState (h : Hw) (ln : Nat) : Nat :=
  let l := lane h ln
  if !flag h 0x2000 10 then 4 else if l.lost then 5 else if l.retrainAsked then 3 else if l.holdEnd.isSome then 2
  else if (laneset h (ln / 9)).quiet then 1 else 0

/-- Brings object 0x2113 of a laneset's lanes up to date. -/
def showAdapt (h : Hw) (ls : Nat) : Hw :=
  (List.range 9).foldl (fun h i => setObj h 0x2113 (laneOf ls i) 0 (adaptState h (laneOf ls i))) h

/-- The same for every downstream laneset. -/
def showAdaptAll (h : Hw) : Hw := (span 16 8).foldl showAdapt h

/-- A drift event: the update is discarded, the lane frozen for a hold, the event counted; answers whether it is the third within 1 s (R56, R57). -/
def driftEvent (h : Hw) (ln : Nat) : Hw × Bool :=
  let l := lane h ln
  let times := (l.driftTimes.filter (fun t => decide (now h ≤ t + sec 1))) ++ [now h]
  let h := raise (bump h 0x2114 ln) Src.laneDrift
  let third := decide (3 ≤ times.length)
  (setLane h ln { l with holdEnd := some (now h + ms (obj h 0x2000 8)), driftTimes := if third then [] else times }, third)

/-- One held update at its flit's check; answers the lanes whose third drift event this is (R53, R56). -/
def applyUpdate (ls began : Nat) (acc : Hw × List Nat) (u : LaneUpdate) : Hw × List Nat :=
  let (h, asked) := acc
  let ln := laneOf ls u.pos
  if !mayAdapt h ln began then (h, asked)
  else
    let l := lane h ln
    let vs := stepped h ln u
    let v := vs.map Prod.fst
    if updateFits h l v then
      let h := setObj h 0x2112 ln 0 (ofSigned 16 (v.getD 17 0))
      (setLane h ln { l with gain := v.getD 0 0, ffe := (v.drop 1).take 16, levels := v.drop 18, frac := vs.map Prod.snd }, asked)
    else
      let (h, third) := driftEvent h ln
      (h, if third then asked ++ [u.pos] else asked)

/-- The hold ends: adaptation resumes from the frozen values, for flits that begin after this moment (R56, R60). -/
def driftHoldEnd (ln : Nat) (h : Hw) : Hw :=
  if (lane h ln).holdEnd.isNone then h
  else showAdapt (setLane h ln { lane h ln with holdEnd := none, thawed := some (now h) }) (ln / 9)

def execDriftHoldEnd (ln : Nat) (s : State) : Host.Outcome State Fault Refusal :=
  runHw (wfDriftHoldEnd ln) (driftHoldEnd ln) s

/-- A lane's retrain is over: it adapts again, for flits that begin after this moment (R58, R60). -/
def thawLane (h : Hw) (ln : Nat) : Hw := setLane h ln { lane h ln with retrainAsked := false, thawed := some (now h) }

end Sys2Proof.Machine
end

