-- ==== Sys2Proof/Machine/BringUp.lean ====
section
/-!
DEFINITION. Bring-up of the link up to LOCK (R73 to R82), of the whole link or of a withdrawn laneset (R93), and what takes a
laneset out of service (R94, R96).
-/
namespace Sys2Proof.Machine

/-- Bring-up state (0x2200:02): 0 DETECT, 1 PATTERN, 2 LOCK, 3 EXCHANGE, 4 ACTIVE, 5 pause. -/
def linkState (h : Hw) : Nat := obj h 0x2200 2
def setLinkState (h : Hw) (v : Nat) : Hw := { setObj h 0x2200 2 0 v with react := { h.react with link := true } }

/-- The grade (0x1000:03): 0 A, 1 B (R10). -/
def gradeB (h : Hw) : Bool := obj h 0x1000 3 == 1

/-- Rates supported: bit 0 112 GBd, bit 1 56, bit 2 28; the B grade never offers 112 (R11, R78). -/
def ratesOf (h : Hw) : Nat := if gradeB h then 6 else 7

/-- Takes a laneset to a state and counts the lanesets out of service (0x2201, 0x2220:05). -/
def moveLaneset (h : Hw) (ls st : Nat) : Hw :=
  let h := setLsState h ls st
  setObj h 0x2220 5 0 ((List.range 24).filter (fun k => lsState h k == 2)).length

/-- Bits set in a mask of positions. -/
def maskCount (m : Nat) : Nat := ((List.range 9).filter (bitAt m)).length

/-- The rate proposed next after a failed attempt at `r`: one lower (R78). -/
def lowerRate (r : Nat) : Nat := min 2 (r + 1)

/-- The start rate (0x2200:01); an LR16-128-B never proposes 112 GBd (R78). -/
def startRate (h : Hw) : Nat := if gradeB h then max 1 (obj h 0x2200 1) else obj h 0x2200 1

/-! Lanesets that leave service. -/

/-- A port without an in-service laneset in one direction is down (R96): it takes no further flits and its waiting responses are discarded and counted. -/
def checkPort (h : Hw) (p : Nat) : Hw :=
  if !linkActive h || (port h p).down || ((portUps h p).any (inService h) && (portDns h p).any (inService h)) then h
  else
    let q := port h p
    let h := bumpBy (setPort h p { q with down := true, wait := [], replay := [] }) 0x3006 p 0 q.wait.length
    let h := raise (setActive h Src.portDown true) Src.portDown { port := p }
    linkEvent h 3 p

/-- Flits sent on an upstream laneset and not acknowledged go to the port's other lanesets (R93, step 2). -/
def moveFlits (h : Hw) (ls : Nat) : Hw :=
  let p := portOf h ls
  let h := setPort h p { port h p with replay := (port h p).replay ++ (laneset h ls).retry }
  setLaneset h ls { laneset h ls with retry := [], order := [], parkWait := false, replayWait := false }

/-- A mirror ends at once. Its request of the stack stays, first in the queue: without a switch as it was (R97), and a drift retrain until the replaced lane has trained (R57, R59). A request of the host for an upstream laneset stays with the host. -/
def endMirror (ls : Nat) (l : Laneset) : Laneset :=
  match l.mirror with
  | some m => { l with mirror := none, queue := if ls < 16 || (m.phase == .switched && !m.drift) then l.queue else ⟨m.oldPos, m.drift⟩ :: l.queue }
  | none => l

/-- A withdrawal ends early: the requests that its retraining was to serve wait again (R58, R59). -/
def endWithdrawal (l : Laneset) : Laneset :=
  match l.wd with
  | some w => { l with wd := none, queue := w.retrain ++ l.queue }
  | none => l

/-- Takes a laneset out of service until the next bring-up (R94). -/
def outOfService (h : Hw) (ls : Nat) : Hw :=
  let h := moveFlits (setLaneset h ls (endWithdrawal (endMirror ls (laneset h ls)))) ls
  let h := checkPort (moveLaneset h ls 2) (portOf h ls)
  flushPort h (portOf h ls)

/-! A new bring-up. -/

/-- Ends the wait of a pattern test's operation. -/
def endTestWait (h : Hw) (ls : Nat) (a : Answer) : Hw :=
  match (laneset h ls).testPath with
  | some p => finishOp (setLaneset h ls { laneset h ls with testPath := none }) p a
  | none => h

/-- A port waits for the link: groups not acknowledged wait to be sent again, ahead of the others (assumption 17). -/
def holdPort (h : Hw) (p : Nat) : Hw :=
  let q := port h p
  let fs := ((portUps h p).map (fun k => (laneset h k).retry)).flatten ++ q.replay
  setPort h p { q with wait := fs.filterMap (fun f => f.group.map (fun g => { group := g })) ++ q.wait, replay := [], early := [] }

/-- The link waits in DETECT. Every laneset starts anew in state 0 with the power-up lane map (R73, R80, R94); requests for a retrain stay (R59), a pattern test under way ends (assumption 126), and the precode policy is the one now in force (R104). -/
def resetLink (h : Hw) (rate : Nat) : Hw :=
  let h := (List.range 24).foldl (fun h k => endTestWait h k { status := .notReady }) (setLinkState h 0)
  let h := (List.range 4).foldl holdPort h
  let kept := h.link.lanesets.filterMap (fun e =>
    let q := (endWithdrawal (endMirror e.1 e.2)).queue
    if q.isEmpty then none else some (e.1, ({ queue := q } : Laneset)))
  let h := { h with link := { h.link with lanesets := kept, up := { start := now h, proposed := rate, precode := obj h 0x2200 10 } } }
  showAdaptAll ((List.range 24).foldl (fun h k => moveLaneset h k 0) h)

/-- An attempt begins at DETECT, proposing a rate; every lane goes to electrical idle (R73, R86). -/
def startDetect (h : Hw) (rate : Nat) : Hw :=
  let h := resetLink (bump h 0x2200 3) rate
  emit { h with test := { h.test with bistLinkDown := false } } .linkIdle

/-- The laneset's encoder, decoder or CRC checker failed the self-test: it is out of service from the first bring-up (R297). -/
def unfit (h : Hw) (ls : Nat) : Bool :=
  h.test.failedUnits.contains (0x4000 + ls) || h.test.failedUnits.contains (if ls < 16 then 0x2000 + ls else 0x3000 + (ls - 16))

/-- The rate of the attempt under way: the attempt rate, or the proposal until it is agreed. -/
def attemptRate (h : Hw) : Nat := match h.link.up.rate with | some r => r | none => h.link.up.proposed

/-- The attempt fails: counted; after 28 GBd a pause, else the next attempt one rate lower (R86). -/
def failAttempt (h : Hw) : Hw :=
  let r := attemptRate h
  let h := bump h 0x2200 4
  if r = 2 then raise (setLinkState h 5) Src.linkDown else startDetect h (lowerRate r)

/-! DETECT. -/

/-- A sense of far-end termination (R74). PATTERN opens at 28 GBd (R78). -/
def terminationSense (up dn : List Nat) (h : Hw) : Hw :=
  if !(awake h && linkState h == 0 && !h.test.bistLinkDown && obj h 0x1002 1 != 3) then h
  else if (up ++ dn).all (· == 0) && h.link.up.firstSense.isNone then
    { h with link := { h.link with up := { h.link.up with sense := some (up, dn) } } }
  else
    let u := h.link.up
    let first := match u.firstSense with | some t => t | none => now h
    let agree := u.sense == some (up, dn)
    let enough := up.any (fun m => decide (8 ≤ maskCount m)) && dn.any (fun m => decide (8 ≤ maskCount m))
    let h := { h with link := { h.link with up := { u with sense := some (up, dn), firstSense := some first } } }
    if (agree && enough) || decide (now h ≥ first + ms 1) then
      let h := (List.range 144).foldl (fun h n => setLane h n { lane h n with present := bitAt (up.getD (n / 9) 0) (n % 9) }) h
      (List.range 8).foldl (fun h k => sendBc h (16 + k) (.hello (ratesOf h) u.proposed)) (setObj (setLinkState h 1) 0x2000 1 0 2)
    else h

def execTerminationSense (up dn : List Nat) (s : State) : Host.Outcome State Fault Refusal :=
  runHw (wfTerminationSense up dn) (terminationSense up dn) s

/-! PATTERN. -/

/-- The host's HELLO fixes the attempt rate, the lower of the two proposals; every upstream lane starts from its first candidate that passes the mask (R78), and the stack may ask for taps of every downstream lane (R79). -/
def takeHello (rate : Nat) (h : Hw) : Hw :=
  if awake h && linkState h == 1 && h.link.up.rate.isNone then
    let r := max rate h.link.up.proposed
    let h := { h with link := { h.link with up := { h.link.up with rate := some r } } }
    (span 144 72).foldl askTaps ((List.range 144).foldl startTaps (setObj h 0x2000 1 0 r))
  else h

def execHello (ls rates rate : Nat) (s : State) : Host.Outcome State Fault Refusal :=
  runHw (wfHello ls rates rate) (takeHello rate) s

/-- The lane map of a DONE mask: positions of stripe lanes 0 to 7, and the spare (R80). -/
def mapOfMask (m : Nat) : List Nat × Option Nat :=
  match (List.range 8).find? (fun u => !bitAt m u) with
  | none => (List.range 8, if bitAt m 8 then some 8 else none)
  | some u => ((List.range 8).map (fun s => if s = u then 8 else s), none)

/-- Shows in 0x2202 which stripe lane each position of a laneset carries: 0 to 7, 8 the spare, 0xFF none. -/
def showMap (h : Hw) (ls : Nat) : Hw :=
  let l := laneset h ls
  (List.range 9).foldl (fun h i =>
    let v := match l.map.findIdx? (· == i) with
      | some s => s
      | none => if l.spare == some i then 8 else 0xFF
    setObj h 0x2202 (laneOf ls i) 0 v) h

/-- A laneset enters LOCK: no lane holds pilot lock, nothing is precoded, and an upstream laneset begins to send sync flits (R81, R84). -/
def toLock (h : Hw) (ls : Nat) : Hw :=
  let h := setLaneset h ls { laneset h ls with goodCw := 0, locked := false, descr := none, half := none, rx := none, active := false }
  let h := (List.range 9).foldl (fun h i =>
    let n := laneOf ls i
    setLane (setObj h 0x2205 n 0 0) n { lane h n with locked := false, failed := false, pairRun := 0, asked := false }) h
  startStream h ls

/-- A laneset takes the map of its DONE mask and enters LOCK (R80, R81). `usable` are the positions that DONE names, `m` those that the map may use. -/
def lockLaneset (h : Hw) (ls usable m : Nat) : Hw :=
  let (map, spare) := mapOfMask m
  showMap (toLock (setLaneset h ls { laneset h ls with usable := usable, map := map, spare := spare }) ls) ls

/-- The positions named usable for a laneset, by its receiving end. -/
def doneMask (h : Hw) (ls : Nat) : Option Nat := if ls < 16 then (laneset h ls).doneRecv else (laneset h ls).doneSent

/-- The positions of a withdrawn laneset that its map may use: the spare takes the place of a failed lane, however that lane has trained (R93, step 4, R97). -/
def mapMask (w : Withdrawal) (m : Nat) : Nat :=
  match w.failedPos with
  | some p => if bitAt m p then m - 2 ^ p else m
  | none => m

/-- Enters LOCK once DONE has been sent and received for every laneset (R79), or for the one laneset of a withdrawal (R93). A laneset with fewer than eight positions to map is out of service (R80, R94, R98). -/
def tryLock (h : Hw) (ls : Nat) : Hw :=
  match (laneset h ls).wd with
  | some w =>
    if w.phase != .pattern then h
    else match doneMask h ls with
      | none => h
      | some m =>
        if maskCount (mapMask w m) < 8 || unfit h ls then outOfService h ls
        else
          let h := lockLaneset h ls m (mapMask w m)
          setLaneset h ls { laneset h ls with wd := some { w with phase := .lock, spareMapped := w.failedPos.isSome || (laneset h ls).map.contains 8 } }
  | none =>
    if linkState h == 1 && (List.range 24).all (fun k => (doneMask h k).isSome) then
      (List.range 24).foldl (fun h k =>
        let m := if unfit h k then 0 else (doneMask h k).getD 0
        let h := lockLaneset h k m m
        if maskCount m < 8 then moveLaneset h k 2 else h) (setLinkState h 2)
    else h

/-- DONE received: the host's receiver names the usable positions of an upstream laneset (R79). -/
def takeDone (ls mask : Nat) (h : Hw) : Hw :=
  if awake h && inPattern h ls then tryLock (setLaneset h ls { laneset h ls with doneRecv := some mask }) ls else h

def execDone (ls mask : Nat) (s : State) : Host.Outcome State Fault Refusal :=
  runHw (wfDone ls mask) (takeDone ls mask) s

/-- The stack's receiver has judged a downstream laneset: reversal from the seeds and inversion from the markers it saw on its inputs, of which a reversed laneset carries position i on input 8 − i (R76); the trained values; it sends DONE (R77, R79). -/
def sendDone (ls mask : Nat) (seeds : List Nat) (markers : List (List Int)) (trained : List Trained) (h : Hw) : Hw :=
  if awake h && inPattern h ls then
    let h := setObj h 0x2204 ls 0 (bit (foundReversed seeds))
    let input := fun (i : Nat) => if foundReversed seeds then 8 - i else i
    let h := (List.range 9).foldl (fun h i => setObj h 0x2203 (laneOf ls i) 0 (bit (markerInverted (markers.getD (input i) [])))) h
    let h := trained.foldl (fun h t => storeTrained h ls t) h
    let h := sendBc (setLaneset h ls { laneset h ls with doneSent := some mask }) ls (.done mask)
    tryLock (showAdapt h ls) ls
  else h

def execDoneSend (ls mask : Nat) (seeds : List Nat) (trained : List Trained) (s : State) (markers : List (List Int) := []) : Host.Outcome State Fault Refusal :=
  runHw (wfDoneSend ls mask seeds markers trained) (sendDone ls mask seeds markers trained) s

/-- A withdrawn laneset stands in a phase of its return. -/
def inPhase (h : Hw) (ls : Nat) (p : WdPhase) : Bool := match (laneset h ls).wd with | some w => w.phase == p | none => false

/-- PATTERN runs past 20 ms: the attempt fails (R73, R86); in a withdrawal the laneset goes out of service (R93, assumption 127). -/
def patternTimeout (ls : Option Nat) (h : Hw) : Hw :=
  match ls with
  | none => if awake h && linkState h == 1 then failAttempt h else h
  | some k => if awake h && inPhase h k .pattern then outOfService h k else h

def execPatternTimeout (s : State) (ls : Option Nat := none) : Host.Outcome State Fault Refusal :=
  runHw (wfPatternTimeout ls) (patternTimeout ls) s

/-! LOCK. -/

/-- The laneset is in LOCK: with the link, in a withdrawal, or waking (R81, R93, R100). -/
def inLock (h : Hw) (ls : Nat) : Bool :=
  match (laneset h ls).wd with
  | some w => w.phase == .lock
  | none => linkState h == 2 && lsState h ls != 2

/-- A lane takes pilot lock; its frequency offset and SNR are measured values (R50, R81). -/
def pilotLock (ln : Nat) (freq : Int) (snr : Nat) (h : Hw) : Hw :=
  if awake h then
    let h := setObj (setObj h 0x2116 ln 0 (ofSigned 32 freq)) 0x2117 ln 0 snr
    showAdapt (setLane h ln { lane h ln with locked := true, lost := false, failed := false }) (ln / 9)
  else h

def execPilotLock (ln : Nat) (freq : Int) (snr : Nat) (s : State) : Host.Outcome State Fault Refusal :=
  runHw (wfPilotLock ln freq snr) (pilotLock ln freq snr) s

/-- Mean iterations of the last second, once a second has passed (0x2213). -/
def countIterations (h : Hw) (ls iters : Nat) : Hw :=
  let l := laneset h ls
  if now h ≥ l.iterFrom + sec 1 then
    let h := if l.iterCnt = 0 then h else setObj h 0x2213 ls 0 (l.iterSum * 65536 / l.iterCnt)
    setLaneset h ls { l with iterSum := iters, iterCnt := 1, iterFrom := now h }
  else setLaneset h ls { l with iterSum := l.iterSum + iters, iterCnt := l.iterCnt + 1 }

/-- Descrambling in LOCK: load from the first 31 information bits, confirm on the next 64, count good codewords (R81). -/
def descramble (l : Laneset) (ok : Bool) (info : Nat) : Laneset :=
  if !ok then { l with goodCw := 0, descr := none }
  else match l.descr with
    | some b =>
      if prbs31Follows b info 2048 then { l with goodCw := l.goodCw + 1, descr := some (info / 2 ^ 2017) }
      else { l with goodCw := 0, descr := none }
    | none =>
      let rest := info / 2 ^ 31
      if prbs31Follows info rest 64 then
        { l with goodCw := if prbs31Follows info rest 2017 then 1 else 0, descr := some (info / 2 ^ 2017) }
      else l

/-- The lane frame of a position as the receiver corrects it: reversal and inversion are undone (R76), so a position is that of its training seed (assumption 147). -/
def rxFrame (h : Hw) (ls : Nat) (frames : List (List Int)) (pos : Nat) : List Int :=
  let f := frames.getD (if flag h 0x2204 ls then 8 - pos else pos) []
  if flag h 0x2203 (laneOf ls pos) then f.map (fun l => -l) else f

/-- The code bits that the lane frames of a laneset carry: decided levels, the precoder undone, shares joined by the lane map (R36, R37, R68). -/
def rxCodeword (h : Hw) (ls : Nat) (frames : List (List Int)) : Nat :=
  joinShares ((laneset h ls).map.map (fun i => frameShare (flag h 0x2205 (laneOf ls i)) (rxFrame h ls frames i)))

/-- The parity that the pilots of the mapped lanes show: that of the first lane whose pair matches a pattern (assumption 146). -/
def shownParity (h : Hw) (ls : Nat) (frames : List (List Int)) : Option Bool :=
  ((laneset h ls).map.filterMap (fun i => pilotParity (rxFrame h ls frames i))).head?

/-- Pairing errors: a frame whose pilots match the opposite of the expected parity counts on its lane, any other ends the run (R72). -/
def countPairing (h : Hw) (ls : Nat) (frames : List (List Int)) (even : Bool) : Hw :=
  (List.range 9).foldl (fun h i =>
    let n := laneOf ls i
    setLane h n { lane h n with pairRun := if pilotParity (rxFrame h ls frames i) == some (!even) then (lane h n).pairRun + 1 else 0 }) h

/-- A decoded codeword outside LOCK: descrambled, and paired into a flit by the expected parity alone (R66, R67, R72). -/
def pairCodeword (l : Laneset) (ok : Bool) (info : Nat) : Laneset :=
  let win := l.descr.getD 0
  let clear := scramble win info
  let l := { l with descr := l.descr.map (fun w => prbsWindow w 2048), cwCount := if l.active then (l.cwCount + 1) % 4294967296 else l.cwCount }
  if l.parity then { l with half := some (ok, clear) }
  else match l.half with
    | some (a, x) => { l with half := none, rx := some (a && ok, infoBytes x clear) }
    | none => l

/-- A downstream codeword completes decoding (R70, R71): it converged when every check holds (R64); corrected bits are counted per stripe lane's position. Quiet frames are not decoded (R135). -/
def codewordDecode (ls : Nat) (frames : List (List Int)) (decoded : BitVec 2304) (iters : Nat) (h : Hw) : Hw :=
  if !(awake h && (inLock h ls || inService h ls || inPhase h ls .exchange) && 2 ≤ linkState h && linkState h ≤ 4) || (laneset h ls).quiet then h
  else
    let ok := ldpcOk decoded.toNat && decide (iters ≤ obj h 0x2215 0)
    let h := countIterations h ls iters
    let diff := rxCodeword h ls frames ^^^ decoded.toNat
    let h :=
      if ok then
        (List.range 8).foldl (fun h s =>
          let n := stripeBits diff s
          let ln := laneOf ls ((laneset h ls).map.getD s 0)
          let h := bumpBy (bumpBy h 0x2212 ls 0 n) 0x2216 ln 0 n
          setLane h ln { lane h ln with windowBits := (lane h ln).windowBits + n }) (bump h 0x2210 ls)
      else bump h 0x2211 ls
    let info := decoded.toNat % 2 ^ 2048
    if inLock h ls then
      let even := (shownParity h ls frames).getD (laneset h ls).parity
      setLaneset h ls { descramble (laneset h ls) ok info with parity := !even }
    else
      let h := countPairing h ls frames (laneset h ls).parity
      let l := pairCodeword (laneset h ls) ok info
      setLaneset h ls { l with parity := !l.parity }

def execCodewordDecode (ls : Nat) (frames : List (List Int)) (decoded : BitVec 2304) (iters : Nat) (s : State) : Host.Outcome State Fault Refusal :=
  runHw (wfCodewordDecode ls frames decoded iters) (codewordDecode ls frames decoded iters) s

end Sys2Proof.Machine
end

