-- ==== Sys2Proof/Machine/Regulation.lean ====
section
/-!
DEFINITION. The events of traffic classes: the end of a share window (R208) and the release of an admission queue (R210).
-/
namespace Sys2Proof.Machine

/-- The end of a share window. In Grey mode nothing is promoted, and the window's counts lapse (R223). -/
def shareWindowEnd (h : Hw) : Hw :=
  if !awake h then h
  else
    let h := if grey h then (List.range 8).foldl lapseWindow h else (List.range 8).foldl (fun h t => reinput (shareWindow h t) t) h
    { h with chans := { h.chans with winStart := now h } }

def execShareWindowEnd (s : State) : Host.Outcome State Fault Refusal := runHw true shareWindowEnd s

/-- The queue of a track whose first transaction arrived first, whatever its class (R223). -/
def firstQueued (h : Hw) (t : Nat) : Option (Nat × Nat) :=
  ((List.range 8).filterMap (fun c => (queuedOf h t c).map (fun n => (c, n)))).foldl (fun b x => match b with
    | none => some x
    | some y => if x.2 < y.2 then some x else some y) none

/-- What leaves a track's queues next: the oldest of a class once its count allows; in Grey mode the oldest of all, whichever class the release is for (R204, R210, R223). -/
def nextQueued (h : Hw) (t c : Nat) : Option (Nat × Nat) :=
  if grey h then firstQueued h t
  else if underLimit h t c then (queuedOf h t c).map (fun n => (c, n))
  else none

/-- The oldest queued transaction is admitted; one that waits to move to another class's queue is not of this class (R204, R210). -/
def releaseQueue (t c : Nat) (h : Hw) : Hw :=
  match (if awake h then nextQueued h t c else none) with
  | some (k, n) => moveReclassed (admitTxn (setCls h t k { clsSt h t k with queue := (clsSt h t k).queue.erase n }) n) t
  | none => h

def execAdmissionQueueRelease (track cls : Nat) (s : State) : Host.Outcome State Fault Refusal :=
  runHw (wfAdmissionQueueRelease track cls) (releaseQueue track cls) s

end Sys2Proof.Machine
end

