-- ==== Sys2Proof/Machine/EngineOps.lean ====
section
/-!
DEFINITION. What engines do to stored lines: reads and writes over the Ringroad (R226, R227, R238), lines read ahead (R243, R244,
R266, R267), the issue of ATOMIC-BATCH records (R231, R246), parts and their places (R237).
-/
namespace Sys2Proof.Machine

/-! Jobs and parts. -/

def jobAt (h : Hw) (j : Nat) : Option Job := tfind h.jobs.jobs j
def setJob (h : Hw) (j : Nat) (v : Job) : Hw := setJobs h { h.jobs with jobs := tset h.jobs.jobs j v }

/-- Changes a job that is still admitted. -/
def onJob (h : Hw) (j : Nat) (f : Job → Job) : Hw := match jobAt h j with | some q => setJob h j (f q) | none => h

/-- Changes one part of a job. -/
def setPart (h : Hw) (j i : Nat) (f : Part → Part) : Hw := onJob h j (fun q => { q with parts := q.parts.modify i f })

/-- Adds to the bytes a job has made visible: 64 for each line written (R234). -/
def addBytes (h : Hw) (j n : Nat) : Hw := onJob h j (fun q => { q with bytes := q.bytes + n })

/-- A track's four engines. -/
def trackEngines (t : Nat) : List Nat := span (4 * t) 4

/-! The Ringroad (R227). -/

/-- Hops between the stops of two tracks the shorter way round ten stops. -/
def ringHops (a b : Nat) : Nat := min ((b + 10 - a) % 10) ((a + 10 - b) % 10)

/-- Bytes carried from track `a` to track `b`: the shorter way, on a tie the ascending one (0x6050). -/
def ringCarry (h : Hw) (a b n : Nat) : Hw :=
  if a = b then h else bumpBy h 0x6050 (if (b + 10 - a) % 10 ≤ 5 then 1 else 2) 0 n

/-! Reads and writes of an engine. -/

/-- A line that an engine reads lies in the array: neither released nor queued. -/
def inArray (h : Hw) (line : Nat) : Bool :=
  let e := route h (line / 1024)
  !entReleased e && (wqFind h (physOf e line)).isNone

/-- An engine's read of a line takes its path, at the input of its class (R202, R213). -/
def countGrant (h : Hw) (cls line : Nat) : Hw :=
  let p := pPc (physOf (route h (line / 1024)) line)
  if inArray h line then bump h 0x3430 (inputOf h (trkOf p) cls) (chOf p) else h

/-- An engine access to a line at a class: it counts as a line transfer and as heat. -/
def engRead (c : Core) (e cls line : Nat) : Core × Line × Bool :=
  let (c, d, p) := readHost (c.onHw (fun h => countGrant h cls line)) line 0
  let t := entTrack (route c.hw (line / 1024))
  (c.onHw (fun h => ringCarry (countLines (heatLine h (line / 1024)) t cls 1) t (e / 4) 64), d, p)

def stream (g : Engine) (su : Nat) : Stream := tget {} g.su su
def setStream (h : Hw) (e su : Nat) (f : Stream → Stream) : Hw :=
  setEngine h e { engine h e with su := tput {} (engine h e).su su (f (stream (engine h e) su)) }

/-- A read at an offset of a stream: a line read ahead is consumed as it was read (R244, R266), any other is read now. -/
def streamRead (c : Core) (e su cls offset line : Nat) : Core × Line × Bool :=
  match (stream (engine c.hw e) su).ahead.find? (fun a => a.offset == offset && a.line == line) with
  | some a =>
    (c.onHw (fun h =>
      let h := setStream h e su (fun s => { s with ahead := s.ahead.filter (fun b => b != a) })
      let h := ringCarry (heatLine h (line / 1024)) (entTrack (route h (line / 1024))) (e / 4) 64
      if a.poison then notePoisonDelivered h (physOf (route h (line / 1024)) line) else h), a.data, a.poison)
  | none => engRead c e cls line

/-- A write of a part takes the line out of its run-ahead buffers (R267). -/
def dropAhead (h : Hw) (e line : Nat) : Hw :=
  (List.range 4).foldl (fun h su =>
    let s := stream (engine h e) su
    let rest := s.ahead.filter (fun a => a.line != line)
    if rest.length = s.ahead.length then h
    else setStream (bumpBy h 0x6030 4 0 (s.ahead.length - rest.length)) e su (fun s => { s with ahead := rest })) h

/-- The line's die serves requests; a released line needs none. -/
def lineUp (h : Hw) (line : Nat) : Bool :=
  let e := route h (line / 1024)
  entReleased e || dieOn h (lineDie (physOf e line))

/-- An access that arrives now at the input of a class wins a path: it is idle, its channel stands under no alert, and nothing waits at input 14, or at this input or above to be moved (R213, R214). -/
def pathTakes (h : Hw) (pc cls : Nat) : Bool :=
  let s := pcSt h pc
  let k := chSt h (chOf pc)
  let i := inputOf h (trkOf pc) cls
  s.granted.isNone && k.alert.isNone && s.excess == 0 && s.emergency.isEmpty && !s.trr.any (fun r => r.2.2.2) && !(k.retrain && k.retrainLate) &&
  !(span i (14 - i)).any (fun n => (inputQ h pc n).any (fun x => !isWrite h x)) && !s.cut.any (fun x => decide (i ≤ x.1))

/-- An engine's read of a line of a class may go ahead: the line's die serves it, the class is below its limit on the track, and the access wins its path if it needs one; else it stays in its stream unit (R209, R210, R213). -/
def engUp (h : Hw) (cls line : Nat) : Bool :=
  lineUp h line && underLimit h (entTrack (route h (line / 1024))) cls && (!inArray h line || pathTakes h (pPc (physOf (route h (line / 1024)) line)) cls)

/-- An engine's write of a line may go ahead: it needs no path, but room in the write queue (R216). -/
def writeUp (h : Hw) (cls line : Nat) : Bool :=
  let e := route h (line / 1024)
  lineUp h line && underLimit h (entTrack e) cls && (entReleased e || wqRoom h (physOf e line))

/-! Speculative reads (R243). -/

/-- A stream unit of an engine reads one line ahead: outstanding from its grant to its line, which one event holds (R209, R243, assumption 46). -/
def readAhead (c : Core) (e su cls offset line : Nat) : Core :=
  let (h, en) := resolve c.hw line
  let c : Core := { c with hw := h }
  let t := entTrack en
  if !engUp c.hw cls line then c
  else
    let n := physOf en line
    let known := thas c.hw.chans.specPoison n
    let (c, d, p) := if entReleased en then (c, 0#512, false) else readLine (c.onHw (fun h => countGrant h cls line)) n 0 true
    c.onHw (fun h =>
      let h := if !known && thas h.chans.specPoison n then bump h 0x6030 5 else h
      let h := bump (countLines h t cls 1) 0x6030 3
      setStream h e su (fun s => { s with ahead := s.ahead ++ [⟨offset, line, d, p⟩] }))

/-! Locks (R247). -/

/-- The line address of a held lock. -/
def lockLine (k : Nat) : Nat := k % 2 ^ 31

/-- The engine, other than `e`, that holds the lock of a line. -/
def lockedBy (h : Hw) (e line : Nat) : Option Nat :=
  (List.range 32).find? (fun g => g != e && (engine h g).locks.any (fun k => lockLine k == line))

/-! ATOMIC-BATCH (R231, R246). -/

/-- Acknowledges a record of an ATOMIC-BATCH part in its position journal (R246). -/
def ackRecord (k : Nat) (applied poisoned : Bool) (pt : Part) : Part :=
  let acked := k :: pt.acked
  let low := (List.range (acked.length + 1)).foldl (fun l _ => if acked.contains l then l + 1 else l) pt.low
  { pt with low := low, acked := acked.filter (fun p => decide (low ≤ p)), finding := { pt.finding with a := pt.finding.a + bit applied, poison := pt.finding.poison || poisoned } }

/-- A record whose index lies beyond W2 is counted (R231). -/
def skipRecord (pt : Part) : Part := { pt with finding := { pt.finding with b := pt.finding.b + 1 } }

/-- Records of a part that wait in read-modify-write units. -/
def unacked (h : Hw) (j i : Nat) : Nat :=
  (h.chans.chs.map (fun e => (e.2.rmw.filter (fun r => match r with | .batch j' i' .. => j' == j && i' == i | _ => false)).length)).sum

/-- The line of an entry of a unit. -/
def rmwLineOf : Rmw → Nat
  | .host _ line => line
  | .batch _ _ _ line .. => line

/-- A unit takes an access to a line: it holds the line, or fewer than 16 lines (R118). -/
def rmwRoom (h : Hw) (ch line : Nat) : Bool :=
  let ls := ((chSt h ch).rmw.map rmwLineOf).eraseDups
  ls.contains line || decide (ls.length < 16)

/-- Issues the `k`-th record of a part: acknowledged at once when it changes nothing, else to the unit of its line's channel. Answers whether it could. -/
def issueRecord (c : Core) (j i e k : Nat) (q : Job) (p : Part) : Core × Bool :=
  let d := q.desc
  match recordAt d p.parcels k with
  | none => (c, false)
  | some pos =>
    let line := d.w0.base + pos / 4
    let held := (stream (engine c.hw e) 0).held
    let cached := match held with | some x => x.line == line | none => false
    if !cached && !engUp c.hw d.cls line then (c, false)
    else
      let (c, data, poison) := match held with
        | some x => if x.line = line then (c, x.data, x.poison) else streamRead c e 0 d.cls (pos / 4) line
        | none => streamRead c e 0 d.cls (pos / 4) line
      let c := c.onHw (fun h => setStream h e 0 (fun s => { s with held := some ⟨line, data, poison⟩ }))
      let next := fun (c : Core) (f : Part → Part) => (c.onHw (fun h => setPart h j i (fun p => f { p with issue := k + 1 })), true)
      let wide := bitAt d.arg0 4
      let size := if wide then 8 else 4
      let x := lineField data (16 * (pos % 4)) 8
      let a := lineField data (16 * (pos % 4) + 8) size
      if poison then next c (ackRecord k false true)
      else if 64 * d.w2.len ≤ x * size + (size - 1) then next c (fun p => skipRecord (ackRecord k false false p))
      else
        let target := d.w2.base + x * size / 64
        let ch := chOf (pPc (physOf (route c.hw (target / 1024)) target))
        if !rmwRoom c.hw ch target || !underLimit c.hw (ch / 8) d.cls then (c, false)
        else next (c.onHw (fun h => setCh (unitEnter h ch d.cls) ch { chSt h ch with rmw := (chSt h ch).rmw ++ [.batch j i k target (x * size % 64 / 4) (d.arg0 % 4) a wide (bitAt d.arg0 5)] })) id

/-- Issues records of a running part in order, at most 16 of them unacknowledged; the last waits until the part is let go on (R239, R246). -/
def issueRecords (j i : Nat) : Nat → Core → Core
  | 0, c => c
  | fuel + 1, c =>
    match jobAt c.hw j with
    | none => c
    | some q =>
      match q.parts[i]?, (q.parts[i]?).bind Part.engine with
      | some p, some e =>
        let n := recordCount q.desc p.parcels
        if !p.running || p.finished || q.status.isSome || n ≤ p.issue || (!p.granted && n ≤ p.issue + 1) || 16 ≤ unacked c.hw j i then c
        else if p.acked.contains p.issue || decide (p.issue < p.low) then
          issueRecords j i fuel (c.onHw (fun h => setPart h j i (fun p => { p with issue := p.issue + 1 })))
        else
          let (c, ok) := issueRecord c j i e p.issue q p
          if ok then issueRecords j i fuel c else c
      | _, _ => c

/-- Every running ATOMIC-BATCH part issues what it may. -/
def issueAll (c : Core) : Core :=
  (List.range 32).foldl (fun c e =>
    match (engine c.hw e).part with
    | some (j, i) => match jobAt c.hw j with
      | some q => if q.desc.opcode = 8 then issueRecords j i 64 c else c
      | none => c
    | none => c) c

/-! Placement (R237). -/

/-- An engine is a candidate: neither gated nor halted nor resetting. -/
def candidate (h : Hw) (e : Nat) : Bool := decide (engState h e ≤ 1)

/-- The least loaded of engines with room in their part queue, the lowest number on a tie (R237); a full queue is passed over (assumption 169). -/
def leastLoaded (h : Hw) (es : List Nat) : Option Nat :=
  (es.filter (fun e => decide ((engine h e).queue.length < 32))).foldl (fun b e => match b with
    | none => some e
    | some x => if obj h 0x6016 e < obj h 0x6016 x then some e else some x) none

/-- The tracks by Ringroad hops from one, the lower number first on a tie. -/
def nearTracks (t : Nat) : List Nat := ((List.range 6).map (fun d => (List.range 8).filter (fun u => u != t && ringHops t u == d))).flatten

/-- The engine a part of a track goes to, if one can take it now. -/
def chooseEngine (h : Hw) (t : Nat) : Option Nat :=
  let mine := (trackEngines t).filter (candidate h)
  if !mine.isEmpty then leastLoaded h mine
  else if domainState h (engDomain t) != 0 then none
  else match (nearTracks t).find? (fun u => (trackEngines u).any (candidate h)) with
    | some u => leastLoaded h ((trackEngines u).filter (candidate h))
    | none => none

/-- Places a part, or lets it wait for an engine. -/
def placePart (h : Hw) (r : Nat × Nat) : Hw :=
  match jobAt h r.1 with
  | some q =>
    match q.parts[r.2]? with
    | some p =>
      match chooseEngine h p.track with
      | some e =>
        let h := setPart h r.1 r.2 (fun p => { p with engine := some e, running := false })
        showLines (setEngine h e { engine h e with queue := (engine h e).queue ++ [r] }) e
      | none => setJobs h { h.jobs with waiting := h.jobs.waiting ++ [r] }
    | none => h
  | none => h

/-- Parts that wait for an engine are tried again, oldest first. -/
def placeWaiting (h : Hw) : Hw :=
  let ws := h.jobs.waiting
  ws.foldl placePart (setJobs h { h.jobs with waiting := [] })

/-- Takes a part off its engine, or out of the queue or the wait for one. -/
def unplace (h : Hw) (r : Nat × Nat) : Hw :=
  let h := setJobs h { h.jobs with waiting := h.jobs.waiting.filter (· != r) }
  (List.range 32).foldl (fun h e =>
    let g := engine h e
    if g.part = some r then stopPart h e
    else if g.queue.contains r then showLines (setEngine h e { g with queue := g.queue.filter (· != r) }) e
    else h) h

/-- A part's work is done; its engine is free. -/
def finishPart (h : Hw) (r : Nat × Nat) : Hw :=
  placeWaiting (setPart (unplace h r) r.1 r.2 (fun p => { p with finished := true, running := false, engine := none }))

/-- A job ends: its parts stop, its records not yet applied are dropped; its completion is still to be sent (R240, R245, R248, R250). -/
def endJob (h : Hw) (j status : Nat) (result : Option Nat) : Hw :=
  match jobAt h j with
  | none => h
  | some q =>
    let h := (List.range q.parts.length).foldl (fun h i => unplace h (j, i)) h
    let h := dropBatch (fun j' _ => j' == j) h
    placeWaiting (onJob h j (fun q => { q with status := some status, result := result, parts := [] }))

/-- Result slot of a job that ends early: zero for KERNEL (R275), none else. -/
def noResult (q : Job) : Option Nat := if q.desc.opcode = 10 then some 0 else none

/-- A batch part with every record acknowledged is done; when it was the last of a committed job, the job ends (R239). -/
def batchDone (h : Hw) (j i : Nat) : Hw :=
  match jobAt h j with
  | some q =>
    match q.parts[i]? with
    | some p =>
      let n := recordCount q.desc p.parcels
      if p.finished || p.low < n || p.issue < n || !p.granted then h
      else
        let h := finishPart h (j, i)
        onJob h j (fun q =>
          if q.parts.all (fun p => p.finished) then
            { q with status := some (bit (q.parts.any (fun p => p.finding.poison)))
                     result := some ((q.parts.map (fun p => p.finding.a)).sum + nextPosition q * 2 ^ 64) }
          else q)
    | none => h
  | none => h

end Sys2Proof.Machine
end

