-- ==== Sys2Proof/Machine/Repair.lean ====
section
/-!
DEFINITION. Lane condition and repair (R89 to R98), withdrawal and return of lanesets, pattern tests and checkers (R87, R88).
-/
namespace Sys2Proof.Machine

/-- A laneset leaves flit assignment (R93, steps 1 and 2): what it was doing ends and its unacknowledged flits wait for the port's other lanesets. -/
def pullOut (h : Hw) (ls st : Nat) (l : Laneset) : Hw :=
  let h := if ls < 16 then fillIdle h ls else h
  let h := setLaneset h ls { l with
    mirror := none, doneSent := none, doneRecv := none, block := none, blockRun := 0, failRun := 0, quiet := false,
    locked := false, goodCw := 0, half := none, rx := none, active := false }
  let h := linkEvent (bump (moveLaneset (moveFlits h ls) ls st) 0x2220 4) 1 ls
  showAdapt (flushPort (checkPort h (portOf h ls)) (portOf h ls)) ls

/-- Withdraws a laneset (R93): no new flits, unacknowledged flits replayed elsewhere, then PATTERN, where an upstream lane starts from its first candidate (R78) and the stack may ask for taps of a downstream one (R79). -/
def withdraw (h : Hw) (ls : Nat) (failed : Option Nat) (retrain : List RetrainReq) : Hw :=
  if !inService h ls || !linkActive h then h
  else
    let l := endMirror ls (laneset h ls)
    let h := pullOut h ls 1 { l with wd := some { failedPos := failed, spareMapped := false, phase := .pattern, retrain := retrain } }
    (span (9 * ls) 9).foldl (if ls < 16 then startTaps else askTaps) h

/-- Waiting requests of a laneset without a spare (R58): with 0x2000:09 the laneset is withdrawn and retrained in place, which serves them all; else they are kept. -/
def serveWithoutSpare (h : Hw) (ls : Nat) : Hw :=
  let q := (laneset h ls).queue
  if q.isEmpty then h
  else if flag h 0x2000 9 then
    if inService h ls && linkActive h then withdraw (setLaneset h ls { laneset h ls with queue := [] }) ls none q else h
  else raise h Src.driftRetrainWaiting

/-- The stripe lane that a position carries. -/
def stripeAt (l : Laneset) (pos : Nat) : Option Nat := l.map.findIdx? (· == pos)

/-- The stack asks for a mirror of a downstream position on the spare (Table 3.8, step 1). -/
def beginMirror (h : Hw) (ls pos stripe spare : Nat) (drift : Bool) : Hw :=
  let h := setLaneset h ls { laneset h ls with mirror := some { stripe := stripe, oldPos := pos, spare := spare, phase := .asked, drift := drift } }
  sendCtl h (.repairReq ls stripe spare)

/-- A waiting request of a position that no longer carries a stripe lane is served: a repair has replaced the lane, and if it has not failed it has since trained with its laneset, which completes its drift retrain (R57). -/
def serveRequest (ls : Nat) (h : Hw) (r : RetrainReq) : Hw :=
  let n := laneOf ls r.pos
  thawLane (if r.drift && bitAt (laneset h ls).usable r.pos && !(lane h n).failed then bump h 0x2115 n else h) n

/-- The served requests of a laneset leave its queue. -/
def dropServed (h : Hw) (ls : Nat) : Hw :=
  let l := laneset h ls
  let served := l.queue.filter (fun r => (stripeAt l r.pos).isNone)
  let h := served.foldl (serveRequest ls) (setLaneset h ls { l with queue := l.queue.filter (fun r => (stripeAt l r.pos).isSome) })
  if served.isEmpty then h else showAdapt h ls

/-- Starts the next waiting request: on the spare, or as R58 says when there is none (R59). -/
def nextRepair (h : Hw) (ls : Nat) : Hw :=
  if ls < 16 || !linkActive h || !inService h ls || (laneset h ls).mirror.isSome then h
  else
    let h := dropServed h ls
    let l := laneset h ls
    match l.queue, l.spare with
    | [], _ => h
    | r :: rs, some sp => beginMirror (setLaneset h ls { l with queue := rs }) ls r.pos ((stripeAt l r.pos).getD 0) sp r.drift
    | _ :: _, none => serveWithoutSpare h ls

/-- The laneset with a request noted: joined to the one that runs or waits for the position, else last in the queue (R59). -/
def noteRequest (l : Laneset) (pos : Nat) (drift : Bool) : Laneset :=
  match l.mirror with
  | some m => if m.oldPos = pos && m.phase != .switched then { l with mirror := some { m with drift := m.drift || drift } } else waits l
  | none => waits l
where
  waits (l : Laneset) : Laneset :=
    if l.queue.any (fun r => r.pos == pos) then { l with queue := l.queue.map (fun r => if r.pos = pos then { r with drift := r.drift || drift } else r) }
    else { l with queue := l.queue ++ [⟨pos, drift⟩] }

/-- A request to repair or retrain a downstream position (R57 to R59, R91): on a free spare at once, else in its turn. Without a spare a drift retrain is handled by R58; a degrading lane waits for a spare (assumption 128). -/
def askRepair (h : Hw) (ls pos : Nat) (drift : Bool) : Hw :=
  let h := if drift then setLane h (laneOf ls pos) { lane h (laneOf ls pos) with retrainAsked := true } else h
  let h := setLaneset h ls (noteRequest (laneset h ls) pos drift)
  if (laneset h ls).spare.isNone && !drift then h else nextRepair h ls

/-- An idle spare fails: the laneset is without a spare, a running mirror ends, and waiting requests are handled by R58 (R92, R97). -/
def loseSpare (h : Hw) (ls : Nat) : Hw :=
  let h := showMap (setLaneset h ls { endMirror ls (laneset h ls) with spare := none }) ls
  nextRepair (raise h Src.spareLost) ls

/-- The idle spare takes the place of a position, before any flit is carried again (R93, step 4). -/
def mapSpare (h : Hw) (ls pos sp : Nat) (w : Withdrawal) : Hw :=
  let l := laneset h ls
  showMap (setLaneset h ls { l with map := l.map.map (fun i => if i = pos then sp else i), spare := none, wd := some { w with failedPos := some pos, spareMapped := true } }) ls

/-- A lane fails in a laneset under withdrawal (R94, R98). In PATTERN the spare will be mapped in its place, but a spare that was to replace a failed lane takes the laneset out of service; later the idle spare can still replace it, unless it has been mapped. -/
def failedInWithdrawal (h : Hw) (ls pos : Nat) (w : Withdrawal) : Hw :=
  let l := laneset h ls
  if w.phase = .pattern then
    if l.spare == some pos && w.failedPos.isSome then outOfService h ls
    else if w.failedPos.isNone then setLaneset h ls { l with wd := some { w with failedPos := some pos } } else h
  else if (stripeAt l pos).isSome then
    match l.spare with
    | some sp => if w.spareMapped then outOfService h ls else mapSpare h ls pos sp w
    | none => outOfService h ls
  else if l.spare == some pos then loseSpare h ls
  else h

/-- A lane has failed (Table 3.7, R92 to R98). Before ACTIVE its laneset waits: LOCK leaves it unlocked, and from EXCHANGE it is withdrawn on entry into ACTIVE (assumption 129). -/
def laneFailed (h : Hw) (ln : Nat) : Hw :=
  let ls := ln / 9
  let pos := ln % 9
  let h := setLane h ln { lane h ln with failed := true, locked := false, pairRun := 0 }
  let l := laneset h ls
  let h :=
    if !linkActive h then h
    else match lsState h ls with
    | 0 =>
      if l.spare == some pos then loseSpare h ls
      else if (stripeAt l pos).isSome then (if l.spare.isNone then outOfService h ls else withdraw h ls (some pos) [])
      else h
    | 1 => match l.wd with
      | some w => if w.failedPos == some pos && !w.spareMapped then h else failedInWithdrawal h ls pos w
      | none => h
    | _ => h
  showAdapt h ls

/-- Every mapped downstream lane is out of lock (R86); the electrical idle of a parked laneset tells nothing (assumption 130). -/
def allLost (h : Hw) : Bool :=
  let ks := (span 16 8).filter (fun k => lsState h k != 3)
  let out := fun (k i : Nat) => (lane h (laneOf k i)).lost || (lsState h k == 2 && !(lane h (laneOf k i)).locked)
  !ks.isEmpty && ks.all (fun k => (laneset h k).map.all (out k))

/-- A loss of lock on the lane tells something: pilots run from LOCK on, and its laneset is neither parked, about to be, nor in a pattern test (R39, R89, R136). -/
def heard (h : Hw) (ln : Nat) : Bool :=
  awake h && decide (2 ≤ linkState h) && decide (linkState h ≤ 4) && lsState h (ln / 9) != 3 && lsState h (ln / 9) != 4 &&
  !(laneset h (ln / 9)).parkSeen

/-- The lane is judged: its laneset is not in the PATTERN of a withdrawal either. -/
def judged (h : Hw) (ln : Nat) : Bool := heard h ln && !inPhase h (ln / 9) .pattern

/-- A lane's pilots are lost (R52). When the first lost lane has withdrawn its laneset, the others of it still count towards the loss of all at once (R86). -/
def lockLost (ln : Nat) (h : Hw) : Hw :=
  if !heard h ln then h
  else
    let h := raise (bump (setLane h ln { lane h ln with lost := true }) 0x2118 ln) Src.laneLockLost
    let h := linkEvent h 2 (ln / 9)
    let h := if judged h ln then laneFailed h ln else showAdapt h (ln / 9)
    if allLost h then startDetect h (startRate h) else h

def execLaneLockLost (ln : Nat) (s : State) : Host.Outcome State Fault Refusal :=
  runHw (wfLaneLockLost ln) (lockLost ln) s

/-- Pairing errors in four consecutive frames fail a lane (R72). -/
def pairingFailed (ln : Nat) (h : Hw) : Hw := if judged h ln && decide (4 ≤ (lane h ln).pairRun) then laneFailed h ln else h

def execLanePairingFailure (ln : Nat) (s : State) : Host.Outcome State Fault Refusal :=
  runHw (wfLanePairingFailure ln) (pairingFailed ln) s

/-- A window of 2^20 bits ends: the lane is failed, degrading or healthy by its corrected bits (Table 3.7). -/
def windowEnd (ln : Nat) (h : Hw) : Hw :=
  if !judged h ln then h
  else
    let n := (lane h ln).windowBits
    let h := setLane h ln { lane h ln with windowBits := 0 }
    if n ≥ obj h 0x2220 2 then laneFailed h ln
    else if n ≥ obj h 0x2220 1 then askRepair h (ln / 9) (ln % 9) false
    else h

def execLaneWindowEnd (ln : Nat) (s : State) : Host.Outcome State Fault Refusal :=
  runHw (wfLaneWindowEnd ln) (windowEnd ln) s

/-- A mapped lane has no pilot lock 1 µs after its laneset's wake: it is failed (R89). -/
def wakeLockTimeout (ln : Nat) (h : Hw) : Hw :=
  if judged h ln && inService h (ln / 9) && (stripeAt (laneset h (ln / 9)) (ln % 9)).isSome && !(lane h ln).locked then laneFailed h ln else h

def execWakeLockTimeout (ln : Nat) (s : State) : Host.Outcome State Fault Refusal :=
  runHw (wfWakeLockTimeout ln) (wakeLockTimeout ln) s

def execLanesetWithdrawal (ls : Nat) (failed : Option Nat) (s : State) : Host.Outcome State Fault Refusal :=
  runHw (wfLanesetWithdrawal ls failed) (fun h => if awake h then withdraw h ls failed [] else h) s

/-! Hitless repair (Table 3.8). -/

/-- The sender wakes a laneset it has parked (R99). -/
def wakeLaneset (ls : Nat) (h : Hw) : Hw :=
  if lsState h ls == 3 then
    let h := bump (moveLaneset h ls 0) 0x2240 ls
    let h := startStream (setLaneset h ls { laneset h ls with wakeSent := true, parkWait := false }) ls
    flushPort (sendWake h ls) (portOf h ls)
  else h

/-- REPAIR_REQ received: the stack mirrors a stripe lane of an upstream laneset on its spare (step 2); a parked laneset is woken first (R136). -/
def repairReq (ls stripe pos : Nat) (h : Hw) : Hw :=
  if !awake h then h
  else
    let h := fillIdle (wakeLaneset ls h) ls
    let l := laneset h ls
    if inService h ls && l.mirror.isNone && l.spare == some pos then
      let h := setLaneset h ls { l with mirror := some { stripe := stripe, oldPos := l.map.getD stripe 0, spare := pos, phase := .training } }
      sendCtl h (.mirrorOn ls stripe pos l.cwCount)
    else h

def execRepairReq (ls stripe pos : Nat) (s : State) : Host.Outcome State Fault Refusal :=
  runHw (wfRepairReq ls stripe pos) (repairReq ls stripe pos) s

/-- MIRROR_ON received: the stack trains the spare's receiver on the mirrored symbols (step 3). -/
def mirrorOn (ls stripe : Nat) (h : Hw) : Hw :=
  let l := laneset h ls
  match l.mirror with
  | some m => if awake h && m.phase == .asked && m.stripe == stripe then setLaneset h ls { l with mirror := some { m with phase := .training } } else h
  | none => h

def execMirrorOn (ls stripe pos count : Nat) (s : State) : Host.Outcome State Fault Refusal :=
  runHw (wfMirrorOn ls stripe pos count) (mirrorOn ls stripe) s

/-- The spare is trained: SWITCH names a codeword count 64 ahead (step 4). -/
def spareTrained (ls : Nat) (t : Trained) (h : Hw) : Hw :=
  let l := laneset h ls
  match l.mirror with
  | some m =>
    if awake h && m.phase == .training && t.pos == m.spare then
      let at_ := (l.cwCount + 64) % 4294967296
      let h := storeTrained h ls t
      let h := setLaneset h ls { laneset h ls with mirror := some { m with phase := .switching, switchAt := at_ } }
      sendCtl h (.switch ls m.stripe m.spare at_)
    else h
  | none => h

def execSpareTrained (ls : Nat) (t : Trained) (s : State) : Host.Outcome State Fault Refusal :=
  runHw (wfSpareTrained ls t) (spareTrained ls t) s

/-- SWITCH received: the codeword of the switch of an upstream laneset is noted (step 4). -/
def takeSwitch (ls stripe count : Nat) (h : Hw) : Hw :=
  let l := laneset h ls
  match l.mirror with
  | some m => if awake h && m.phase == .training && m.stripe == stripe then setLaneset h ls { l with mirror := some { m with phase := .switching, switchAt := count } } else h
  | none => h

def execSwitch (ls stripe pos count : Nat) (s : State) : Host.Outcome State Fault Refusal :=
  runHw (wfSwitch ls stripe pos count) (takeSwitch ls stripe count) s

/-- The stripe lane moves to the spare's position and the old position becomes the spare. -/
def switchMap (l : Laneset) (m : Mirror) : Laneset :=
  { l with map := l.map.set m.stripe m.spare, spare := some m.oldPos }

/-- The named codeword is reached: the stripe lane is taken from the spare and REPAIR_DONE is sent (steps 4 and 5). -/
def switchOver (ls : Nat) (h : Hw) : Hw :=
  let l := laneset h ls
  match l.mirror with
  | some m =>
    if awake h && m.phase == .switching then
      let h := bump (setLaneset h ls { switchMap l m with mirror := some { m with phase := .switched } }) 0x2220 3
      sendCtl (showMap h ls) (.repairDone ls m.stripe m.oldPos)
    else h
  | none => h

def execSpareSwitchOver (ls : Nat) (s : State) : Host.Outcome State Fault Refusal :=
  runHw (wfSpareSwitchOver ls) (switchOver ls) s

/-- REPAIR_DONE received: the old position of an upstream laneset becomes an idle spare (step 5). -/
def repairDone (ls stripe : Nat) (h : Hw) : Hw :=
  let l := laneset h ls
  match l.mirror with
  | some m =>
    if awake h && m.phase == .switching && m.stripe == stripe then
      showMap (bump (setLaneset h ls { switchMap l m with mirror := none }) 0x2220 3) ls
    else h
  | none => h

def execRepairDone (ls stripe pos : Nat) (s : State) : Host.Outcome State Fault Refusal :=
  runHw (wfRepairDone ls stripe pos) (repairDone ls stripe) s

/-- The replaced lane has trained as the new spare: a drift retrain is counted, and the next request starts (R57, R59). -/
def retrainComplete (ls : Nat) (t : Trained) (h : Hw) : Hw :=
  let l := laneset h ls
  match l.mirror with
  | some m =>
    if awake h && m.phase == .switched then
      let n := laneOf ls m.oldPos
      let h := storeTrained h ls { t with pos := m.oldPos }
      let h := if m.drift then bump h 0x2115 n else h
      let h := thawLane h n
      showAdapt (nextRepair (setLaneset h ls { laneset h ls with mirror := none }) ls) ls
    else h
  | none => h

def execBackgroundRetrainComplete (ls : Nat) (t : Trained) (s : State) : Host.Outcome State Fault Refusal :=
  runHw (wfBackgroundRetrainComplete ls t) (retrainComplete ls t) s

/-! Withdrawal messages (R93). -/

/-- TRAIN received: it wakes a parked laneset (R136), starts the withdrawal of one in service, and carries a back-channel message. -/
def takeTrain (ls : Nat) (msg : BcMsg) (h : Hw) : Hw :=
  if !awake h then h
  else
    let h := if ls < 16 then wakeLaneset ls h else h
    let h := if inService h ls then withdraw h ls none [] else h
    match msg with
    | .setPreset pos n => requestTaps ls pos (preset n) h
    | .setTaps pos cm2 cm1 c0 cp1 cp2 => requestTaps ls pos [cm2, cm1, c0, cp1, cp2] h
    | .reply pos st => takeReply ls pos st h
    | .done mask => if ls < 16 then takeDone ls mask h else h
    | _ => h

def execTrain (ls : Nat) (msg : BcMsg) (s : State) : Host.Outcome State Fault Refusal :=
  runHw (wfTrain ls msg) (takeTrain ls msg) s

/-! Pattern tests (R88). -/

/-- A laneset is withdrawn and carries a test pattern; for a downstream one the host is asked to send it. -/
def startTest (h : Hw) (ls pattern : Nat) : Hw :=
  let h := pullOut h ls 4 { endMirror ls (laneset h ls) with wd := none, test := pattern }
  if ls < 16 then emit h (.pattern ls pattern) else sendCtl h (.testStart ls pattern)

/-- The test ends: the laneset returns through LOCK and EXCHANGE. -/
def endTest (h : Hw) (ls : Nat) : Hw :=
  if lsState h ls != 4 then h
  else
    let h := toLock (setLaneset (moveLaneset h ls 1) ls { laneset h ls with test := 0, wd := some { failedPos := none, spareMapped := false, phase := .lock } }) ls
    if ls < 16 then h else sendCtl h (.testEnd ls)

/-- TEST_START received: the host asks for a pattern on an upstream laneset. -/
def execTestStart (ls pattern : Nat) (s : State) : Host.Outcome State Fault Refusal :=
  runHw (wfTestStart ls pattern) (fun h => if awake h && linkActive h && inService h ls then startTest h ls pattern else h) s

/-- TEST_END received. -/
def execTestEnd (ls : Nat) (s : State) : Host.Outcome State Fault Refusal :=
  runHw (wfTestEnd ls) (fun h => if awake h then endTest h ls else h) s

/-- Compared bits and errors are counted, 48 bits wide and saturating (R87). -/
def countChecker (h : Hw) (ln bits errors : Nat) : Hw :=
  let cap := 2 ^ 48 - 1
  if !(lane h ln).checkerSync then h
  else setObj (setObj h 0x2231 ln 0 (min cap (obj h 0x2231 ln + bits))) 0x2232 ln 0 (min cap (obj h 0x2232 ln + errors))

/-- 32 errors within 256 bits lose synchronisation (R87); `bits` and `errors` were counted until then. -/
def execCheckerSyncLoss (ln bits errors : Nat) (s : State) : Host.Outcome State Fault Refusal :=
  runHw (wfCheckerSyncLoss ln bits errors) (fun h =>
    if awake h then
      let h := countChecker h ln bits errors
      setLane h ln { lane h ln with checkerSync := false }
    else h) s

/-! Quiet idle, parking and wake (R99 to R102, R135, R136). -/

/-- A laneset enters quiet idle: by the stack only when 0x3030:02 allows and the port has nothing to send (R135). Adaptation freezes (R54); the repeat of a REPLAY_REQ ends (R134). -/
def quietEnter (ls : Nat) (h : Hw) : Hw :=
  let l := laneset h ls
  if awake h && linkActive h && inService h ls && !l.quiet && (decide (16 ≤ ls) || (flag h 0x3030 2 && (port h (portOf h ls)).wait.isEmpty && (port h (portOf h ls)).replay.isEmpty)) then
    let h := if ls < 16 then fillIdle h ls else h
    showAdapt (bump (setLaneset h ls { laneset h ls with quiet := true, replayWait := false }) 0x3032 ls) ls
  else h

def execQuietIdleEnter (ls : Nat) (s : State) : Host.Outcome State Fault Refusal :=
  runHw (wfQuietIdleEnter ls) (quietEnter ls) s

/-- The first even frame that is not quiet ends quiet idle. -/
def quietExit (ls : Nat) (h : Hw) : Hw :=
  if awake h && (laneset h ls).quiet then showAdapt (setLaneset h ls { laneset h ls with quiet := false, parity := true }) ls else h

def execQuietIdleExit (ls : Nat) (s : State) : Host.Outcome State Fault Refusal :=
  runHw (wfQuietIdleExit ls) (quietExit ls) s

/-- The LINK stop step of a sleep entry parks every upstream laneset (Table 11.7). -/
def sleepParks (h : Hw) : Bool := match h.power.sleep with | some q => q.stopping && q.stopped == 4 | none => false

/-- Power management calls for parking a laneset: in IDLE, by step 4 of the power cap, or in a sleep entry (R136, R312, R314). -/
def parkCalled (h : Hw) (ls : Nat) : Bool := obj h 0x7000 1 == 1 || h.power.actions.contains (.park ls) || sleepParks h

/-- The stack may park an upstream laneset: 0x3031 permits it and another upstream laneset of the port stays in service (R136). -/
def mayPark (h : Hw) (ls : Nat) : Bool :=
  linkActive h && inService h ls && flag h 0x3031 (portOf h ls) &&
  (portUps h (portOf h ls)).any (fun k => k != ls && inService h k && !(laneset h k).parkWait)

/-- Parking, step 1: no DATA flit is assigned any more. -/
def parkStart (ls : Nat) (h : Hw) : Hw :=
  if awake h && mayPark h ls && parkCalled h ls then setLaneset h ls { laneset h ls with parkWait := true } else h

/-- A parking that the call in IDLE begins ends with that call (R312). -/
def parkFor (ls : Nat) (h : Hw) : Hw :=
  let h := parkStart ls h
  if obj h 0x7000 1 == 1 && (laneset h ls).parkWait && !h.power.parkedFor.contains ls && !h.power.actions.contains (.park ls) then
    setPower h { h.power with parkedFor := h.power.parkedFor ++ [ls] }
  else h

def execLanesetPark (ls : Nat) (s : State) : Host.Outcome State Fault Refusal :=
  runHw (wfLanesetPark ls) (parkFor ls) s

/-- Parking, steps 3 and 4: every flit is acknowledged, two PARK flits are sent, electrical idle follows. A laneset that may no longer park takes flits again. -/
def parkFlits (ls : Nat) (h : Hw) : Hw :=
  let l := laneset h ls
  if !(awake h && inService h ls && l.parkWait) then h
  else if !(sleepParks h || (mayPark h ls && parkCalled h ls)) then flushPort (setLaneset h ls { l with parkWait := false }) (portOf h ls)
  else if l.retry.isEmpty then
    let h := sendFlit (sendFlit (setLaneset h ls { l with parkWait := false }) ls .park) ls .park
    bump (moveLaneset h ls 3) 0x3033 ls
  else h

def execParkFlitsSend (ls : Nat) (s : State) : Host.Outcome State Fault Refusal :=
  runHw (wfParkFlitsSend ls) (parkFlits ls) s

/-- A PARK flit received: the electrical idle that follows is parking (R136). -/
def takePark (ls : Nat) (h : Hw) : Hw :=
  if awake h && inService h ls then
    bump (moveLaneset (setLaneset h ls { laneset h ls with parkSeen := true, replayWait := false, wakeFirst := none }) ls 3) 0x3033 ls
  else h

def execParkFlit (ls : Nat) (s : State) : Host.Outcome State Fault Refusal :=
  runHw (wfParkFlit ls) (takePark ls) s

def execLanesetWake (ls : Nat) (s : State) : Host.Outcome State Fault Refusal :=
  runHw (wfLanesetWake ls) (fun h => if awake h then wakeLaneset ls h else h) s

/-- No flit of a woken laneset is acknowledged within 1 µs: the whole wake sequence again (R101). -/
def execWakeAckTimeout (ls : Nat) (s : State) : Host.Outcome State Fault Refusal :=
  runHw (wfWakeAckTimeout ls) (fun h => if awake h && (laneset h ls).wakeSent then sendWake h ls else h) s

/-- A downstream laneset listens for a wake: it is parked, or the stack sleeps with its link parked. -/
def listening (h : Hw) (ls : Nat) : Bool := h.mode == .run && lsState h ls == 3

/-- A detector fires on a run of at least 16 alternating symbols that ends at symbol `last`: a window of 96 more symbols opens, or opens anew without counting a false reception (R100, R102). -/
def detectorFire (ln last : Nat) (h : Hw) : Hw :=
  if !listening h (ln / 9) then h
  else
    let h := if (lane h ln).window.isSome then bump h 0x2242 (ln / 9) else h
    setLane h ln { lane h ln with window := some (last + 96) }

def execWakeDetectorFire (ln : Nat) (s : State) (run : Nat := 16) (last : Nat := 0) : Host.Outcome State Fault Refusal :=
  runHw (wfWakeDetectorFire ln run last) (detectorFire ln last) s

/-- A window closes without recognition: a false reception (R100). -/
def windowClose (ln : Nat) (h : Hw) : Hw :=
  if (lane h ln).window.isSome then bump (setLane h ln { lane h ln with window := none }) 0x2241 (ln / 9) else h

def execAcquisitionWindowClose (ln : Nat) (s : State) : Host.Outcome State Fault Refusal :=
  runHw (wfAcquisitionWindowClose ln) (windowClose ln) s

/-- Recognitions older than 128 symbols count no more: the one at `last` is then the first (R100). -/
def wakeSpan (h : Hw) (ls last : Nat) : Hw :=
  let l := laneset h ls
  if l.wakeFirst.any (fun f => decide (last ≤ f + 128)) then h
  else (List.range 9).foldl (fun h i => setLane h (laneOf ls i) { lane h (laneOf ls i) with wakeSeen := false }) (setLaneset h ls { l with wakeFirst := some last })

/-- A laneset wakes: the lanes that recognised the wake word are in lock, its first frame is even (R99, R100). -/
def wakeReceived (h : Hw) (ls : Nat) : Hw :=
  let h := (List.range 9).foldl (fun h i =>
    let n := laneOf ls i
    setLane h n { lane h n with locked := (lane h n).wakeSeen, wakeSeen := false, window := none }) h
  let h := setLaneset h ls { laneset h ls with wakeFirst := none, parkSeen := false, parity := true, half := none }
  bump (moveLaneset h ls 0) 0x2240 ls

/-- The correlator compares 32 symbols, the last of which is symbol `last`, with the wake word; recognised within an open window on five mapped lanes, within 128 symbols of the first, it wakes the laneset (R100). Answers whether it woke. -/
def wakeWord (h : Hw) (ln : Nat) (signs : List Bool) (last : Nat) : Hw × Bool :=
  let ls := ln / 9
  let l := laneset h ls
  if !listening h ls || !wakeRecognised signs || (stripeAt l (ln % 9)).isNone || !(lane h ln).window.any (fun e => decide (last ≤ e)) then (h, false)
  else
    let h := wakeSpan h ls last
    let h := setLane h ln { lane h ln with window := none, wakeSeen := true }
    if (l.map.filter (fun i => (lane h (laneOf ls i)).wakeSeen)).length < 5 then (h, false)
    else (wakeReceived h ls, true)

end Sys2Proof.Machine
end

