-- ==== Sys2Proof/Machine/Exchange.lean ====
section
/-!
DEFINITION. The exchange of capability blocks, of the whole link or of a withdrawn laneset (R82 to R86, R93), the entry into
ACTIVE, and the return of a withdrawn laneset.
-/
namespace Sys2Proof.Machine

/-- The lanes a receiver asks to be precoded, by the policy of 0x2200:0A that this bring-up uses (Table 3.5, R104). -/
def precodeMask (h : Hw) : Nat :=
  match h.link.up.precode with
  | 0 => 0
  | 1 => if attemptRate h = 0 then 511 else 0
  | _ => 511

/-- Mask of the positions of a laneset whose polarity was found inverted. -/
def polarityMask (h : Hw) (ls : Nat) : Nat := ((List.range 9).map (fun i => bit (flag h 0x2203 (laneOf ls i)) * 2 ^ i)).sum

/-- The capability block that describes a downstream laneset (Table 3.5). -/
def capBlock (h : Hw) (ls ports : Nat) : Nat :=
  let l := laneset h ls
  0x01 + 1 * 2 ^ 8 + 1 * 2 ^ 25 + (ls - 16) * 2 ^ 26 + ratesOf h * 2 ^ 32 + attemptRate h * 2 ^ 35 + ports * 2 ^ 37 +
  l.usable * 2 ^ 40 + polarityMask h ls * 2 ^ 49 + obj h 0x2204 ls * 2 ^ 58 + precodeMask h * 2 ^ 64 +
  (match l.spare with | some p => p | none => 15) * 2 ^ 76 +
  ((List.range 8).map (fun s => l.map.getD s 0 * 2 ^ (4 * s))).sum * 2 ^ 80 + 64 * 2 ^ 112

/-- The upstream laneset that carries a block at home on UPj: UPj, or the first that takes flits when it does not (R83, R96). -/
def blockCarrier (h : Hw) (j : Nat) : Option Nat := if takesFlits h j then some j else (List.range 16).find? (takesFlits h)

/-- Sends the block of a downstream laneset on its home UPj (R83). -/
def sendBlock (ports : Nat) (h : Hw) (j : Nat) : Hw :=
  match blockCarrier h j with
  | some k => sendCapability h k (capBlock h (16 + j / 2) ports)
  | none => h

/-- Sends the block for DN(j div 2) on every UPj. -/
def sendBlocks (h : Hw) (ports : Nat) : Hw := (List.range 16).foldl (sendBlock ports) h

/-- All receive lanesets in service are locked. -/
def allLocked (h : Hw) : Bool := (span 16 8).all (fun k => !inService h k || (laneset h k).locked)

/-- Goes on to EXCHANGE when every receive laneset in service is locked (R82). -/
def tryExchange (h : Hw) : Hw :=
  if linkState h == 2 && allLocked h then sendBlocks (setLinkState h 3) 3 else h

/-- Sixteen good codewords lock a receive laneset whose mapped lanes hold pilot lock (R81). In a withdrawal it then sends its own block, final from the start, twice (R85, R93). -/
def lanesetLocked (ls : Nat) (h : Hw) : Hw :=
  let l := laneset h ls
  if awake h && inLock h ls && decide (16 ≤ l.goodCw) && l.map.all (fun i => (lane h (laneOf ls i)).locked) then
    match l.wd with
    | some w =>
      let h := setLaneset h ls { l with locked := true, wd := some { w with phase := .exchange }, block := none, blockRun := 0 }
      let j := 2 * (ls - 16)
      sendBlock (portsCode h) (sendBlock (portsCode h) h j) j
    | none => tryExchange (setLaneset h ls { l with locked := true })
  else h

def execLanesetLocked (ls : Nat) (s : State) : Host.Outcome State Fault Refusal :=
  runHw (wfLanesetLocked ls) (lanesetLocked ls) s

/-- LOCK runs past 1 ms: lanesets with an unlocked mapped lane are out of service, and so is one whose lanes hold pilot lock but which has not had 16 good codewords (assumption 154); the rest goes on, or the attempt fails when no downstream laneset is left (R82, R86). In a withdrawal the laneset goes out of service (assumption 127). -/
def lockTimeout (ls : Option Nat) (h : Hw) : Hw :=
  match ls with
  | none =>
    if awake h && linkState h == 2 then
      let h := (span 16 8).foldl (fun h k => if inService h k && !(laneset h k).locked then moveLaneset h k 2 else h) h
      if (span 16 8).any (inService h) then tryExchange h else failAttempt h
    else h
  | some k => if awake h && inPhase h k .lock && !(laneset h k).locked then outOfService h k else h

def execLockTimeout (s : State) (ls : Option Nat := none) : Host.Outcome State Fault Refusal :=
  runHw (wfLockTimeout ls) (lockTimeout ls) s

/-! Entry into ACTIVE. -/

/-- Receive buffer sizes in slots (Table 4.12). -/
def reqBuffer (h : Hw) : Nat := match portsCode h with | 0 => 4096 | 1 => 2048 | _ => 1024

/-- Slots a request fills in the REQ buffer (R111). -/
def reqSlots : Req → Nat
  | .wr _ _ _ _ _ _ data => 1 + 4 * data.length
  | .atom .. => 2
  | _ => 1

/-- Slots an MGT operation fills. -/
def mgtSlots (b : List Byte) : Nat := 1 + (b.length + 15) / 16

/-- A port starts with the link: sequence numbers and credits from zero, the whole of its free buffers to return (R127, R128). -/
def startPort (h : Hw) (p : Nat) : Hw :=
  let q := port h p
  let h := setObj h 0x3011 p 0 0
  let h := setPort h p { q with expect := 0, nextSeq := 0, lastAck := 0xFFF, early := [], mgtCredits := 0, replay := [], down := false, retReq := reqBuffer h - (q.req.map (fun r => reqSlots r.req)).sum, retJob := 1280 - (q.job.map (fun d => d.length / 16)).sum, retMgt := 64 - (q.mgt.map mgtSlots).sum }
  if (portUps h p).any (inService h) && (portDns h p).any (inService h) then setActive h Src.portDown false
  else
    let h := raise (setPort h p { port h p with down := true }) Src.portDown { port := p }
    linkEvent (setActive h Src.portDown true) 3 p

/-- An upstream laneset adopts the map, spare and precoding of the block that describes it (R84). -/
def adoptBlock (h : Hw) (ls : Nat) : Hw :=
  match (laneset h ls).block with
  | none => h
  | some b =>
    let map := (List.range 8).map (fun s => field b (83 + 4 * s) (80 + 4 * s))
    let spare := if field b 79 76 = 15 then none else some (field b 79 76)
    let h := (List.range 9).foldl (fun h i => setObj h 0x2205 (laneOf ls i) 0 (bit (bitAt b (64 + i)))) h
    let h := (List.range 9).foldl (fun h i => setObj h 0x2203 (laneOf ls i) 0 (bit (bitAt b (49 + i)))) h
    showMap (setLaneset (setObj h 0x2204 ls 0 (bit (bitAt b 58))) ls { laneset h ls with map := map, spare := spare }) ls

/-- A downstream laneset's lanes are precoded as the stack asked (R84). -/
def precodeOwn (h : Hw) (ls : Nat) : Hw := (List.range 9).foldl (fun h i => setObj h 0x2205 (laneOf ls i) 0 (bit (bitAt (precodeMask h) i))) h

/-- EXCHANGE is complete: the link enters ACTIVE (R85). A downstream laneset is ACTIVE with its first flit of another type. A lane that failed before is now withdrawn with its laneset (assumption 129), and waiting requests start (R59). -/
def enterActive (h : Hw) (wide : Nat) : Hw :=
  let h := setLinkState h 4
  let h := setObj h 0x2200 7 0 (field wide 38 37)
  let h := setObj (setObj h 0x2200 8 0 (field wide 15 8 * 256)) 0x2200 9 0 (field wide 119 112)
  let h := setObj h 0x3021 1 0 (if field wide 38 37 = 2 then 1 else 0)
  let h := setObj h 0x2200 5 0 ((now h - h.link.up.start) / 1000)
  let h := if obj h 0xC000 1 = 8 then setObj h 0xC000 1 0 (if h.boot.firstCommit then 10 else 9) else h
  let h := if obj h 0xC000 4 = 0 then setObj h 0xC000 4 0 (now h / 1000) else h
  let h := (List.range 16).foldl (fun h k => if inService h k then adoptBlock h k else h) h
  let h := (span 16 8).foldl precodeOwn h
  let h := (List.range 16).foldl (fun h k =>
    let h := fillIdle h k
    setLaneset h k { laneset h k with active := true, cwCount := 0, retry := [], order := [] }) h
  let h := (span 16 8).foldl (fun h k => setLaneset h k { laneset h k with lastSeq := none, failRun := 0, replayWait := false }) h
  let h := (List.range (portCount h)).foldl startPort h
  let h := (List.range (portCount h)).foldl flushPort h
  (span 16 8).foldl nextRepair ((span 144 72).foldl (fun h n => if (lane h n).failed then laneFailed h n else h) h)

/-- The link-wide fields of a host block: RETRY_DEPTH, PORTS, RATE_IN_USE, RATES, revision (R85). -/
def hostWide (b : Nat) : Nat :=
  field b 119 112 * 2 ^ 112 + field b 38 37 * 2 ^ 37 + field b 36 35 * 2 ^ 35 + field b 34 32 * 2 ^ 32 + field b 23 16 * 2 ^ 16 + field b 15 8 * 2 ^ 8

/-- Every laneset the stack drives has two identical blocks, and the final blocks were sent (R85). -/
def exchangeDone (h : Hw) : Bool :=
  h.link.up.echoed && (List.range 16).all (fun k => !inService h k || decide (2 ≤ (laneset h k).blockRun))

/-- What a block says: reserved bits count for nothing (R6). -/
def blockFields (b : Nat) : Nat :=
  field b 119 76 * 2 ^ 76 + field b 72 64 * 2 ^ 64 + field b 58 40 * 2 ^ 40 + field b 38 32 * 2 ^ 32 + field b 29 0

/-- A withdrawn laneset returns to its port (R93, step 6): it takes flits again. The requests that its retraining served are over (R58); the lanes of a downstream laneset count drift retrains (R57). What DATA flit came last is forgotten: a REPLAY_REQ for the laneset names none until one is received (assumption 153). -/
def rejoin (h : Hw) (ls : Nat) : Hw :=
  let h := if ls < 16 then fillIdle h ls else h
  let l := laneset h ls
  let h := setLaneset h ls { l with wd := none, test := 0, active := decide (ls < 16), cwCount := 0, order := [], lastSeq := none, failRun := 0, replayWait := false }
  let h := if ls < 16 then adoptBlock h ls else precodeOwn h ls
  let served := match l.wd with | some w => w.retrain | none => []
  let h := served.foldl (fun h r => if r.drift then thawLane (bump h 0x2115 (laneOf ls r.pos)) (laneOf ls r.pos) else h) (moveLaneset h ls 0)
  flushPort (showAdapt h ls) (portOf h ls)

/-- A host block for a withdrawn upstream laneset, which exchanges blocks for itself alone; link-wide fields that differ from those in force take it out of service (R93). -/
def takeOwnBlock (ls b : Nat) (w : Withdrawal) (h : Hw) : Hw :=
  let l := laneset h ls
  if w.phase == .pattern then h
  else if h.link.up.hostWide != some (hostWide b) then outOfService h ls
  else setLaneset h ls { l with block := some b, blockRun := if l.block = some b then l.blockRun + 1 else 1, wd := some { w with phase := .exchange } }

/-- A host block of the link's EXCHANGE (R84, R85). PORTS = 0b11 is no request: it is never echoed, but its fields hold for later blocks too. -/
def takeLinkBlock (ls b : Nat) (h : Hw) : Hw :=
  let l := laneset h ls
  let run := if l.block = some b then l.blockRun + 1 else 1
  let wide := hostWide b
  if field b 15 8 != 1 || field b 36 35 != attemptRate h || h.link.up.hostWide.any (· != wide) then failAttempt h
  else
    let h := { h with link := { h.link with up := { h.link.up with hostWide := some wide } } }
    let h := setLaneset h ls { l with block := some b, blockRun := run }
    let h :=
      if 2 ≤ run && !h.link.up.echoed && field b 38 37 != 3 then
        let h := { h with link := { h.link with up := { h.link.up with echoed := true } } }
        sendBlocks (sendBlocks h (field b 38 37)) (field b 38 37)
      else h
    if exchangeDone h then enterActive h wide else h

/-- A capability block received on a downstream laneset (R82 to R85, R93); one that the stack itself would send, or for a laneset the stack does not drive, is ignored. -/
def takeBlock (carrier block : Nat) (h : Hw) : Hw :=
  let b := blockFields block
  let ls := field b 29 26
  if !awake h then h
  else
    let h := setLaneset h carrier { laneset h carrier with capSeen := true }
    if bitAt b 25 || !bitAt b 24 then h
    else match (laneset h ls).wd with
      | some w => takeOwnBlock ls b w h
      | none => if linkState h == 3 then takeLinkBlock ls b h else h

def execCapabilityBlock (carrier : Nat) (block : BitVec 512) (s : State) : Host.Outcome State Fault Refusal :=
  runHw (wfCapabilityBlock carrier block) (takeBlock carrier block.toNat) s

/-- EXCHANGE runs past 100 µs: the attempt fails (R85); in a withdrawal the laneset goes out of service (assumption 127). -/
def exchangeTimeout (ls : Option Nat) (h : Hw) : Hw :=
  match ls with
  | none => if awake h && linkState h == 3 then failAttempt h else h
  | some k => if awake h && inPhase h k .exchange then outOfService h k else h

def execExchangeTimeout (s : State) (ls : Option Nat := none) : Host.Outcome State Fault Refusal :=
  runHw (wfExchangeTimeout ls) (exchangeTimeout ls) s

/-- REJOIN received: the host returns a laneset that has exchanged its blocks; no rule names the sender of REJOIN, and the model takes it to be the host (assumption 123). -/
def takeRejoin (ls : Nat) (h : Hw) : Hw :=
  if awake h && inPhase h ls .exchange && (decide (16 ≤ ls) || decide (2 ≤ (laneset h ls).blockRun)) then nextRepair (rejoin h ls) ls else h

def execRejoin (ls : Nat) (s : State) : Host.Outcome State Fault Refusal :=
  runHw (wfRejoin ls) (takeRejoin ls) s

/-- The pause after a failed attempt at 28 GBd ends: bring-up starts again at the start rate (R86). -/
def execLinkDownPauseEnd (s : State) : Host.Outcome State Fault Refusal :=
  runHw true (fun h => if awake h && linkState h == 5 then startDetect h (startRate h) else h) s

end Sys2Proof.Machine
end

