-- ==== Sys2Proof/Machine/Flit.lean ====
section
/-!
DEFINITION. Reception of flits (R106 to R112, R127 to R136): CRC, ACK, replay, delivery in order, slots, link-control messages.
-/
namespace Sys2Proof.Machine

/-! Replay. -/

/-- The retry-buffer entries of a laneset that were sent on it after LAST_SEQ, or all of them when none is named or it is gone (R133). -/
def toResend (l : Laneset) (last : Option Nat) : List TxFlit :=
  let sent := l.order.reverse.takeWhile (fun q => some q != last)
  l.retry.filter (fun f => sent.contains f.seq)

/-- A REPLAY_REQ received: the entries go out again on the laneset, in original order (R133). -/
def resend (ls : Nat) (last : Option Nat) (h : Hw) : Hw :=
  let fs := toResend (laneset h ls) last
  if awake h && linkActive h && takesFlits h ls then
    fs.foldl (fun h f => sendFlit h ls (.data f)) (bumpBy h 0x3003 (portOf h ls) 0 fs.length)
  else h

def execReplayReq (ls : Nat) (last : Option Nat) (s : State) : Host.Outcome State Fault Refusal :=
  runHw (wfReplayReq ls last) (resend ls last) s

/-- The stack sends a REPLAY_REQ for a downstream laneset and waits for an intact flit (R133, R134). -/
def askReplay (h : Hw) (ls : Nat) : Hw :=
  linkEvent (sendReplayReq (setLaneset (bump h 0x3002 (portOf h ls)) ls { laneset h ls with replayWait := true }) ls) 0 ls

/-- No intact flit within 200 ns: the REPLAY_REQ is sent again (R134). -/
def replayRepeat (ls : Nat) (h : Hw) : Hw :=
  if awake h && linkActive h && takesFlits h ls && (laneset h ls).replayWait && !(laneset h ls).quiet then askReplay h ls else h

def execReplayReqRepeat (ls : Nat) (s : State) : Host.Outcome State Fault Refusal :=
  runHw (wfReplayReqRepeat ls) (replayRepeat ls) s

/-- The failed flits of a laneset have reached the limit: it is withdrawn (R134). -/
def replayWithdraw (ls : Nat) (h : Hw) : Hw :=
  if awake h && linkActive h && inService h ls && decide (obj h 0x3010 2 ≤ (laneset h ls).failRun) then
    withdraw (bump h 0x3007 ls) ls none []
  else h

def execRepeatedReplayWithdrawal (ls : Nat) (s : State) : Host.Outcome State Fault Refusal :=
  runHw (wfRepeatedReplayWithdrawal ls) (replayWithdraw ls) s

/-- A received ACK frees the port's retry-buffer entries up to its SEQ (R132). -/
def applyAck (h : Hw) (p ack : Nat) : Hw :=
  let q := port h p
  let d := (ack + 4096 - q.lastAck) % 4096
  if d = 0 || decide (2047 < d) then h
  else
    let held := fun (f : TxFlit) => decide (2048 ≤ (ack + 4096 - f.seq) % 4096)
    let h := setPort h p { q with lastAck := ack, replay := q.replay.filter held }
    let h := (portUps h p).foldl (fun h k =>
      let l := laneset h k
      let rest := l.retry.filter held
      setLaneset h k { l with retry := rest, order := l.order.dropWhile (fun q => rest.all (fun f => f.seq != q)), wakeSent := l.wakeSent && rest.length == l.retry.length }) h
    flushPort h p

/-! Link-control messages (R90). -/

/-- A back-channel message from its eight bytes; none when the CRC-8 fails or the type is reserved (R77). -/
def parseBc (bs : List Byte) : Option BcMsg :=
  let b := fun i => (bs.getD i 0#8).toNat
  let s8 := fun i => toSigned 8 (b i)
  let pos := b 1 / 16
  if crc8 (bs.take 7) != b 7 then none
  else match b 0 with
    | 0 => some .nop
    | 1 => some (.hello (b 2) (b 3))
    | 2 => some (.setPreset pos (b 2))
    | 3 => some (.setTaps pos (s8 2) (s8 3) (s8 4) (s8 5) (s8 6))
    | 4 => some (.reply pos (b 2))
    | 5 => some (.done (b 2 + 256 * (b 3 % 2)))
    | _ => none

/-- A link-control message from its 16 bytes. -/
def parseLinkMsg (bs : List Byte) : Option LinkMsg :=
  let b := fun i => (bs.getD i 0#8).toNat
  let ls := b 1 % 16 + (if bitAt (b 1) 4 then 16 else 0)
  let count := leNat ((bs.drop 4).take 4)
  match b 0 with
  | 1 => some (.repairReq ls (b 2) (b 3))
  | 2 => some (.mirrorOn ls (b 2) (b 3) count)
  | 3 => some (.switch ls (b 2) (b 3) count)
  | 4 => some (.repairDone ls (b 2) (b 3))
  | 5 => (parseBc (bs.drop 8)).map (.train ls ·)
  | 6 => some (.rejoin ls)
  | 7 => some (.testStart ls (b 2))
  | 8 => some (.testEnd ls)
  | 9 => some (.refuse ls)
  | _ => none

/-- REFUSE: the host will not send a test pattern; 0x2233 completes with NOT_READY and the laneset returns (R88). -/
def takeRefuse (ls : Nat) (h : Hw) : Hw :=
  let l := laneset h ls
  if awake h && lsState h ls == 4 then
    let h := endTest (setLaneset h ls { l with testPath := none }) ls
    match l.testPath with
    | some p => finishOp h p { status := .notReady }
    | none => h
  else h

def execRefuse (ls : Nat) (s : State) : Host.Outcome State Fault Refusal :=
  runHw (wfRefuse ls) (takeRefuse ls) s

/-- A checker synchronises (R87). On a downstream laneset under test it shows that the host sends the pattern, which completes 0x2233. -/
def checkerSync (ln : Nat) (h : Hw) : Hw :=
  let ls := ln / 9
  if awake h && obj h 0x2230 ln != 0 then
    let h := setLane h ln { lane h ln with checkerSync := true }
    match (laneset h ls).testPath with
    | some p => finishOp (setLaneset h ls { laneset h ls with testPath := none }) p { status := .ok, total := 4 }
    | none => h
  else h

def execCheckerSync (ln : Nat) (s : State) : Host.Outcome State Fault Refusal :=
  runHw (wfCheckerSync ln) (checkerSync ln) s

/-- Acts on a link-control message from the host; one that names a laneset or position that does not exist, or the wrong direction, is ignored. -/
def linkControl (h : Hw) (m : LinkMsg) : Hw :=
  let up := fun (ls : Nat) => decide (ls < 16)
  let dn := fun (ls : Nat) => decide (16 ≤ ls) && decide (ls < 24)
  match m with
  | .repairReq ls st pos => if up ls && decide (st < 8) && decide (pos < 9) then repairReq ls st pos h else h
  | .mirrorOn ls st _ _ => if dn ls then mirrorOn ls st h else h
  | .switch ls st _ n => if up ls then takeSwitch ls st n h else h
  | .repairDone ls st _ => if up ls then repairDone ls st h else h
  | .train ls b => if ls < 24 then takeTrain ls b h else h
  | .rejoin ls => if ls < 24 then takeRejoin ls h else h
  | .testStart ls n => if up ls && linkActive h && inService h ls && (n == 1 || n == 2) then startTest h ls n else h
  | .testEnd ls => if up ls then endTest h ls else h
  | .refuse ls => if dn ls then takeRefuse ls h else h

/-! Slots (R111 to R120). -/

/-- A protocol error: counted and raised; the rest of the flit is ignored (R112). -/
def protocolError (h : Hw) (p : Nat) : Hw := raise (bump h 0x3005 p) Src.protocolError { port := p }

/-- The lines that data slots carry, four slots each (R113). -/
def linesOf : Nat → List (List Byte) → List Line
  | 0, _ => []
  | n + 1, slots => lineOfBytes (slots.take 4).flatten :: linesOf n (slots.drop 4)

/-- Data slots that a header announces (R111); none for a slot that the host may not send or a reserved type (R112). -/
def announced (v : Nat) : Option Nat :=
  match v % 256 with
  | 0x01 => some 0
  | 0x02 => some (4 * (field v 25 24 + 1))
  | 0x03 => some (4 * (field v 25 24 + 1))
  | 0x04 => some 1
  | 0x05 => some 0
  | 0x06 => some 0
  | 0x07 => some (4 * (field v 9 8 + 1))
  | 0x0C => if 1 ≤ field v 24 16 && decide (field v 24 16 ≤ 256) && field v 12 8 == (field v 24 16 + 15) / 16 then some (field v 12 8) else none
  | 0x0D => some 1
  | 0x0E => some 0
  | _ => none

/-- A request slot with its data (R113, R116, R119, R120). -/
def parseReq (v : Nat) (data : List (List Byte)) : Option Req :=
  let tag := field v 19 8
  let label := field v 22 20
  let line := field v 56 26
  let operand := leNat (data.headD [])
  match v % 256 with
  | 0x01 => some (.rd tag label line (field v 25 24 + 1))
  | 0x02 => some (.wr false tag label line (field v 25 24 + 1) (field v 63 60) (linesOf (field v 25 24 + 1) data))
  | 0x03 => some (.wr true tag label line (field v 25 24 + 1) (field v 63 60) (linesOf (field v 25 24 + 1) data))
  | 0x04 => some (.atom tag label line (field v 60 57) (bitAt v 23) (field v 63 61) (bitAt v 64) (field operand 63 0) (field operand 127 64))
  | 0x05 => some (.fence tag (bitAt v 24))
  | 0x06 => some (.release (bitAt v 20) tag (field v 44 24) (field v 66 45))
  | _ => none

/-- A REQ, JOB or MGT slot that arrives after the TXN stop step of a sleep entry makes LINK refuse (R317). -/
def noteArrival (h : Hw) : Hw :=
  match h.power.sleep with
  | some q => if 2 ≤ q.stopped then setPower h { h.power with sleep := some { q with arrived := true } } else h
  | none => h

/-- Tags of responses that a group carries. -/
def groupTags : TxGroup → List Nat
  | .rsp es _ => es.map RspEntry.tag
  | .arsp tag .. => [tag]
  | _ => []

/-- The tag of a request that expects a response (R113, R119, R120). -/
def reqTag : Req → Option Nat
  | .rd t _ _ _ => some t
  | .wr wrc t _ _ _ _ _ => if wrc then some t else none
  | .atom t _ _ _ _ _ _ _ _ => some t
  | .fence t _ => some t
  | .release cpl t _ _ => if cpl then some t else none

/-- A request with a tag arrives: a tag of a request still in the receive buffer or under way, or whose response waits to be sent, is reused (R115). -/
def noteTag (h : Hw) (p tag : Nat) : Hw :=
  let q := port h p
  if q.tags.contains tag || q.req.any (fun r => reqTag r.req == some tag) || q.wait.any (fun w => (groupTags w.group).contains tag) then
    raise h Src.tagReused { port := p }
  else h

/-- Acts on one slot group of a delivered flit: fills the port's receive buffers, or acts at once (R111, R363). -/
def takeGroup (h : Hw) (p v : Nat) (data : List (List Byte)) : Hw :=
  let h := if decide (v % 256 < 0x08) || v % 256 == 0x0C then noteArrival h else h
  let q := port h p
  match v % 256 with
  | 0x07 =>
    let ds := (List.range (data.length / 4)).map (fun i => ((data.drop (4 * i)).take 4).flatten)
    setPort h p { q with job := q.job ++ ds ++ [leBytes 16 v] }
  | 0x0C =>
    let body := data.flatten.take (field v 24 16)
    if decide (body.length < 16) || bitAt (body.headD 0#8).toNat 7 then
      let h := bump h 0x1040 8
      setPort h p { port h p with retMgt := (port h p).retMgt + mgtSlots body }
    else setPort h p { q with mgt := q.mgt ++ [body] }
  | 0x0D => match parseLinkMsg (data.headD []) with | some m => linkControl h m | none => h
  | 0x0E => resend (field v 11 8) (if bitAt v 24 then none else some (field v 23 12)) h
  | _ => match parseReq v data with
    | some r =>
      let h := match reqTag r with | some t => noteTag h p t | none => h
      setPort h p { q with req := q.req ++ [⟨q.flitAt, r⟩], job := (match r with | .fence _ true => q.job ++ [[]] | _ => q.job) }
    | none => h

/-- Reads slots from slot 0 upward (R111); `idle` restricts the types to those of an IDLE flit (Table 4.3). -/
def takeSlots : Nat → Bool → Nat → List (List Byte) → Hw → Hw
  | 0, _, _, _, h => h
  | _ + 1, _, _, [], h => h
  | fuel + 1, idle, p, s :: rest, h =>
    let v := leNat s
    if v % 256 = 0 then h
    else match announced v with
      | none => protocolError h p
      | some n =>
        if rest.length < n || (idle && v % 256 != 0x0D && v % 256 != 0x0E) then protocolError h p
        else takeSlots fuel idle p (rest.drop n) (takeGroup h p v (rest.take n))

/-- The 31 slots of a flit (R106). -/
def flitSlots (bytes : List Byte) : List (List Byte) :=
  (List.range 31).map (fun n => (bytes.drop (8 + 16 * n)).take 16)

/-! Delivery (R131). -/

/-- Reorder capacity in flits. -/
def reorderCapacity (h : Hw) : Nat := match portsCode h with | 0 => 1024 | 1 => 512 | _ => 256

/-- Delivers one DATA flit: its credits are honoured, its slots taken (R127). -/
def deliverFlit (h : Hw) (p : Nat) (f : RxFlit) : Hw :=
  let hdr := leNat (f.bytes.take 8)
  let h := bump h 0x3001 p
  let h := bumpBy h 0x3011 p 0 (field hdr 45 37)
  let q := port h p
  let h := setPort h p { q with mgtCredits := q.mgtCredits + field hdr 63 55, expect := (q.expect + 1) % 4096, flitAt := f.since }
  takeSlots 31 false p (flitSlots f.bytes) h

/-- Delivers held flits while the expected one is there. -/
def deliverAll : Nat → Hw → Nat → Hw
  | 0, h, _ => h
  | n + 1, h, p =>
    match tfind (port h p).early (port h p).expect with
    | some f =>
      let e := (port h p).expect
      deliverAll n (deliverFlit (setPort h p { port h p with early := tdel (port h p).early e }) p f) p
    | none => h

/-- A DATA flit with a good CRC: duplicate, held, delivered, or out of reach (R131). -/
def takeData (h : Hw) (p ls seq : Nat) (bytes : List Byte) : Hw :=
  let e := (port h p).expect
  let back := (e + 4096 - seq) % 4096
  if 1 ≤ back && back ≤ 2048 then bump h 0x3004 p
  else if (seq + 4096 - e) % 4096 < reorderCapacity h then
    let h := setLaneset h ls { laneset h ls with lastSeq := some seq, failRun := 0 }
    let h := setPort h p { port h p with early := tset (port h p).early seq ⟨ls, bytes, now h⟩ }
    let h := deliverAll (port h p).early.length h p
    flushPort (if (port h p).expect = e then h else sendAck h p) p
  else protocolError h p

/-- The flit that is received on a downstream laneset, and whether both codewords converged: the one that its last pair of codewords made, or one given whole, for which two codewords go by (assumption 131). -/
def arrivedFlit (l : Laneset) (given : Option (List Byte × Bool)) : Laneset × Option (Bool × List Byte) :=
  match given with
  | some (bytes, converged) =>
    ({ l with descr := l.descr.map (prbsWindow · 4096), cwCount := if l.active then (l.cwCount + 2) % 4294967296 else l.cwCount }, some (converged, bytes))
  | none => ({ l with rx := none }, l.rx)

/-- The first intact flit that is neither CAPABILITY nor SYNC (assumption 145) marks ACTIVE for its laneset, whose codewords count from this flit on (R82, R85, R90). -/
def markActive (l : Laneset) (type : Nat) : Laneset :=
  if l.active || type = 3 || type = 0 then l else { l with active := true, cwCount := 2 }

/-- A flit type that admits no slot content (PARK, SYNC): a slot other than NULL is a protocol error (R112). -/
def onlyNull (h : Hw) (p : Nat) (bytes : List Byte) : Hw := if bytes.getD 8 0#8 = 0#8 then h else protocolError h p

/-- An intact flit is handled by its type (Table 4.3, R110). -/
def takeFlit (ls : Nat) (bytes : List Byte) (h : Hw) : Hw :=
  let p := portOf h ls
  let hdr := leNat (bytes.take 8)
  match hdr % 16 with
  | 0 => onlyNull h p bytes
  | 1 => takeData h p ls (field hdr 15 4) bytes
  | 2 => takeSlots 31 true p (flitSlots bytes) h
  | 3 => takeBlock ls (leNat ((bytes.drop 8).take 64)) h
  | 4 => takePark ls (onlyNull h p bytes)
  | _ => protocolError h p

/-- The held updates of an intact flit are applied, and lanes whose third drift event they show ask for a retrain (R53, R57). -/
def takeUpdates (ls began : Nat) (updates : List LaneUpdate) (h : Hw) : Hw :=
  let (h, drifted) := updates.foldl (applyUpdate ls began) (h, [])
  showAdapt (drifted.foldl (fun h pos => askRepair h ls pos true) h) ls

/-- A flit received on an in-service downstream laneset in ACTIVE; in EXCHANGE, of the link or of a withdrawal, capability flits alone are handled (R85, R93, R110). Whatever else becomes of an intact flit, its updates are applied (R53). A flit discarded because a codeword failed is counted in 0x2214 like one whose CRC failed (assumption 132). -/
def flitReceive (ls : Nat) (given : Option (List Byte × Bool)) (updates : List LaneUpdate) (began : Nat) (h : Hw) : Hw :=
  if !(awake h && ((linkActive h || linkState h == 3) && inService h ls || inPhase h ls .exchange)) then h
  else
    let (l, flit) := arrivedFlit (laneset h ls) given
    let h := setLaneset h ls l
    match flit with
    | none => h
    | some (converged, bytes) =>
      let type := (bytes.headD 0#8).toNat % 16
      if bytes.all (· == 0#8) then h
      else if !converged || crc64 (bytes.take 504) != leNat (bytes.drop 504) then
        if !linkActive h || !takesFlits h ls then h
        else askReplay (setLaneset (bump h 0x2214 ls) ls { l with failRun := l.failRun + 1 }) ls
      else
        let live := linkActive h && inService h ls
        let down := (port h (portOf h ls)).down
        let h := takeUpdates ls began updates (setLaneset h ls { markActive l type with replayWait := false })
        if !live then (if type = 3 then takeFlit ls bytes h else h)
        else if down then h
        else takeFlit ls bytes (applyAck h (portOf h ls) (field (leNat (bytes.take 8)) 27 16))

def execFlitReceive (ls : Nat) (given : Option (List Byte × Bool)) (updates : List LaneUpdate) (began : Nat) (s : State) : Host.Outcome State Fault Refusal :=
  runHw (wfFlitReceive ls given updates began) (flitReceive ls given updates began) s

end Sys2Proof.Machine
end

