-- ==== Sys2Proof/Machine/Requests.lean ====
section
/-!
DEFINITION. Host requests (R113 to R126, R137, R138): taking them from the receive buffers, checks, admission, the
read-modify-write unit (R117, R118), visibility of writes (R216), responses (R122 to R125), FENCE (R119) and RELEASE (R120, R121).
-/
namespace Sys2Proof.Machine

/-- Admission is open: the stack runs, and neither a sleep request past the TXN stop step nor a shutdown closes it (R316, R451). -/
def admitting (h : Hw) : Bool :=
  awake h && obj h 0x7000 1 != 4 && (match h.power.sleep with | some q => decide (q.stopped < 2) | none => true) &&
  obj h 0xB010 2 != 1

/-! Responses. -/

/-- A zero-line completion or an error status (R122, R125). -/
def sendStatus (h : Hw) (p tag status : Nat) : Hw :=
  sendGroup h p (.rsp [{ first := 0, tag := tag, status := status, lines := 0, poison := 0 }] [])

/-- A tag comes into use with the taking of its request (R115). -/
def useTag (h : Hw) (p tag : Nat) : Hw := setPort h p { port h p with tags := tag :: (port h p).tags }

/-- The last response to one use of a tag goes to the transmitter. -/
def freeTag (h : Hw) (p tag : Nat) : Hw :=
  let q := port h p
  setPort h p { q with tags := q.tags.erase tag }

/-! Taking a request. -/

/-- A request that moves lines: its line and label. -/
def reqLine : Req → Option (Nat × Nat)
  | .rd _ l a _ => some (a, l)
  | .wr _ _ l a _ _ _ => some (a, l)
  | .atom _ l a _ _ _ _ _ _ => some (a, l)
  | _ => none

/-- The first request of a kind that may be taken: no earlier one of its class is left behind it, and none passes a FENCE or RELEASE (R210, R119, Table 4.13). -/
def pickReq (h : Hw) (p : Nat) (want : Req → Bool) : List HeldReq → List HeldReq → List Nat → Option (HeldReq × List HeldReq)
  | _, [], _ => none
  | before, r :: rest, seen =>
    match reqLine r.req with
    | none => none
    | some (_, label) =>
      let c := classOf h p label
      if !seen.contains c && want r.req then some (r, before ++ rest)
      else pickReq h p want (before ++ [r]) rest (c :: seen)

/-- The transaction that a request becomes. -/
def txnOf (h : Hw) (p : Nat) (r : Req) (track since : Nat) : Txn :=
  match r with
  | .rd tag label line count =>
    { port := p, tag := tag, kind := .rd, cls := classOf h p label, label := label, line := line, count := count, track := track, arrived := since, left := count }
  | .wr wrc tag label line count poison data =>
    { port := p, tag := tag, kind := .wr wrc, cls := classOf h p label, label := label, line := line, count := count, poison := poison, data := data, track := track, arrived := since, left := count }
  | .atom tag label line word wide op sgn a b =>
    { port := p, tag := tag, kind := .atom wide op sgn word a b, cls := classOf h p label, label := label, line := line, count := 1, track := track, arrived := since, left := 1 }
  | _ => { port := p, tag := 0, kind := .rd, cls := 0, label := 0, line := 0, count := 0, track := track, arrived := since, left := 0 }

/-- What is wrong with a request: lines of two parcels, a reserved operation, an odd WORD of a 64-bit atomic (R114, R117). -/
def reqError (r : Req) : Option Nat :=
  match r with
  | .rd _ _ line count => if line / 1024 = (line + count - 1) / 1024 then none else some 2
  | .wr _ _ _ line count _ _ => if line / 1024 = (line + count - 1) / 1024 then none else some 2
  | .atom _ _ _ word wide op _ _ _ => if 5 ≤ op then some 3 else if wide && word % 2 == 1 then some 2 else none
  | _ => none

/-- Answers a malformed request, or counts it when it carries no tag (R114, R117). -/
def rejectReq (h : Hw) (p : Nat) (r : Req) (status : Nat) : Hw :=
  match r, reqTag r with
  | .atom t .., _ => sendGroup h p (.arsp t status 0 false)
  | _, some t => sendStatus h p t status
  | _, none => bump h 0x3005 p

/-- Takes the next request of a kind from a port's buffer: checks, route lookup, admission. One whose class's queue is full is passed over, and its class with it (R210); `held` are the classes passed over. -/
def takeFrom (p : Nat) (want : Req → Bool) : Nat → List Nat → Hw → Hw
  | 0, _, h => h
  | fuel + 1, held, h =>
    let q := port h p
    match pickReq h p want [] q.req held with
    | none => h
    | some (⟨since, r⟩, rest) =>
      let leave := fun (h : Hw) => returnCredits (setPort h p { port h p with req := rest }) p (reqSlots r) 0 0
      match reqError r with
      | some st => rejectReq (leave h) p r st
      | none =>
        let (h, e) := lookup h (((reqLine r).getD (0, 0)).1 / 1024)
        let (h, taken) := offerTxn h (txnOf h p r (entTrack e) since)
        if taken then
          match reqTag r with
          | some t => useTag (leave h) p t
          | none => leave h
        else takeFrom p want fuel (classOf h p ((reqLine r).getD (0, 0)).2 :: held) h

/-- Takes a request while admission is open and no FENCE holds the port. -/
def takeReq (p : Nat) (want : Req → Bool) (h : Hw) : Hw :=
  if !admitting h || (port h p).fence.isSome then h else takeFrom p want (port h p).req.length [] h

/-- The requests that each command takes. -/
def rdReq : Req → Bool
  | .rd .. => true
  | _ => false
def wrReq (wrc : Bool) : Req → Bool
  | .wr c .. => c == wrc
  | _ => false
def atomReq : Req → Bool
  | .atom .. => true
  | _ => false

def execRdRequest (port : Nat) (s : State) : Host.Outcome State Fault Refusal := runHw (wfRdRequest port) (takeReq port rdReq) s
def execWrRequest (port : Nat) (s : State) : Host.Outcome State Fault Refusal := runHw (wfWrRequest port) (takeReq port (wrReq false)) s
def execWrcRequest (port : Nat) (s : State) : Host.Outcome State Fault Refusal := runHw (wfWrcRequest port) (takeReq port (wrReq true)) s
def execAtom (port : Nat) (s : State) : Host.Outcome State Fault Refusal := runHw (wfAtom port) (takeReq port atomReq) s

/-! Order of transfers (Table 4.13). -/

/-- Two transfers touch a line in common, for the same port and label. -/
def ordered (h : Hw) (x y : Xfer) : Bool :=
  match txn h x.txn, txn h y.txn with
  | some a, some b => a.port == b.port && a.label == b.label && x.lines.any (fun l => y.lines.any (fun m => l.line == m.line))
  | _, _ => false

/-- No older transfer that must go first still waits, and no atomic of the same order is in the unit. -/
def eligible (h : Hw) (x : Xfer) : Bool :=
  let held := match (pcSt h x.pc).granted with | some (.xfer y _) => [y] | _ => []
  let others := waitingXfers h x.pc ++ (h.chans.offers.map Prod.snd) ++ held
  !others.any (fun y => decide (y.age < x.age) && ordered h y x) &&
  !(chSt h (chOf x.pc)).rmw.any (fun r => match r with
    | .host n line => ordered h { txn := n, pc := x.pc, lines := [⟨0, line⟩], age := 0 } x && n != x.txn
    | .batch .. => false)

/-- A read that needs no grant: its parcel is released, or all its lines are in the write queue (R121, R216). -/
def grantless (h : Hw) (x : Xfer) : Bool :=
  isRead h x && eligible h x && x.lines.all (fun l =>
    entReleased (route h (l.line / 1024)) || (wqFind h (physOf (route h (l.line / 1024)) l.line)).isSome)

/-- Takes a transfer out of the queues it may wait in. -/
def dropXfer (h : Hw) (x : Xfer) : Hw :=
  let h := (span 3 11).foldl (fun h i => if (inputQ h x.pc i).contains x then setInputQ h x.pc i ((inputQ h x.pc i).filter (fun y => y != x)) else h) h
  let s := pcSt h x.pc
  if s.cut.any (fun e => e.2 == x) then setPc h x.pc { s with cut := s.cut.filter (fun e => e.2 != x) } else h

/-- Waiting transfers of a parcel that has changed track go on waiting there, as one transaction of that track (R159). -/
def rehome (h : Hw) (parcel old new : Nat) : Hw :=
  if old = new then h
  else
    let mine := fun (x : Xfer) => x.lines.any (fun l => l.line / 1024 == parcel)
    let h : Hw := (span (16 * old) 16).foldl (fun (h : Hw) p =>
      (waitingXfers h p).foldl (fun (h : Hw) x =>
        if mine x then
          let h := dropXfer h x
          let y := { x with pc := 16 * new + p % 16 }
          enterInput h y (inputOf h new (xferClass h x))
        else h) h) h
    let h : Hw := { h with chans := { h.chans with offers := h.chans.offers.map (fun (o : Nat × Xfer) => if mine o.2 then (o.1, { o.2 with pc := 16 * new + o.2.pc % 16 }) else o) } }
    let h : Hw := h.chans.txns.foldl (fun (h : Hw) (e : Nat × Txn) =>
      if e.2.line / 1024 = parcel && e.2.track = old then
        let queued := (clsSt h old e.2.cls).queue.contains e.1
        if queued || !e.2.entered then (if queued then h else setTxn h e.1 { e.2 with track := new })
        else
          let h := setObj h 0x3413 e.2.cls old (outstanding h old e.2.cls - 1)
          setTxn (setObj h 0x3413 e.2.cls new (outstanding h new e.2.cls + 1)) e.1 { e.2 with track := new }
      else h) h
    noteWaits (noteWaits h old) new

/-- Re-creates a parcel for a write and moves its waiting transfers along (R154). -/
def recreateFor (c : Core) (parcel : Nat) : Core × Bool :=
  let old := entTrack (route c.hw parcel)
  let (c, ok) := recreate c parcel
  (c.onHw (fun h => rehome h parcel old (entTrack (route h parcel))), ok)

/-! The read-modify-write unit (R117, R118). -/

/-- The new value of an atomic: 0 ADD, 1 MIN, 2 MAX, 3 SWAP, 4 CAS; `n` is the operand width. -/
def atomicNew (op n old a b : Nat) (sgn : Bool) : Nat :=
  let less := fun (x y : Nat) => if sgn then decide (toSigned n x < toSigned n y) else decide (x < y)
  match op with
  | 0 => (old + a) % 2 ^ n
  | 1 => if less a old then a else old
  | 2 => if less old a then a else old
  | 3 => a
  | _ => if old = a then b else old

/-- The operand at a 4-byte offset of a line. -/
def lineWord (d : Line) (word n : Nat) : Nat := d.toNat / 2 ^ (32 * word) % 2 ^ n

/-- The line with the operand replaced. -/
def setLineWord (d : Line) (word n v : Nat) : Line :=
  BitVec.ofNat 512 (d.toNat - lineWord d word n * 2 ^ (32 * word) + v % 2 ^ n * 2 ^ (32 * word))

/-- One read-modify-write of a host line: the old value, unless the line is poisoned. With no storage to be had for a released parcel, or no room in the write queue, it cannot run yet: the second answer is false (R154, R216). -/
def rmwLine (c : Core) (line word : Nat) (wide : Bool) (op a b : Nat) (sgn : Bool) (cls : Option Nat) (age : Nat) : Core × Bool × Option Nat :=
  let n := if wide then 64 else 32
  let a := a % 2 ^ n
  let b := b % 2 ^ n
  let (c, ok) := recreateFor c (line / 1024)
  if !ok then (c, false, none)
  else
    let (h, e) := resolve c.hw line
    if !wqRoom h (physOf e line) then ({ c with hw := h }, false, none)
    else
    let (c, d, p) := readLine { c with hw := h } (physOf e line) 0 false
    if p then (c.onHw (fun h => notePoisonDelivered (heatLine h (line / 1024)) (physOf e line)), true, none)
    else
      let old := lineWord d word n
      (writeHost c line (setLineWord d word n (atomicNew op n old a b sgn)) false cls age, true, some old)

/-- The atomic of a transaction has had the last beat of its line: the path that it held is free (R213, R215). -/
def freePath (h : Hw) (n : Nat) : Hw :=
  match txn h n with
  | some q =>
    (span (16 * q.track) 16).foldl (fun h p => match (pcSt h p).granted with
      | some (.xfer x _) => if x.txn = n then setPc h p { pcSt h p with granted := none, got := [] } else h
      | _ => h) h
  | none => h

/-- A host atomic in its turn: ARSP, and the latency sample (R118, R205). -/
def hostAtomic (c : Core) (n line : Nat) : Core × Bool :=
  match txn c.hw n with
  | some q =>
    match q.kind with
    | .atom wide op sgn word a b =>
      let (c, ok, old) := rmwLine c line word wide op a b sgn (some q.cls) n
      if !ok then (c, false)
      else
        (c.onHw (fun h =>
          let h := endTxn (countLines (freePath h n) q.track q.cls 1) n
          let h := freeTag (if old.isSome then bump h 0x3040 1 else h) q.port q.tag
          sendSampled h q.port { group := .arsp q.tag (if old.isSome then 0 else 1) (old.getD 0) wide, sample := some (q.track, q.cls, q.arrived) }), true)
    | _ => (c, true)
  | none => (c, true)

/-- A record of an ATOMIC-BATCH part in its turn (R231, R246). It waits while another engine holds the line's lock (R247). -/
def batchAtomic (c : Core) (ch j i k line word op a : Nat) (wide sgn : Bool) : Core × Bool :=
  match jobAt c.hw j with
  | none => (c, true)
  | some q =>
    let (c, ok, old) := rmwLine c line word wide op a 0 sgn (some q.desc.cls) c.hw.chans.nextTxn
    if !ok then (c, false)
    else
      (c.onHw (fun h =>
        let h := unitLeave (countLines h (entTrack (route h (line / 1024))) q.desc.cls 1) ch q.desc.cls
        let h := match (q.parts[i]?).bind Part.engine with
          | some e => ringCarry h (e / 4) (entTrack (route h (line / 1024))) 64
          | none => h
        batchDone (addBytes (setPart h j i (ackRecord k old.isSome old.isNone)) j (if old.isSome then 64 else 0)) j i), true)

/-- Runs one entry of a channel's unit. Answers false when it must wait. -/
def runRmw (c : Core) (ch : Nat) (r : Rmw) : Core × Bool :=
  match r with
  | .host n line => hostAtomic c n line
  | .batch j i k line word op a wide sgn => batchAtomic c ch j i k line word op a wide sgn

/-- An entry waits for a lock: a record whose line another engine has locked; host atomics never do (R247). -/
def lockWaits (h : Hw) : Rmw → Bool
  | .host .. => false
  | .batch j i _ line .. => (lockedBy h (((jobAt h j).bind (fun q => (q.parts[i]?).bind Part.engine)).getD 32) line).isSome

/-- Runs one entry of a channel's unit out of it; one that must wait goes back to its place, and frees the path that it held. -/
def runEntry (ch : Nat) (c : Core) (r : Rmw) : Core × Bool :=
  let all := (chSt c.hw ch).rmw
  let (c', ok) := runRmw (c.onHw (fun h => setCh h ch { chSt h ch with rmw := all.erase r })) ch r
  if ok then (c', true)
  else
    (c'.onHw (fun h =>
      let h := setCh h ch { chSt h ch with rmw := all }
      match r with | .host n _ => freePath h n | .batch .. => h), false)

/-- Runs the first of some entries that can run, in order of arrival; `held` are the lines of those that wait, which keep their order (R118). Answers whether one ran. -/
def runFirst (ch : Nat) : List Rmw → List Nat → Core → Core × Bool
  | [], _, c => (c, false)
  | r :: rs, held, c =>
    if held.contains (rmwLineOf r) || lockWaits c.hw r then runFirst ch rs (rmwLineOf r :: held) c
    else
      let (c, ok) := runEntry ch c r
      if ok then (c, true) else runFirst ch rs (rmwLineOf r :: held) c

/-- Runs the oldest entry of a channel's unit that can run; parts issue what then fits. -/
def rmwNext (ch : Nat) (c : Core) : Core :=
  let (c, ok) := runFirst ch (chSt c.hw ch).rmw [] c
  if ok then issueAll c else c

/-- Runs what a unit holds of a line, so that a write or lock on the line comes after it (R118). -/
def rmwBefore (c : Core) (ch line : Nat) : Core :=
  let mine := (chSt c.hw ch).rmw.filter (fun r => rmwLineOf r == line)
  if mine.isEmpty then c else issueAll (mine.foldl (fun c r => if lockWaits c.hw r then c else (runEntry ch c r).1) c)

/-- An engine writes a line of a live parcel for a job, after what the read-modify-write unit holds for it (R118, R138, R234). -/
def engWrite (c : Core) (e j cls line : Nat) (data : Line) (poison : Bool) : Core :=
  let c := writeHost (rmwBefore c (chOf (pPc (physOf (route c.hw (line / 1024)) line))) line) line data poison (some cls) c.hw.chans.nextTxn
  c.onHw (fun h => addBytes (dropAhead (ringCarry h (e / 4) (entTrack (route h (line / 1024))) 64) e line) j 64)

/-! Visibility of writes (R138, R216). -/

/-- The queue has room for every line of a transfer. -/
def roomFor (h : Hw) (x : Xfer) : Bool :=
  let fresh := x.lines.filter (fun l => (wqFind h (physOf (route h (l.line / 1024)) l.line)).isNone)
  decide ((pcSt h x.pc).wq.length + fresh.length ≤ 32)

/-- The next write transfer to enter the queue: from the highest input down, by age within one. -/
def nextWrite (h : Hw) (pc : Nat) : Option Xfer :=
  ((span 3 11).reverse.filterMap (fun i => (inputQ h pc i).find? (fun x => isWrite h x && eligible h x && roomFor h x))).head?

/-- One line of a host write becomes visible. -/
def writeOne (q : Txn) (age : Nat) (c : Core) (l : XLine) : Core :=
  let c := rmwBefore c (chOf (pPc (physOf (route c.hw (l.line / 1024)) l.line))) l.line
  let poison := bitAt q.poison l.idx
  let c := writeHost c l.line (q.data.getD l.idx 0#512) poison (some q.cls) age
  if poison then
    c.onHw (fun h =>
      let n := physOf (route h (l.line / 1024)) l.line
      raise (bump h 0x9800 4 (pPc n)) Src.poisonWritten { whereLine h n with port := q.port })
  else c

/-- A write transfer enters the write queue: a released parcel is made live first (R154); a WRC completes at its last line. -/
def writeEntry (pc : Nat) (c : Core) : Core :=
  match (if awake c.hw then nextWrite c.hw pc else none) with
  | none => c
  | some x =>
    match txn c.hw x.txn with
    | none => c.onHw (fun h => dropXfer h x)
    | some q =>
      let (c', ok) := recreateFor (c.onHw (fun h => dropXfer h x)) (q.line / 1024)
      if !ok then { c' with hw := setInputQ c'.hw pc (inputOf c'.hw (trkOf pc) q.cls) (insertAge x (inputQ c'.hw pc (inputOf c'.hw (trkOf pc) q.cls))) }
      else
        let c' := x.lines.foldl (writeOne q x.age) c'
        c'.onHw (fun h =>
          let left := ((txn h x.txn).getD q).left - x.lines.length
          let h :=
            if left = 0 then
              let h := endTxn h x.txn
              match q.kind with
              | .wr true => sendStatus (freeTag h q.port q.tag) q.port q.tag 0
              | _ => h
            else setTxn h x.txn { (txn h x.txn).getD q with left := left }
          noteWaits (reoffer h (chOf pc)) (trkOf pc))

def execWriteQueueEntry (pc : Nat) (s : State) : Host.Outcome State Fault Refusal :=
  runCore (wfWriteQueueEntry pc) (writeEntry pc) s

/-! Read responses (R122, R126). -/

/-- A line of a read needs no RD: its parcel is released, its channel has failed, or it is in the write queue or on its way back (R121, R173, R187, R197). -/
def atHand (h : Hw) (line : Nat) : Bool :=
  let e := route h (line / 1024)
  let n := physOf e line
  entReleased e || (wqFind h n).isSome || (corrFind h n).isSome || (chSt h (chOf (pPc n))).failed

/-- Every line of a transfer has been collected by a column command, or needs none (R171). -/
def complete (h : Hw) (got : List (Nat × Line × Bool)) (x : Xfer) : Bool := x.lines.all (fun l => got.any (fun g => g.1 == l.idx) || atHand h l.line)

/-- The lines of a transfer: those collected, and those that need no column command. -/
def collect (got : List (Nat × Line × Bool)) : List XLine → Core → Core × List (Nat × Line × Bool)
  | [], c => (c, [])
  | l :: ls, c =>
    let (c, d) :=
      match got.find? (fun g => g.1 == l.idx) with
      | some g => (c, g)
      | none =>
        let (c, d, p) := readHost c l.line 0
        (c, (l.idx, d, p))
    let c := c.onHw (fun h => heatLine h (l.line / 1024))
    let (c, r) := collect got ls c
    (c, d :: r)

/-- The bytes that go out for read lines: what a poisoned line carries is left open (R126, assumption 142). -/
def sentLines : List (Nat × Line × Bool) → Hw → List Line × Hw
  | [], h => ([], h)
  | d :: ds, h =>
    let (v, h) := if d.2.2 then draw h 62 else (d.2.1.toNat, h)
    let (r, h) := sentLines ds h
    (BitVec.ofNat 512 v :: r, h)

/-- Sends the lines of a read transfer in one RSP slot with one entry (R122, assumption 143), with the latency sample of the request's first line (R205). -/
def answerRead (c : Core) (x : Xfer) (q : Txn) (got : List (Nat × Line × Bool)) : Core :=
  let released := entReleased (route c.hw (q.line / 1024))
  let (c, ds) := collect got x.lines c
  c.onHw (fun h =>
    let poison := (ds.zipIdx.map (fun d => if d.1.2.2 then 2 ^ d.2 else 0)).sum
    let e : RspEntry := { first := (x.lines.head?.map XLine.idx).getD 0, tag := q.tag, status := if poison = 0 then 0 else 1, lines := ds.length, poison := poison }
    let h := bumpBy (countLines h q.track q.cls ds.length) 0x3040 3 0 (ds.filter (fun d => d.2.2)).length
    let q := (txn h x.txn).getD q
    let sample := e.first = 0 && !released
    let left := q.left - ds.length
    let h := if left = 0 then freeTag (endTxn h x.txn) q.port q.tag else setTxn h x.txn { q with left := left }
    let (lines, h) := sentLines ds h
    let w : HeldGroup := { group := .rsp [e] lines, sample := if sample then some (q.track, q.cls, q.arrived) else none }
    noteWaits (reoffer (sendSampled h q.port w) (chOf x.pc)) (trkOf x.pc))


/-- The granted read of a pseudo-channel, when all its lines are at the controller (R171, R213). -/
def grantedRead (h : Hw) (pc : Nat) : Option (Xfer × Txn) :=
  match (pcSt h pc).granted with
  | some (.xfer x _) => match txn h x.txn with
    | some q => if isRead h x && complete h (pcSt h pc).got x then some (x, q) else none
    | none => none
  | _ => none

/-- The first waiting read that needs no grant. -/
def freeRead (h : Hw) (pc : Nat) : Option (Xfer × Txn) :=
  ((span 3 11).reverse.filterMap (fun i => (inputQ h pc i).find? (grantless h))).head?.bind (fun x => (txn h x.txn).map (fun q => (x, q)))

/-- Read lines return: those of the transfer that holds the grant, once it is complete, else of the first that needs none. -/
def readResponse (pc : Nat) (c : Core) : Core :=
  if !awake c.hw then c
  else match grantedRead c.hw pc, freeRead c.hw pc with
    | some (x, q), _ => answerRead (c.onHw (fun h => setPc h pc { pcSt h pc with granted := none, got := [] })) x q (pcSt c.hw pc).got
    | none, some (x, q) => answerRead (c.onHw (fun h => dropXfer h x)) x q []
    | none, none => c

def execReadResponse (pc : Nat) (s : State) : Host.Outcome State Fault Refusal :=
  runCore (wfReadResponse pc) (readResponse pc) s

/-! FENCE (R119). -/

/-- A FENCE at the head of the buffer is taken: nothing after it executes before its completion. -/
def takeFence (p : Nat) (h : Hw) : Hw :=
  let q := port h p
  match q.req, q.fence with
  | ⟨_, .fence tag jobs⟩ :: rest, none =>
    if admitting h then
      useTag (returnCredits (setPort h p { q with req := rest, fence := some { tag := tag, jobs := jobs } }) p 1 0 0) p tag
    else h
  | _, _ => h

def execFence (port : Nat) (s : State) : Host.Outcome State Fault Refusal := runHw (wfFence port) (takeFence port) s

/-- Every earlier request of the port is complete, its read data sent, and with JOBS every earlier job. -/
def fenceDone (h : Hw) (p : Nat) (f : Fence) : Bool :=
  h.chans.txns.all (fun e => e.2.port != p) && (port h p).wait.all (fun w => groupKind w.group != 0) &&
  (!f.jobs || ((port h p).job.head? == some [] && h.jobs.jobs.all (fun e => e.2.port != p)))

/-- The completion of the port's FENCE goes to the transmitter; the hold lasts until it is sent. -/
def fenceComplete (p : Nat) (h : Hw) : Hw :=
  match (port h p).fence with
  | some f =>
    if awake h && !f.done && fenceDone h p f then
      sendStatus (freeTag (setPort h p { port h p with fence := some { f with done := true } }) p f.tag) p f.tag 0
    else h
  | none => h

def execFenceComplete (port : Nat) (s : State) : Host.Outcome State Fault Refusal := runHw (wfFenceComplete port) (fenceComplete port) s

/-! RELEASE (R120, R121). -/

/-- The entry of a parcel to be released, by a lookup before the change is journaled; a move of it is abandoned first (Table 5.5). Collects the live ones. -/
def releaseLookup (a : Hw × List (Nat × Nat)) (p : Nat) : Hw × List (Nat × Nat) :=
  let h := match moveOf a.1 p with | some m => rollBack false a.1 m | none => a.1
  let (h, e) := lookup h p
  (h, if entReleased e then a.2 else (p, e) :: a.2)

/-- Marks a run of parcels released: one journal record, then the entries (R121, R149). -/
def releaseRange (h : Hw) (first count : Nat) : Hw :=
  let (h, live) := (span first count).foldl releaseLookup (h, [])
  live.reverse.foldl (fun h x => bump (putRoute h x.1 (x.2 + 2 ^ 7)) 0x3040 2) (journal h (.released first count))

/-- A RELEASE at the head of the buffer, once no earlier request of the port to its range is left. -/
def takeRelease (p : Nat) (h : Hw) : Hw :=
  let q := port h p
  match q.req with
  | ⟨_, .release cpl tag first count⟩ :: rest =>
    let waits := h.chans.txns.any (fun e => e.2.port == p && decide (first ≤ e.2.line / 1024) && decide (e.2.line / 1024 < first + count))
    if !admitting h || q.fence.isSome || waits then h
    else
      let good := decide (1 ≤ count) && decide (first + count ≤ parcels)
      let h := returnCredits (setPort h p { q with req := rest }) p 1 0 0
      let h := if good then releaseRange h first count else h
      if cpl then sendStatus h p tag (if good then 0 else 2)
      else if good then h else bump h 0x3005 p
  | _ => h

def execRelease (port : Nat) (s : State) : Host.Outcome State Fault Refusal := runHw (wfRelease port) (takeRelease port) s

end Sys2Proof.Machine
end

