-- ==== Sys2Proof/Machine/Channel.lean ====
section
/-!
DEFINITION. The crossing arbiter (R211 to R219) and the channel commands (chapter 06): rows, reads and drains, refresh and
targeted refresh, alerts and replay, retraining, gear changes, self-refresh.
-/
namespace Sys2Proof.Machine

/-! What waits at the inputs. -/

/-- Draining is allowed: between the marks, or while no read waits (R173). -/
def drainAllowed (h : Hw) (pc : Nat) : Bool :=
  let s := pcSt h pc
  !s.wq.isEmpty && (s.draining || decide (obj h 0x5000 2 ≤ s.wq.length) || !(waitingXfers h pc).any (fun x => isRead h x))

/-- The input a drain transfer holds: that of the oldest line; the controller's own writes drain at input 2 (R217, R285). -/
def drainInput (h : Hw) (pc : Nat) : Nat :=
  match (pcSt h pc).wq.head? with
  | some { cls := some c, .. } => inputOf h (trkOf pc) c
  | _ => 2

/-- Position n of a pass falls due (R291): the position that is due now. -/
def duePosition (h : Hw) (pc : Nat) : Nat :=
  (now h - (pcSt h pc).passStart) * 1064960 / (obj h 0x9900 1 * 3600 * sec 1)

/-- Patrol scrub runs on a pseudo-channel (R295, R302). -/
def patrolRuns (h : Hw) (pc : Nat) : Bool :=
  awake h && flag h 0x9900 2 && dieOn h (dieOf pc) && !grey h && decide (obj h 0x7000 1 ≤ 1) && h.power.sleep.isNone && obj h 0xC010 2 == 0

def patrolDue (h : Hw) (pc : Nat) : Bool :=
  patrolRuns h pc && decide ((pcSt h pc).passStart ≤ now h) && decide (obj h 0x9900 4 pc ≤ duePosition h pc)

/-- Patrol scrub falls behind when its lag passes the threshold, and has caught up at half of it (R294). -/
def noteBehind (h : Hw) (pc : Nat) : Hw :=
  let s := pcSt h pc
  let lag := duePosition h pc - obj h 0x9900 4 pc
  let b := if s.behind then decide (obj h 0x9900 3 < 2 * lag) else decide (obj h 0x9900 3 < lag)
  if b = s.behind || !patrolRuns h pc then h else setPc h pc { s with behind := b }

/-- The input of patrol scrub: 2 while behind its schedule (R294). -/
def patrolInput (h : Hw) (pc : Nat) : Nat := if (pcSt h pc).behind then 2 else 1

/-- The next bank in rotation is closed. -/
def rotationIdle (h : Hw) (pc : Nat) : Bool := !thas (pcSt h pc).rows (pcSt h pc).rotation

/-- When the position of patrol scrub that is due fell due. -/
def patrolSince (h : Hw) (pc : Nat) : Nat := (pcSt h pc).passStart + obj h 0x9900 4 pc * (obj h 0x9900 1 * sec 3600) / 1064960

/-- The candidate that has waited longest, the first of a list on a tie (R213). -/
def oldest (cs : List (Nat × Grant)) : Option Grant :=
  (cs.foldl (fun b x => match b with
    | none => some x
    | some y => if x.1 < y.1 then some x else some y) (none : Option (Nat × Grant))).map Prod.snd

/-- A retraining window takes the next refresh grant of its channel (R189). -/
def windowFirst (window : Bool) (late : Bool) : Grant → Grant
  | .refresh e => if window && e = late then .retrain late else .refresh e
  | .targeted b r e => if window && e = late then .retrain late else .targeted b r e
  | g => g

/-- What waits at input 14: emergency refresh, escalated targeted refresh, an escalated retraining window (R179, R180, R184, R189). -/
def atEmergency (h : Hw) (pc : Nat) : Option Grant :=
  let s := pcSt h pc
  let c := chSt h (chOf pc)
  (oldest ((if s.excess = 0 then [] else [(s.excessAt, .refresh true)]) ++ (s.emergency.take 1).map (fun t => (t, .refresh true)) ++
    ((s.trr.find? (fun r => r.2.2.2)).map (fun r => (r.2.2.1, Grant.targeted r.1 r.2.1 true))).toList ++
    (if c.retrain && c.retrainLate then [(c.retrainAt, .retrain true)] else []))).map (windowFirst (c.retrain && c.retrainLate) true)

/-- What waits at input 2: routine and targeted refresh, a retraining window, priority scrub and late patrol scrub, oldest first; behind them a drain of the controller's own writes and a pulled-in refresh (R179, R184, R189, R196, R217, R294). -/
def atRoutine (h : Hw) (pc : Nat) : Option Grant :=
  let s := pcSt h pc
  let c := chSt h (chOf pc)
  let window := c.retrain && !c.retrainLate
  let first := (oldest ((if 0 < owed h pc then [(s.routineAt, .refresh false)] else []) ++
    ((s.trr.find? (fun r => !r.2.2.2)).map (fun r => (r.2.2.1, Grant.targeted r.1 r.2.1 false))).toList ++
    (if window then [(c.retrainAt, .retrain false)] else []) ++
    (if s.prio.isEmpty then [] else [(s.scrubAt, .scrub)]) ++
    (if patrolDue h pc && patrolInput h pc == 2 then [(patrolSince h pc, .scrub)] else []))).map (windowFirst window false)
  match first with
  | some g => some g
  | none =>
    if drainAllowed h pc && drainInput h pc == 2 then some (.drain 2 0)
    else if decide (-16 < owed h pc) && rotationIdle h pc then some (.refresh false)
    else none

/-- What waits at an input of a class: a return-store entry first, else the older of the oldest transfer and a drain (R213, R217). Writes enter the write queue without a grant, and so are reads answered from it (R216). -/
def atClass (h : Hw) (pc i : Nat) : Option Grant :=
  let s := pcSt h pc
  let canGo := fun (x : Xfer) => eligible h x && (if isRead h x then !grantless h x else !isWrite h x && x.lines.all (fun l => rmwRoom h (chOf pc) l.line))
  let cut := ((s.cut.filter (fun e => e.1 == i && canGo e.2)).map Prod.snd).foldl (fun (b : Option Xfer) x => match b with | some y => if x.age < y.age then some x else b | none => some x) none
  let first := match cut with | some x => some x | none => (inputQ h pc i).find? canGo
  let drain := drainAllowed h pc && drainInput h pc == i
  match first, drain with
  | some x, true => if cut.isNone && decide (((s.wq.head?.map WqEntry.age).getD 0) < x.age) then some (.drain i 0) else some (.xfer x i)
  | some x, false => some (.xfer x i)
  | none, true => some (.drain i 0)
  | none, false => none

/-- The winner at one input, if anything there can take the path (R213, Table 7.2). -/
def atInput (h : Hw) (pc i : Nat) : Option Grant :=
  if i = 14 then atEmergency h pc
  else if 3 ≤ i && i ≤ 13 then atClass h pc i
  else if i = 2 then atRoutine h pc
  else if i = 1 then (if patrolDue h pc && patrolInput h pc == 1 then some .scrub else none)
  else none

/-- The first input from 15 down that has one wins (R213). In Grey mode inputs 4 to 13, 15 and 1 are out of use (R223). -/
def winner (h : Hw) (pc : Nat) : Option (Nat × Grant) :=
  ((List.range 16).reverse.filterMap (fun i =>
    if grey h && (decide (4 ≤ i) && decide (i ≤ 13) || i == 1) then none else (atInput h pc i).map (fun g => (i, g)))).head?

/-- The pseudo-channel's die takes grants: it is ON, out of self-refresh and its track changes no gear. -/
def takesGrants (h : Hw) (pc : Nat) : Bool :=
  awake h && dieOn h (dieOf pc) && !(pcSt h pc).sr && (trkSt h (trkOf pc)).change.isNone && !trackParked h (trkOf pc) && (chSt h (chOf pc)).alert.isNone

/-- Draining starts at the high mark and ends at the low one. -/
def noteMarks (h : Hw) (pc : Nat) : Hw :=
  let s := pcSt h pc
  let d := if decide (obj h 0x5000 2 ≤ s.wq.length) then true else if decide (s.wq.length ≤ obj h 0x5000 3) then false else s.draining
  if d = s.draining then h else setPc h pc { s with draining := d }

/-- An idle path decides (R213, R214). A transfer that was cut goes on with the lines it had moved (R218). An atomic that wins goes to the read-modify-write unit, and holds the path until its line has been read there (R215). -/
def decideGrant (pc : Nat) (h : Hw) : Hw :=
  let h := noteBehind (noteMarks h pc) pc
  if !takesGrants h pc || (pcSt h pc).granted.isSome then h
  else match winner h pc with
    | none => h
    | some (i, g) =>
      let h := bump h 0x3430 i (chOf pc)
      match g with
      | .xfer x _ =>
        let h := dropXfer h x
        let h :=
          if isRead h x then setPc h pc { pcSt h pc with granted := some g, got := tget [] (pcSt h pc).moved x.txn, moved := tdel (pcSt h pc).moved x.txn }
          else
            let h := setPc h pc { pcSt h pc with granted := some g, got := [] }
            setCh h (chOf pc) { chSt h (chOf pc) with rmw := (chSt h (chOf pc)).rmw ++ x.lines.map (fun l => Rmw.host x.txn l.line) }
        noteWaits (reoffer h (chOf pc)) (trkOf pc)
      | _ => setPc h pc { pcSt h pc with granted := some g }

def execArbiterDecision (pc : Nat) (s : State) : Host.Outcome State Fault Refusal :=
  runHw (wfArbiterDecision pc) (decideGrant pc) s

/-- Something waits at input 14. -/
def at14 (h : Hw) (pc : Nat) : Bool := (atInput h pc 14).isSome

/-- A waiting transfer at input 14 or 15 cuts the granted one between lines: what a read has still to move goes to the return store, if it has a free entry; a drain's lines stay queued, a scrub's are read later. An atomic has one line, which ends (R218). -/
def cutGrant (h : Hw) (pc by_ : Nat) : Hw :=
  let s := pcSt h pc
  let count := fun (h : Hw) => bump h 0x3431 by_ (chOf pc)
  match s.granted with
  | some (.xfer x _) =>
    if 16 ≤ s.cut.length || !isRead h x then h
    else
      let h := setPc h pc { s with granted := some (.xfer x (inputOf h (trkOf pc) (xferClass h x))) }
      noteWaits (count (storeCut h pc)) (trkOf pc)
  | some (.drain _ _) => count (setPc h pc { s with granted := none })
  | some .scrub => count (setPc h pc { s with granted := none })
  | _ => h

def grantCut (pc : Nat) (h : Hw) : Hw :=
  if takesGrants h pc && at14 h pc && (pcSt h pc).granted.isSome then decideGrant pc (cutGrant h pc 1) else h

def execGrantCut (pc : Nat) (s : State) : Host.Outcome State Fault Refusal := runHw (wfGrantCut pc) (grantCut pc) s

/-- A granted drain moves lines from the head of the queue to the array, up to 4 with those that its column commands have moved (R217); under an alert the controller issues nothing (R186). -/
def writeDrain (pc : Nat) (c : Core) : Core :=
  match (if (pcSt c.hw pc).sr || (chSt c.hw (chOf pc)).alert.isSome then none else (pcSt c.hw pc).granted) with
  | some (.drain _ n) => ((List.range (4 - n)).foldl (fun c _ => drainOldest c pc) c).onHw (fun h => noteMarks (setPc h pc { pcSt h pc with granted := none }) pc)
  | _ => c

def execWriteDrain (pc : Nat) (s : State) : Host.Outcome State Fault Refusal := runCore (wfWriteDrain pc) (writeDrain pc) s

def execRmwAtomic (ch : Nat) (s : State) : Host.Outcome State Fault Refusal :=
  runCore (wfRmwAtomic ch) (fun c => if awake c.hw && dieOn c.hw (ch / 4) && (chSt c.hw ch).alert.isNone then (rmwNext ch c).onHw (fun h => reoffer h ch) else c) s

/-! Effects of the commands at the die (Table 6.2). -/

def setRows (h : Hw) (pc : Nat) (rows : Tbl Nat) : Hw := setPc h pc { pcSt h pc with rows := rows }

/-- All pseudo-channels of a die are in self-refresh, or none: its array area shows it. -/
def showSr (h : Hw) (d : Nat) : Hw :=
  let ps := span (8 * d) 8
  if dieState h d = 0 && ps.all (fun p => (pcSt h p).sr) then setDie (setDieState h d 2) d { dieSt h d with rate := (dieSt h d).floor }
  else if dieState h d = 2 && ps.all (fun p => !(pcSt h p).sr) then setObj (setDieState h d 0) 0x5140 1 d (dieSt h d).rate
  else h

/-- The next line of the granted read, when it lies at a bank and column of the open row. -/
def readTarget (h : Hw) (pc bank col : Nat) : Option (XLine × Nat) :=
  let s := pcSt h pc
  match s.granted with
  | some (.xfer x _) =>
    match (if isRead h x then x.lines.find? (fun l => !s.got.any (fun g => g.1 == l.idx) && !atHand h l.line) else none) with
    | some l =>
      let e := route h (l.line / 1024)
      let n := physOf e l.line
      if !entReleased e && pPc n = pc && pBank n = bank && pCol n = col && tfind s.rows bank = some (pRow n) then some (l, n) else none
    | none => none
  | _ => none

/-- That line is read and kept with the grant (R171). -/
def collectColumn (c : Core) (pc bank col noise : Nat) : Core :=
  match readTarget c.hw pc bank col with
  | none => c
  | some (l, n) =>
    let (c, d, p) := readLine { c with hw := (resolve c.hw l.line).1 } n noise false false
    c.onHw (fun h => setPc (if p then notePoisonDelivered h n else h) pc { pcSt h pc with got := (pcSt h pc).got ++ [(l.idx, d, p)] })

/-- A column command that closes its row. -/
def closeAfter (close : Bool) (pc bank : Nat) (h : Hw) : Hw := if close then setRows h pc (tdel (pcSt h pc).rows bank) else h

/-- A drain has moved one more line by a column command: with its fourth, or when the queue is empty, it ends (R217). -/
def countDrained (pc : Nat) (h : Hw) : Hw :=
  let s := pcSt h pc
  match s.granted with
  | some (.drain i n) => noteMarks (setPc h pc { s with granted := if 3 ≤ n || s.wq.isEmpty then none else some (.drain i (n + 1)) }) pc
  | _ => h

/-- What a command does that the die accepts; `noise` is what the TSVs add to a line read. -/
def dieEffect (noise : Nat) (c : Core) : DieCmd → Core
  | .act pc bank row => c.onHw (fun h => setRows h pc (tset (pcSt h pc).rows bank row))
  | .pre pc bank => c.onHw (fun h => setRows h pc (tdel (pcSt h pc).rows bank))
  | .prea pc => c.onHw (fun h => setRows h pc [])
  | .refpb pc => c.onHw (fun h => refreshBanks 1 h pc)
  | .trr .. => c
  | .sre pc => c.onHw (fun h =>
      let n := (owed h pc).toNat + (pcSt h pc).emergency.length
      let h := refreshBanks n h pc
      let h := setDie h (dieOf pc) { dieSt h (dieOf pc) with floor := band h (dieOf pc) }
      showSr (setPc h pc { pcSt h pc with sr := true, carried := n, emergency := [], excess := 0, rows := [] }) (dieOf pc))
  | .srx pc => c.onHw (fun h => showSr (setOwed (setPc h pc { pcSt h pc with sr := false, carried := 0, emergency := [], excess := 0 }) pc 0) (dieOf pc))
  | .mrw pc reg value => c.onHw (fun h =>
      let d := dieSt h (dieOf pc)
      setDie h (dieOf pc) (match reg with | 0 => { d with rl := value } | 1 => { d with wl := value } | _ => { d with training := value }))
  | .rd pc bank col close => (collectColumn c pc bank col noise).onHw (closeAfter close pc bank)
  | .wr pc bank _ close e => ((drainNoisy c e (noise % 2 ^ 576)).onHw (closeAfter close pc bank)).onHw (countDrained pc)
  | .train _ => c
  | .nop _ => c

def cmdPc : DieCmd → Nat
  | .act pc .. | .pre pc _ | .prea pc | .refpb pc | .trr pc .. | .sre pc | .srx pc | .mrw pc .. | .rd pc .. | .wr pc .. | .train pc | .nop pc => pc

/-- The die's check of a write burst (R185): the CRC-16 over data and check symbols as received against the one received, `noise` being what the TSVs added to the 72 bytes and, above them, to the CRC. -/
def burstFails (e : WqEntry) (noise : Nat) : Bool :=
  let sent := encodeLine e.data e.poison
  let order := fun (w : Nat) => let bs := leBytes 72 w; bs.drop 8 ++ bs.take 8
  noise != 0 && (burstCrc (order sent) ^^^ (noise / 2 ^ 576)) != burstCrc (order (sent ^^^ (noise % 2 ^ 576)))

/-- Issues a command: it takes a sequence number and enters the retry buffer of 16; a die under an alert ignores it; with bad parity or write CRC it is not executed and an alert begins (R170, R185, R186). -/
def issue (c : Core) (cmd : DieCmd) (badParity : Bool) (noise : Nat) : Core :=
  let ch := chOf (cmdPc cmd)
  let k := chSt c.hw ch
  let injParity := c.hw.inject.parity == some ch
  let isWr := match cmd with | .wr .. => true | _ => false
  let injCrc := isWr && c.hw.inject.write == some ch
  let badParity := badParity || injParity
  let badCrc := injCrc || (match cmd with | .wr _ _ _ _ e => burstFails e noise | _ => false)
  let k := { k with seq := (k.seq + 1) % 16, retry := k.retry ++ [(k.seq, cmd)], alert := if k.alert.isSome then k.alert else if badParity || badCrc then some (k.seq, !badParity) else none, fails := if k.alert.isNone && (badParity || badCrc) then 1 else k.fails }
  let c := c.onHw (fun h =>
    let h := setCh h ch k
    let h := if injParity then { h with inject := { h.inject with parity := none }, react := { h.react with injected := h.react.injected + 1 } } else h
    if injCrc then { h with inject := { h.inject with write := none }, react := { h.react with injected := h.react.injected + 1 } } else h)
  if k.alert.isSome then c else dieEffect noise c cmd

/-- The alert frame that the die sends: a start bit of 1, the sequence number, 0 for parity or 1 for CRC, a stop bit of 0 (R185); the number's most significant bit first (assumption 136). -/
def alertFrame (a : Nat × Bool) : List Bool := [true] ++ (List.range 4).map (fun i => bitAt a.1 (3 - i)) ++ [a.2, false]

/-- A command of the controller, when it may issue it: the die is powered and not in reset, and fewer than 16 commands are outstanding (R186). -/
def command (ok : Hw → Bool) (cmd : DieCmd) (bad : Bool) (noise : Nat) (before : Hw → Hw) (c : Core) : Core :=
  let h := c.hw
  if h.mode == .run && decide ((chSt h (chOf (cmdPc cmd))).retry.length < 16) && decide (dieState h (dieOf (cmdPc cmd)) ≠ 1) && decide (dieState h (dieOf (cmdPc cmd)) ≠ 3) && ok h then
    issue (c.onHw before) cmd bad noise
  else c

/-- The pseudo-channel is out of self-refresh. -/
def live (pc : Nat) (h : Hw) : Bool := !(pcSt h pc).sr && dieOn h (dieOf pc)

/-! Rows (R171, R172). -/

/-- Where the next line of a transfer lies. -/
def nextPlace (h : Hw) (got : List (Nat × Line × Bool)) (x : Xfer) : Option (Nat × Nat) :=
  (x.lines.find? (fun l => !got.any (fun g => g.1 == l.idx))).map (fun l =>
    let n := physOf (route h (l.line / 1024)) l.line
    (pBank n, pRow n))

/-- The banks and rows that requests of a pseudo-channel need next, in the controller's order of preference: the granted one, then waiting ones by descending input, then by age, a drain that competes behind the transfers of its input (R171, R217). -/
def rowWants (h : Hw) (pc : Nat) : List (Nat × Nat) :=
  let s := pcSt h pc
  let held := match s.granted with
    | some (.xfer x _) => (nextPlace h s.got x).toList
    | some (.drain _ _) => (s.wq.head?.map (fun e => (pBank e.phys, pRow e.phys))).toList
    | _ => []
  let drain := fun (i : Nat) => if drainAllowed h pc && drainInput h pc == i then (s.wq.head?.map (fun e => (pBank e.phys, pRow e.phys))).toList else []
  held ++ ((span 2 12).reverse.map (fun i =>
    (((s.cut.filter (fun e => e.1 == i)).map Prod.snd).foldl (fun l x => insertAge x l) [] ++ inputQ h pc i).filterMap (nextPlace h []) ++ drain i)).flatten

/-- A row may be closed: the granted transfer does not need it, and of the requests for the bank the preferred one does not, unless something waits at input 14 (R171). -/
def mayClose (h : Hw) (pc bank : Nat) : Bool :=
  !grantNeeds h pc bank && (at14 h pc || (match (rowWants h pc).find? (fun w => w.1 == bank) with
    | some w => tfind (pcSt h pc).rows bank != some w.2
    | none => true))

/-- A row of a closed bank may be opened: the preferred request for the bank needs it. Between banks spacing decides, which has no time here (R171, assumption 137). -/
def mayOpen (h : Hw) (pc bank row : Nat) : Bool :=
  !thas (pcSt h pc).rows bank && (match (rowWants h pc).find? (fun w => w.1 == bank) with | some w => w.2 == row | none => false)

/-- ACT opens a row of a closed bank; its draw is made when it is first issued (R183). -/
def execAct (pc bank row : Nat) (bad : Bool) (s : State) : Host.Outcome State Fault Refusal :=
  runCore (wfAct pc bank row bad)
    (command (fun h => live pc h && mayOpen h pc bank row) (.act pc bank row) bad 0 (fun h => drawNeighbours (bump h 0x5120 1 (chOf pc)) pc bank row)) s

def execPre (pc bank : Nat) (bad : Bool) (s : State) : Host.Outcome State Fault Refusal :=
  runCore (wfPre pc bank bad) (command (fun h => live pc h && mayClose h pc bank) (.pre pc bank) bad 0 id) s

def execPrea (pc : Nat) (bad : Bool) (s : State) : Host.Outcome State Fault Refusal :=
  runCore (wfPrea pc bad) (command (fun h => live pc h && (pcSt h pc).rows.all (fun r => mayClose h pc r.1)) (.prea pc) bad 0 id) s

/-- A refresh has the grant (R179). -/
def refreshGranted (h : Hw) (pc : Nat) : Bool := match (pcSt h pc).granted with | some (.refresh _) => true | _ => false

/-- The counts that a REFPB changes as it issues, by the grant it uses: an excess refresh lowers the owed count towards the limit, one that fell due at the limit leaves it, a routine one lowers it, and with it what is in excess (R178 to R181). -/
def countRefresh (pc : Nat) (h : Hw) : Hw :=
  let s := pcSt h pc
  match s.granted with
  | some (.refresh true) =>
    let h :=
      if s.excess != 0 && s.emergency.all (fun t => decide (s.excessAt ≤ t)) then setOwed (setPc h pc { s with granted := none, excess := s.excess - 1 }) pc (owed h pc - 1)
      else setPc h pc { s with granted := none, emergency := s.emergency.drop 1 }
    raise (bump h 0x5021 3 pc) Src.emergencyRefresh { selector := unitSel 4 pc }
  | _ =>
    let left := owed h pc - 1
    setOwed (bump (setPc h pc { s with granted := none, routineAt := now h, excess := min s.excess (left - owedLimit h pc).toNat }) 0x5021 2 pc) pc left

def execRefpb (pc : Nat) (bad : Bool) (s : State) : Host.Outcome State Fault Refusal :=
  runCore (wfRefpb pc bad)
    (command (fun h => live pc h && rotationIdle h pc && refreshGranted h pc) (.refpb pc) bad 0 (countRefresh pc)) s

/-- The counts that a TRR changes as it issues; it draws like an ACT (R183, R184). One issued as emergency refresh raises EMERGENCY_REFRESH; 0x5021:03 counts refreshes alone (assumption 157). -/
def countTrr (pc bank row : Nat) (h : Hw) : Hw :=
  let s := pcSt h pc
  let late := s.trr.any (fun r => r.1 == bank && r.2.1 == row && r.2.2.2)
  let i := s.trr.findIdx (fun r => r.1 == bank && r.2.1 == row)
  let h := bump (setPc h pc { s with trr := s.trr.eraseIdx i, granted := none }) 0x5021 4 pc
  let h := if late then raise h Src.emergencyRefresh { selector := unitSel 6 (pc * 16 + bank) } else h
  drawNeighbours h pc bank row

/-- A TRR refreshes the queued row that has the grant, of a closed bank (R184). -/
def trrGranted (h : Hw) (pc bank row : Nat) : Bool :=
  !thas (pcSt h pc).rows bank && (match (pcSt h pc).granted with | some (.targeted b r _) => b == bank && r == row | _ => false)

def execTrr (pc bank row : Nat) (bad : Bool) (s : State) : Host.Outcome State Fault Refusal :=
  runCore (wfTrr pc bank row bad)
    (command (fun h => live pc h && trrGranted h pc bank row) (.trr pc bank row) bad 0 (countTrr pc bank row)) s

/-- SRE when the banks are closed and no grant is held. -/
def execSre (pc : Nat) (bad : Bool) (s : State) : Host.Outcome State Fault Refusal :=
  runCore (wfSre pc bad)
    (command (fun h => live pc h && (pcSt h pc).rows.isEmpty && (pcSt h pc).granted.isNone) (.sre pc) bad 0 id) s

def execSrx (pc : Nat) (bad : Bool) (s : State) : Host.Outcome State Fault Refusal :=
  runCore (wfSrx pc bad) (command (fun h => (pcSt h pc).sr && awake h && (trkSt h (trkOf pc)).change.isNone) (.srx pc) bad 0 id) s

def execMrw (pc reg value : Nat) (bad : Bool) (s : State) : Host.Outcome State Fault Refusal :=
  runCore (wfMrw pc reg value bad) (command (fun _ => true) (.mrw pc reg value) bad 0 id) s

/-- A column command ends its row: as commanded, or with an idle time of 0, once `after` shows no request that needs the row (R172). None that is needed is closed. -/
def closes (h : Hw) (pc bank : Nat) (close : Bool) (after : Hw) : Bool := (close || obj h 0x5000 1 == 0) && !rowNeeded after pc bank

/-- RD and RDA: the line reaches the controller, with the errors of the TSVs on it. -/
def readColumn (pc bank col : Nat) (noise : BitVec 576) (bad close : Bool) (c : Core) : Core :=
  match (if live pc c.hw then readTarget c.hw pc bank col else none) with
  | none => c
  | some (l, _) =>
    let after := setPc c.hw pc { pcSt c.hw pc with got := (pcSt c.hw pc).got ++ [(l.idx, 0#512, false)] }
    command (fun _ => true) (.rd pc bank col (closes c.hw pc bank close after)) bad (fromBurst noise.toNat) id c

def execRd (pc bank col : Nat) (noise : BitVec 576) (bad : Bool) (s : State) : Host.Outcome State Fault Refusal :=
  runCore (wfRd pc bank col noise bad) (readColumn pc bank col noise bad false) s

def execRda (pc bank col : Nat) (noise : BitVec 576) (bad : Bool) (s : State) : Host.Outcome State Fault Refusal :=
  runCore (wfRda pc bank col noise bad) (readColumn pc bank col noise bad true) s

/-- WR and WRA: the oldest queued line of a granted drain, when it lies at a bank and column of the open row. -/
def writeColumn (pc bank col : Nat) (bad : Bool) (noise : BitVec 592) (close : Bool) (c : Core) : Core :=
  let s := pcSt c.hw pc
  let drains := match s.granted with | some (.drain _ _) => true | _ => false
  match s.wq with
  | e :: rest =>
    if live pc c.hw && drains && pBank e.phys = bank && pCol e.phys = col && tfind s.rows bank = some (pRow e.phys) then
      command (fun _ => true) (.wr pc bank col (closes c.hw pc bank close (setPc c.hw pc { s with wq := rest })) e) bad (noise.toNat / 2 ^ 576 * 2 ^ 576 + fromBurst (noise.toNat % 2 ^ 576)) id c
    else c
  | [] => c

def execWr (pc bank col : Nat) (bad : Bool) (noise : BitVec 592) (s : State) : Host.Outcome State Fault Refusal :=
  runCore (wfWr pc bank col bad noise) (writeColumn pc bank col bad noise false) s

def execWra (pc bank col : Nat) (bad : Bool) (noise : BitVec 592) (s : State) : Host.Outcome State Fault Refusal :=
  runCore (wfWra pc bank col bad noise) (writeColumn pc bank col bad noise true) s

def execTrainCommand (pc : Nat) (bad : Bool) (s : State) : Host.Outcome State Fault Refusal :=
  runCore (wfTrainCommand pc bad) (command (live pc) (.train pc) bad 0 id) s

/-- A row unused for the idle time, that no request needs, is closed by PRE (R172). -/
def execRowIdleClose (pc bank : Nat) (s : State) : Host.Outcome State Fault Refusal :=
  runCore (wfRowIdleClose pc bank)
    (command (fun h => live pc h && thas (pcSt h pc).rows bank && !rowNeeded h pc bank) (.pre pc bank) false 0 id) s

/-! Refresh that falls due (R178, R179, R184). -/

def refreshDue (pc : Nat) (h : Hw) : Hw :=
  if h.mode == .run && live pc h then
    if decide (owed h pc < owedLimit h pc) then
      setOwed (if owed h pc = 0 then setPc h pc { pcSt h pc with routineAt := now h } else h) pc (owed h pc + 1)
    else setPc h pc { pcSt h pc with emergency := (pcSt h pc).emergency ++ [now h] }
  else h

def execRefreshDue (pc : Nat) (s : State) : Host.Outcome State Fault Refusal := runHw (wfRefreshDue pc) (refreshDue pc) s

/-- The oldest queued row that waits at input 2 past the escalation time moves to input 14. -/
def trrEscalate (pc : Nat) (h : Hw) : Hw :=
  let s := pcSt h pc
  let i := s.trr.findIdx (fun r => !r.2.2.2)
  if h.mode == .run && decide (i < s.trr.length) then
    bump (setPc h pc { s with trr := s.trr.modify i (fun r => (r.1, r.2.1, now h, true)) }) 0x5021 5 pc
  else h

def execTrrEscalation (pc : Nat) (s : State) : Host.Outcome State Fault Refusal := runHw (wfTrrEscalation pc) (trrEscalate pc) s

/-- A die's band rises: what its pseudo-channels owe above the new limit becomes emergency refresh (R180). -/
def bandRises (h : Hw) (d : Nat) : Hw :=
  (span (8 * d) 8).foldl (fun h p => setPc h p { pcSt h p with excess := (owed h p - owedLimit h p).toNat, excessAt := now h }) h

/-! Alerts and replay (R185 to R188). -/

/-- The buffered commands from the failed one on, oldest first. -/
def replayList (k : Chan) (failed : Nat) : List (Nat × DieCmd) := k.retry.dropWhile (fun e => e.1 != failed)

/-- RESYNC, then the failed command and every later one again with fresh sequence numbers, counted and raised by its kind; `again` is whether the first fails once more (R186). -/
def replay (ch : Nat) (again : Bool) (c : Core) : Core :=
  let k := chSt c.hw ch
  match k.alert with
  | none => c
  | some (failed, crc) =>
    let cmds := (replayList k failed).map Prod.snd
    let kept := k.retry.takeWhile (fun e => e.1 != failed)
    let seq := (k.seq + 1) % 16
    let nums := cmds.zipIdx.map (fun e => ((seq + e.2) % 16, e.1))
    let k := { k with seq := (seq + cmds.length) % 16, retry := kept ++ nums, alert := if again then some (seq, crc) else none, fails := if again then k.fails + 1 else 0, retrained := again && k.retrained }
    let c := c.onHw (fun h => noteReplay (setCh h ch k) ch crc)
    if again then c else cmds.foldl (dieEffect 0) c

/-- An alert is answered by a replay; one that names a command that has now failed 4 times in a row waits for retraining (R187). -/
def takeAlert (ch : Nat) (again : Bool) (c : Core) : Core := if 4 ≤ (chSt c.hw ch).fails then c else replay ch again c

def execAlert (ch : Nat) (again : Bool) (s : State) : Host.Outcome State Fault Refusal :=
  runCore (wfAlert ch again) (fun c => if c.hw.mode == .run then takeAlert ch again c else c) s

/-- RESYNC ends the alert at the die: the replay that it begins succeeds. -/
def execResync (ch : Nat) (s : State) : Host.Outcome State Fault Refusal :=
  runCore (wfResync ch) (fun c => if c.hw.mode == .run then takeAlert ch false c else c) s

/-! Gear changes (R191, R192, R201). -/

/-- The gear a track should run at: the slowest of what 0x5010:02, the limits of R187 and R190, the thermal ceiling and power management allow. -/
def wantedGear (h : Hw) (t : Nat) : Nat :=
  let ceiling := obj h 0x7810 4 t
  max (max (permittedGear h t) (trkSt h t).powerGear) (if ceiling = 3 then 0 else ceiling)

/-- The gear of the next change: a track that returns from a thermal ceiling or a cap action goes one gear faster at a time (R331, Table 11.6). -/
def nextGear (h : Hw) (t : Nat) : Nat :=
  if (trkSt h t).returning && decide (wantedGear h t < gear h t) then gear h t - 1 else wantedGear h t

/-- A granted read completes: its remaining lines are read by the controller. -/
def finishRead (pc : Nat) (x : Xfer) (q : Txn) (c : Core) : Core :=
  let got := (pcSt c.hw pc).got
  answerRead (c.onHw (fun h => setPc h pc { pcSt h pc with granted := none, got := [] })) x q got

/-- Transfers under way on pseudo-channels complete, before their dies leave service: reads, drains and the atomics in the units (R18, R191). -/
def finishGrants (pcs : List Nat) (c : Core) : Core :=
  pcs.foldl (fun c pc =>
    let free := c.onHw (fun h => setPc h pc { pcSt h pc with granted := none, got := [] })
    match (pcSt c.hw pc).granted with
    | some (.xfer x _) => match txn c.hw x.txn with
      | some q => if isRead c.hw x then finishRead pc x q c else (x.lines.foldl (fun c l => rmwBefore c (chOf pc) l.line) c).onHw (fun h => freePath h x.txn)
      | none => free
    | some (.drain _ _) => writeDrain pc c
    | some _ => free
    | none => c) c

/-- A die that an array reset command has still to reset: no gear, power or parking decision changes it meanwhile (R25). -/
def resetPending (h : Hw) (d : Nat) : Bool := h.chans.resets.any (fun r => r.2.contains d)

/-- Array resets that can begin do: each command resets its dies one after the other; one whose die is in reset, or whose track changes gear, waits (R25, R33, R192, assumption 149). The transfers under way complete, and so does the replay of a standing alert (R18, R186). -/
def startResets (c : Core) : Core :=
  (((c.hw.chans.resets.filterMap (fun r => r.2.head?)).eraseDups).filter (fun d => dieOn c.hw d && (trkSt c.hw (d / 2)).change.isNone)).foldl
    (fun c d => ((span (4 * d) 4).foldl (fun c ch => replay ch false c) (finishGrants (span (8 * d) 8) c)).onHw (fun h => beginReset h d)) c

/-- A track wants another gear and can change now: its dies are ON, no alert stands but one that a lower gear is to end, and every alert window has closed (R187, R188, R192). -/
def gearReady (h : Hw) (t : Nat) : Bool :=
  dieOn h (2 * t) && dieOn h (2 * t + 1) && !resetPending h (2 * t) && !resetPending h (2 * t + 1) && !trackParked h t && decide (wantedGear h t ≠ gear h t) &&
  (span (8 * t) 8).all (fun ch => (chSt h ch).retrained || ((chSt h ch).alert.isNone && (chSt h ch).retry.isEmpty))

/-- The band that the timing sets of a die's controllers are loaded for (R176, R192). -/
def timingBand (h : Hw) (d : Nat) : Nat := (dieSt h d).bandHeld.getD (band h d)

/-- The die's latencies for a gear, by MRW to each pseudo-channel (R175, R191); the set swapped in holds the counts of the band as it now is. -/
def writeLatencies (g : Nat) (h : Hw) (d : Nat) : Hw :=
  let h := (span (4 * d) 4).foldl (fun h ch => ownCommands h ch 4 false) h
  setDie h d { dieSt h d with rl := (timing g 0).getD 1 0, wl := (timing g 0).getD 2 0, bandHeld := some (band h d) }

/-- Steps 1 to 5 of Table 6.6: transfers complete, self-refresh, the timing sets swapped, the new latencies written. Tracks change one at a time, the lowest first. -/
def gearStart (t : Nat) (c : Core) : Core :=
  let idle := (List.range 8).all (fun k => (trkSt c.hw k).change.isNone)
  if awake c.hw && idle && gearReady c.hw t && (List.range t).all (fun k => !gearReady c.hw k) then
    let g := nextGear c.hw t
    (finishGrants (span (16 * t) 16) c).onHw (fun h =>
      let h := [2 * t, 2 * t + 1].foldl (fun h d => writeLatencies g (enterSr h d (band h d)) d) h
      let h := (span (8 * t) 8).foldl (fun h ch => setObj h 0x5012 1 ch (1 - obj h 0x5012 1 ch)) h
      setTrk h t { trkSt h t with change := some (g, now h), returning := (trkSt h t).returning && decide (wantedGear h t < g) })
  else c

def execGearChange (track : Nat) (s : State) : Host.Outcome State Fault Refusal :=
  runCore (wfGearChange track) (gearStart track) s

/-! Retraining and spares (R189, R190). -/

/-- The layer position of a die in Table 1.1. -/
def dieLayer (d : Nat) : Nat := if d < 8 then d + 2 else d + 3

/-- A report entry as the stack holds and sends it: its reserved bytes are zero (R6, Table 15.11). -/
def cleanEntry (e : List Byte) : List Byte :=
  if e.headD 0#8 == 3#8 then e.take 4 ++ List.replicate 4 0#8 else e.take 7 ++ [0#8]

/-- Adds an entry to the report of repairs in force (R432). -/
def addRemap (h : Hw) (e : List Byte) : Hw := { h with test := { h.test with remaps := h.test.remaps ++ [cleanEntry e] } }

/-- Spares left in a group of Table 15.11: data groups of a pseudo-channel have two, the command groups of a channel one. -/
def sparesLeft (k : Chan) (g : Nat) : Nat :=
  if 3 ≤ g / 2 then k.spareCmd else if g % 2 = 0 then k.spareD0 else k.spareD1

def takeSpare (k : Chan) (g : Nat) : Chan :=
  if 3 ≤ g / 2 then { k with spareCmd := k.spareCmd - 1 }
  else if g % 2 = 0 then { k with spareD0 := k.spareD0 - 1 } else { k with spareD1 := k.spareD1 - 1 }

/-- The track's fastest permitted gear is lowered by one until the next power-up (R187, R190). -/
def imposeGear (h : Hw) (t : Nat) : Hw := setTrk h t { trkSt h t with imposed := min 2 (permittedGear h t + 1) }

/-- A TSV below the eye threshold moves to a spare of its group, or there is none (R190). -/
def remapTsv (ch : Nat) (h : Hw) (e : Eye) : Hw :=
  let k := chSt h ch
  let left := sparesLeft k e.group
  let entry := fun (type spare : Nat) => leBytes 8 (type + ch * 2 ^ 8 + e.group * 2 ^ 16 + e.tsv * 2 ^ 24 + spare * 2 ^ 32 + dieLayer (ch / 4) * 2 ^ 40 + 2 * 2 ^ 48)
  if left = 0 then
    let h := addRemap h (entry 2 0xFF)
    imposeGear (raise { h with test := { h.test with unresolved := h.test.unresolved + 1 } } Src.tsvNoSpare { selector := unitSel 3 ch }) (ch / 8)
  else
    let used := if 3 ≤ e.group / 2 then 0 else 2 - left
    let h := addRemap (setCh h ch (takeSpare k e.group)) (entry 1 used)
    let h := setObj (bump h 0x5120 8 ch) 0x5120 9 ch (obj h 0x5120 9 ch - 1)
    raise h Src.tsvRemap { selector := unitSel 3 ch }

/-- Retrains the TSVs of a channel: every bank closes, TRAIN bursts run on both pseudo-channels, each TSV's delay is set to the centre of its eye, the narrowest eye is kept, narrow ones are remapped (R189, R190). -/
def retrain (ch : Nat) (eyes : List Eye) (h : Hw) : Hw :=
  let h := [2 * ch, 2 * ch + 1].foldl (fun h p => setRows h p []) h
  let k := chSt h ch
  let h := setCh h ch { k with seq := (k.seq + 4) % 16, delays := eyes.foldl (fun d e => tput 0 d (64 * e.group + e.tsv) e.centre) k.delays }
  let h := match eyes.map Eye.width with
    | [] => h
    | x :: xs => setObj h 0x5120 10 ch (xs.foldl min x)
  (eyes.filter (fun e => decide (e.width < obj h 0x5030 2))).foldl (remapTsv ch) h

/-- The channels of a list are retrained, each with its own eyes (R18, R191). -/
def retrainAll (chs : List Nat) (eyes : List (List Eye)) (h : Hw) : Hw :=
  chs.zipIdx.foldl (fun h k => retrain k.1 (eyes.getD k.2 []) h) h

/-- Steps 6 to 8 of Table 6.6: SRX, every TSV retrained at the new gear, the track resumes; a band that came meanwhile counts now (R192), the capacity model runs (R221). -/
def gearComplete (t : Nat) (eyes : List (List Eye)) (h : Hw) : Hw :=
  match (trkSt h t).change with
  | some (g, since) =>
    if awake h then
      let h := [2 * t, 2 * t + 1].foldl (fun h d => let h := leaveSr h d; setDie h d { dieSt h d with bandHeld := none }) h
      let h := retrainAll (span (8 * t) 8) eyes h
      let h := setTrk h t { trkSt h t with change := none }
      let h := setObj (bump h 0x5010 3 t) 0x5010 4 t (max (obj h 0x5010 4 t) (now h - since))
      modelRun (setObj h 0x5010 1 t g)
    else h
  | none => h

/-- A reset that waited for the change begins (R192). -/
def execGearChangeComplete (track : Nat) (s : State) (eyes : List (List Eye) := []) : Host.Outcome State Fault Refusal :=
  runCore (wfGearChangeComplete track eyes) (fun c => startResets (c.onHw (gearComplete track eyes))) s

/-- A path of the channel has granted its retraining window, and no transfer holds the other (R189). -/
def windowGranted (h : Hw) (ch : Nat) : Bool :=
  let gs := [2 * ch, 2 * ch + 1].map (fun p => (pcSt h p).granted)
  gs.any (fun g => match g with | some (.retrain _) => true | _ => false) &&
  gs.all (fun g => match g with | none => true | some (.retrain _) => true | _ => false)

/-- A periodic window: it falls due and waits for a refresh grant, and runs once it has it (R189). -/
def retrainWindow (ch : Nat) (eyes : List Eye) (h : Hw) : Hw :=
  if !(awake h && dieOn h (ch / 4) && (trkSt h (ch / 8)).change.isNone) then h
  else if windowGranted h ch then
    let h := setCh h ch { chSt h ch with retrain := false, retrainLate := false }
    let h := [2 * ch, 2 * ch + 1].foldl (fun h p => setPc h p { pcSt h p with granted := none }) h
    retrain ch eyes (bump h 0x5120 7 ch)
  else if (chSt h ch).retrain then h
  else setCh h ch { chSt h ch with retrain := true, retrainAt := now h }

def execRetrainingWindow (ch : Nat) (eyes : List Eye) (s : State) : Host.Outcome State Fault Refusal :=
  runHw (wfRetrainingWindow ch eyes) (retrainWindow ch eyes) s

def execRetrainingWindowEscalation (ch : Nat) (s : State) : Host.Outcome State Fault Refusal :=
  runHw (wfRetrainingWindowEscalation ch)
    (fun h => if awake h && (chSt h ch).retrain then setCh h ch { chSt h ch with retrainLate := true, retrainAt := now h } else h) s

/-! The end of an alert window, and repeated failure (R186, R187). -/

/-- The oldest command's alert window closes without an alert. -/
def bufferRelease (ch : Nat) (h : Hw) : Hw :=
  let k := chSt h ch
  match k.alert with
  | none => setCh h ch { k with retry := k.retry.drop 1 }
  | some (f, _) => if k.retry.head?.map Prod.fst = some f then h else setCh h ch { k with retry := k.retry.drop 1 }

def execRetryBufferRelease (ch : Nat) (s : State) : Host.Outcome State Fault Refusal :=
  runHw (wfRetryBufferRelease ch) (bufferRelease ch) s

/-- A command failed 4 times in a row (R187): the channel is retrained and replays; `again` is whether the command then fails once more. After 4 further failures the track's gear is lowered and the command waits for it; at G2 the channel has failed, and the replay drops what it writes. -/
def replayLimit (ch : Nat) (eyes : List Eye) (again : Bool) (c : Core) : Core :=
  let k := chSt c.hw ch
  if c.hw.mode != .run || k.alert.isNone || k.fails < 4 then c
  else if !k.retrained then
    replay ch again (c.onHw (fun h => retrain ch eyes (raise (bump (setCh h ch { k with fails := 0, retrained := true }) 0x5120 6 ch) Src.replayLimit { selector := unitSel 3 ch })))
  else if gear c.hw (ch / 8) = 2 then
    replay ch false (c.onHw (fun h => raise (setCh h ch { k with failed := true, fails := 0 }) Src.channelFailed { selector := unitSel 3 ch }))
  else c.onHw (fun h => imposeGear (setCh h ch { k with fails := 0 }) (ch / 8))

def execReplayLimit (ch : Nat) (eyes : List Eye) (s : State) (again : Bool := false) : Host.Outcome State Fault Refusal :=
  runCore (wfReplayLimit ch eyes again) (replayLimit ch eyes again) s

/-! Self-refresh rate (R193). -/

/-- The die's comparators change its rate in self-refresh, never below the floor it received with SRE; 0x5140:01 shows the rate once the die is ON (R27). -/
def rateStep (d step : Nat) (h : Hw) : Hw :=
  if dieState h d = 2 then setDie h d { dieSt h d with rate := max step (dieSt h d).floor } else h

def execSelfRefreshRateStep (die step : Nat) (s : State) : Host.Outcome State Fault Refusal :=
  runHw (wfSelfRefreshRateStep die step) (rateStep die step) s

/-! Priority scrub (R196 to R198). -/

/-- Marks a bank retention-suspect: its priority scrub starts at line 0. -/
def markSuspect (h : Hw) (bkn : Nat) : Hw :=
  let p := bkn / 16
  let s := pcSt h p
  setObj (setPc h p { s with prio := tset s.prio (bkn % 16) 0, scrubAt := if s.prio.isEmpty then now h else s.scrubAt }) 0x5130 1 bkn 1

/-- The scrub of the lowest suspect bank reads and checks its next line; lines are visited in ascending row order. -/
def prioLine (pc : Nat) (c : Core) : Core :=
  match (pcSt c.hw pc).prio with
  | (bank, i) :: _ =>
    let granted := match (pcSt c.hw pc).granted with | some .scrub => true | _ => false
    if !(c.hw.mode == .run && live pc c.hw && granted && (chSt c.hw (chOf pc)).alert.isNone) then c
    else
      let n := lineAt pc bank (i / 16) (i % 16)
      let bad := (wqFind c.hw n).isNone && (corrFind c.hw n).isNone && !c.hw.chans.recorded.contains n && (decodeLine (cellBits c n)).cls == .uncorrectable
      let (c, _, _) := readLine c n 0 false
      c.onHw (fun h =>
        let h := if bad then bump h 0x5130 4 (pc * 16 + bank) else h
        let s := pcSt h pc
        let h := setPc h pc { s with granted := none, scrubAt := now h }
        if i + 1 < 66560 * 16 then setPc h pc { pcSt h pc with prio := tset s.prio bank (i + 1) }
        else bump (setObj (setPc h pc { pcSt h pc with prio := tdel s.prio bank }) 0x5130 1 (pc * 16 + bank) 0) 0x5130 5)
  | [] => c

def execPriorityScrubLine (pc : Nat) (s : State) : Host.Outcome State Fault Refusal :=
  runCore (wfPriorityScrubLine pc) (prioLine pc) s

end Sys2Proof.Machine
end

