-- ==== Sys2Proof/Machine/Crypto.lean ====
section
/-!
DEFINITION. SHA-256 and SHA-384 (R415, R428), ECDSA on P-384 (R428), the CRC-16 of calibration records (R422). The constants
of SHA-2 are computed as its standard defines them: leading bits of the fractions of square and cube roots of primes.
-/
namespace Sys2Proof.Machine

/-! SHA-2. -/

/-- The largest r below 2^n with r^k ≤ v. -/
def rootBits (k v : Nat) : Nat → Nat → Nat
  | 0, r => r
  | n + 1, r => rootBits k v n (if (r + 2 ^ n) ^ k ≤ v then r + 2 ^ n else r)

/-- The first `w` bits of the fraction of the k-th root of p. -/
def rootFrac (k w p : Nat) : Nat := rootBits k (p * 2 ^ (k * w)) (w + 6) 0 % 2 ^ w

/-- The primes below 410, the first 80. -/
def primes : List Nat := (span 2 408).filter (fun n => (span 2 19).all (fun d => decide (n ≤ d) || n % d != 0))

/-- What distinguishes the two hashes: word width, rotations of Σ0, Σ1, σ0 and σ1, the last two ending in a shift. -/
structure ShaKind where
  w : Nat
  rounds : Nat
  big0 : Nat × Nat × Nat
  big1 : Nat × Nat × Nat
  small0 : Nat × Nat × Nat
  small1 : Nat × Nat × Nat

def sha256Kind : ShaKind := ⟨32, 64, (2, 13, 22), (6, 11, 25), (7, 18, 3), (17, 19, 10)⟩
def sha512Kind : ShaKind := ⟨64, 80, (28, 34, 39), (14, 18, 41), (1, 8, 7), (19, 61, 6)⟩

def rotR (w x n : Nat) : Nat := x / 2 ^ n + x % 2 ^ n * 2 ^ (w - n)
def bigSigma (k : ShaKind) (r : Nat × Nat × Nat) (x : Nat) : Nat := rotR k.w x r.1 ^^^ rotR k.w x r.2.1 ^^^ rotR k.w x r.2.2
def smallSigma (k : ShaKind) (r : Nat × Nat × Nat) (x : Nat) : Nat := rotR k.w x r.1 ^^^ rotR k.w x r.2.1 ^^^ x / 2 ^ r.2.2

/-- The message schedule: `n` more words after those of `ws`, newest first. -/
def schedule (k : ShaKind) : Nat → List Nat → List Nat
  | 0, ws => ws
  | n + 1, ws => schedule k n (((smallSigma k k.small1 (ws.getD 1 0) + ws.getD 6 0 + smallSigma k k.small0 (ws.getD 14 0) + ws.getD 15 0) % 2 ^ k.w) :: ws)

/-- One round with a constant and a schedule word. -/
def shaRound (k : ShaKind) (v : List Nat) (kw : Nat × Nat) : List Nat :=
  match v with
  | [a, b, c, d, e, f, g, h] =>
    let ch := (e &&& f) ^^^ ((2 ^ k.w - 1 - e) &&& g)
    let maj := (a &&& b) ^^^ (a &&& c) ^^^ (b &&& c)
    let t1 := h + bigSigma k k.big1 e + ch + kw.1 + kw.2
    let t2 := bigSigma k k.big0 a + maj
    [(t1 + t2) % 2 ^ k.w, a, b, c, (d + t1) % 2 ^ k.w, e, f, g]
  | _ => v

/-- One block of 16 words. -/
def shaBlock (k : ShaKind) (cs st block : List Nat) : List Nat :=
  let ws := (schedule k (k.rounds - 16) block.reverse).reverse
  List.zipWith (fun x y => (x + y) % 2 ^ k.w) st ((cs.zip ws).foldl (shaRound k) st)

/-- The value of bytes, most significant first. -/
def beNat (bs : List Byte) : Nat := bs.foldl (fun v b => 256 * v + b.toNat) 0

/-- `n` bytes of a value, most significant first. -/
def beBytes (n v : Nat) : List Byte := (leBytes n v).reverse

/-- Splits `n` chunks of `size` bytes. -/
def chunksOf (size : Nat) : Nat → List Byte → List (List Byte)
  | 0, _ => []
  | n + 1, bs => bs.take size :: chunksOf size n (bs.drop size)

/-- The hash state after a message, from an initial state. -/
def sha2 (k : ShaKind) (init : List Nat) (msg : List Byte) : List Nat :=
  let size := 2 * k.w
  let blocks := (msg.length + 1 + k.w / 4 + size - 1) / size
  let padded := fitBytes (blocks * size - k.w / 4) (msg ++ [0x80#8]) ++ beBytes (k.w / 4) (8 * msg.length)
  let cs := (primes.take k.rounds).map (rootFrac 3 k.w)
  (chunksOf size blocks padded).foldl (fun st b => shaBlock k cs st ((chunksOf (k.w / 8) 16 b).map beNat)) init

def sha256 (msg : List Byte) : List Byte :=
  ((sha2 sha256Kind ((primes.take 8).map (rootFrac 2 32)) msg).map (beBytes 4)).flatten

def sha384 (msg : List Byte) : List Byte :=
  (((sha2 sha512Kind (((primes.drop 8).take 8).map (rootFrac 2 64)) msg).take 6).map (beBytes 8)).flatten

/-! ECDSA on P-384. -/

def ecP : Nat := 2 ^ 384 - 2 ^ 128 - 2 ^ 96 + 2 ^ 32 - 1
def ecN : Nat := 0xffffffffffffffffffffffffffffffffffffffffffffffffc7634d81f4372ddf581a0db248b0a77aecec196accc52973
def ecB : Nat := 0xb3312fa7e23ee7e4988e056be3f82d19181d9c6efe8141120314088f5013875ac656398d8a2ed19d2a85c8edd3ec2aef
def ecG : Nat × Nat :=
  (0xaa87ca22be8b05378eb1c71ef320ad746e1d3b628ba79b9859f741e082542a385502f25dbf55296c3a545e3872760ab7,
   0x3617de4a96262c6f5d9e98bf9292dc29f8f41dbd289a147ce9da3113b5f0b8c00a60b1ce1d7e819d7a431d7c90ea0e5f)

/-- b^e mod m over the low `n` bits of e. -/
def powMod (m : Nat) : Nat → Nat → Nat → Nat
  | 0, _, _ => 1
  | n + 1, b, e => (if e % 2 = 1 then b else 1) * powMod m n (b * b % m) (e / 2) % m

/-- Inverse modulo a prime of at most 384 bits. -/
def invMod (m a : Nat) : Nat := powMod m 384 (a % m) (m - 2)

/-- A point of the curve; none is the point at infinity. -/
abbrev EcPoint := Option (Nat × Nat)

def subMod (m a b : Nat) : Nat := (a + (m - b % m)) % m

/-- Sum of two points. -/
def ecAdd : EcPoint → EcPoint → EcPoint
  | none, q => q
  | p, none => p
  | some (x1, y1), some (x2, y2) =>
    if x1 = x2 && (y1 + y2) % ecP == 0 then none
    else
      let l := if x1 = x2 then (3 * x1 * x1 + (ecP - 3)) * invMod ecP (2 * y1) % ecP else subMod ecP y2 y1 * invMod ecP (subMod ecP x2 x1) % ecP
      let x := subMod ecP (subMod ecP (l * l) x1) x2
      some (x, subMod ecP (l * subMod ecP x1 x) y1)

/-- A multiple of a point over the low `n` bits of k. -/
def ecMul : Nat → Nat → EcPoint → EcPoint
  | 0, _, _ => none
  | n + 1, k, p => ecAdd (if k % 2 = 1 then p else none) (ecMul n (k / 2) (ecAdd p p))

/-- A signature (r, s) of a hash verifies under an uncompressed public key of 97 bytes. -/
def ecdsaVerify (key : List Byte) (r s hash : Nat) : Bool :=
  let x := beNat ((key.drop 1).take 48)
  let y := beNat (key.drop 49)
  let onCurve := decide (x < ecP) && decide (y < ecP) && (y * y) % ecP == (x * x * x + (ecP - 3) * x + ecB) % ecP
  if !(key.length == 97 && key.headD 0#8 == 4#8 && onCurve && decide (0 < r) && decide (r < ecN) && decide (0 < s) && decide (s < ecN)) then false
  else
    let w := invMod ecN s
    match ecAdd (ecMul 384 (hash * w % ecN) (some ecG)) (ecMul 384 (r * w % ecN) (some (x, y))) with
    | some (u, _) => u % ecN == r
    | none => false

/-! CRC-16 (R422): bytes bit 0 first, polynomial 0x1021, from 0xFFFF, with no final inversion (assumption 34). -/

def crc16 (bs : List Byte) : Nat := bs.foldl (crcByte 0x8408) 0xFFFF

end Sys2Proof.Machine
end

