-- ==== Sys2Proof/Machine/Integrity.lean ====
section
/-!
DEFINITION. Write-backs of corrected lines (R285, R286), patrol scrub (R291 to R295, R473) and its hard-error check (R293).
-/
namespace Sys2Proof.Machine

/-- The oldest line of a channel's correction queue enters the write queue through the read-modify-write unit; one that a newer write has overtaken is dropped (R286). With the write queue full it waits. -/
def writeBack (ch : Nat) (h : Hw) : Hw :=
  let k := chSt h ch
  match k.corr with
  | [] => h
  | e :: rest =>
    let p := pPc e.phys
    let popped := setCh h ch { k with corr := rest }
    if e.stale then bump popped 0x9800 6 p
    else if (wqFind h e.phys).isSome || decide (32 ≤ (pcSt h p).wq.length) then h
    else queueLine popped { phys := e.phys, data := e.data, poison := e.poison, check := e.check }

def execWriteBack (ch : Nat) (s : State) : Host.Outcome State Fault Refusal :=
  runHw (wfWriteBack ch) (fun h => only (awake h) (writeBack ch) h) s

/-! Patrol scrub. -/

/-- Positions of a pass (R291). -/
def passPositions : Nat := 1064960

/-- Whether a slot holds a live or moving parcel, is the destination of a move, or is a system slot (Table 10.4, R473); the entry of its parcel is looked up (R145). -/
def slotLive (h : Hw) (track slot : Nat) : Hw × Bool :=
  match slotState h track slot with
  | .system => (h, true)
  | .inUse =>
    match parcelAt h track slot with
    | some p => let (h, e) := lookup h p; (h, !entReleased e)
    | none => (h, true)
  | _ => (h, false)

/-- What scrub does with one line it has read (Table 10.4). -/
def scrubLine (live : Bool) (n : Nat) (d : Decoded) (p : Nat) (h : Hw) : Hw :=
  match d.cls, live with
  | .clean, _ => h
  | .poisoned, _ => h
  | .corrected pos, true => queueWriteBack (bump (noteDecode h n d.cls false) 0x9900 8 p) n d.data false (some pos)
  | .poisonedCorrected _, true => queueWriteBack (noteDecode h n d.cls false) n d.data true none
  | .uncorrectable, true => queueWriteBack (bump (noteDecode h n d.cls false) 0x9900 9 p) n d.data true none
  | .corrected _, false => queueWriteBack (bump (noteDecode h n d.cls false) 0x9900 10 p) n 0#512 false none
  | .poisonedCorrected _, false => queueWriteBack (noteDecode h n d.cls false) n 0#512 false none
  | .uncorrectable, false =>
    let h := setObj (bump h 0x9800 2 p) 0x9802 2 0 (locOf n)
    let h := match hostLine h n with | some l => setObj h 0x9802 1 0 l | none => h
    let h := raise (bump h 0x9900 10 p) Src.freeLineRewritten (whereLine h n)
    queueWriteBack (reportBad h n) n 0#512 false none

/-- Cells of a row that have lost their value since it was last read, by line in the row. -/
def upsetCells (pc bank row : Nat) (upsets : List (Nat × BitVec 576)) (c : Core) : Core :=
  upsets.foldl (fun c u =>
    let n := lineAt pc bank row u.1
    c.storeLine n (cellBits c n ^^^ u.2.toNat)) c

/-- Reads a line from the array for scrub; a line that is queued, on its way back, or recorded by a move, is settled already (R197). -/
def scrubRead (live : Bool) (pc : Nat) (c : Core) (n : Nat) : Core :=
  if (wqFind c.hw n).isSome || (corrFind c.hw n).isSome || c.hw.chans.recorded.contains n || (chSt c.hw (chOf pc)).failed then c
  else let (c, d) := arrayRead c n 0; c.onHw (scrubLine live n d pc)

/-- The pass ends at its last position; the next starts on schedule, or now if this one is late (R294). -/
def passEnd (pc : Nat) (h : Hw) : Hw :=
  let s := pcSt h pc
  let next := if s.late then now h else s.passStart + obj h 0x9900 1 * sec 3600
  let h := bump (setObj h 0x9900 4 pc 0) 0x9900 5 pc
  let h := setPc h pc { s with passStart := next, prevStart := s.passStart, late := false, behind := false }
  let n := obj h 0x9900 5 pc
  if (List.range 128).all (fun p => decide (n ≤ obj h 0x9900 5 p)) then
    let first := (List.range 128).foldl (fun m p => if obj h 0x9900 5 p = n then min m (pcSt h p).prevStart else m) s.passStart
    setObj h 0x9900 11 0 ((now h - first) / sec 1)
  else h

/-- The position after a row, or the end of the pass. -/
def passNext (pc : Nat) (h : Hw) : Hw :=
  let n := obj h 0x9900 4 pc
  noteBehind (if n + 1 < passPositions then setObj h 0x9900 4 pc (n + 1) else passEnd pc h) pc

/-- The position that has fallen due: in a retired or parked slot it is skipped; else its row is read once scrub has the grant, as four transfers that each take one (R291, R292); under an alert nothing is read (R185). -/
def patrolRow (pc : Nat) (upsets : List (Nat × BitVec 576)) (c : Core) : Core :=
  let n := obj c.hw 0x9900 4 pc
  let bank := n % 16
  let row := n / 16
  let slot := 16 * (row / 4) + bank
  if !patrolDue c.hw pc || (chSt c.hw (chOf pc)).alert.isSome then c
  else match slotState c.hw (trkOf pc) slot with
    | .retired | .parked => c.onHw (passNext pc)
    | _ =>
      match (pcSt c.hw pc).granted with
      | some .scrub =>
        let (h, live) := slotLive (bumpBy c.hw 0x3430 (patrolInput c.hw pc) (chOf pc) 3) (trkOf pc) slot
        let c := ((List.range 16).map (lineAt pc bank row)).foldl (scrubRead live pc) (upsetCells pc bank row upsets { c with hw := h })
        c.onHw (fun h => passNext pc (bump (setPc h pc { pcSt h pc with granted := none }) 0x9900 7 pc))
      | _ => c

def execPatrolScrubRow (pc : Nat) (upsets : List (Nat × BitVec 576)) (s : State) : Host.Outcome State Fault Refusal :=
  runCore (wfPatrolScrubRow pc upsets) (patrolRow pc upsets) s

/-- A drained write-back is read once more: the same symbol in error again is a hard error, which counts as four for its row and its slot (R293, R472). -/
def hardCheck (pc : Nat) (noise : BitVec 576) (c : Core) : Core :=
  match c.hw.chans.hard.find? (fun e => pPc e.1 == pc) with
  | none => c
  | some (n, pos) =>
    if !(patrolRuns c.hw pc) || (chSt c.hw (chOf pc)).alert.isSome then c
    else
      let c := c.onHw (fun h => { h with chans := { h.chans with hard := h.chans.hard.erase (n, pos) } })
      if (wqFind c.hw n).isSome then c
      else
        let (c, d) := arrayRead c n (fromBurst noise.toNat)
        c.onHw (fun h =>
          let h := noteDecode h n d.cls false
          let h := if wantsWriteBack d.cls then queueWriteBack h n d.data d.poison none else h
          if d.cls = .corrected pos || d.cls = .poisonedCorrected pos then
            reportErrors (raise (bump h 0x9800 8 pc) Src.hardError (whereLine h n)) n 4
          else h)

def execHardErrorCheck (pc : Nat) (noise : BitVec 576) (s : State) : Host.Outcome State Fault Refusal :=
  runCore (wfHardErrorCheck pc noise) (hardCheck pc noise) s

/-- A pass has not ended at the end of its interval (R294). -/
def scrubLate (pc : Nat) (h : Hw) : Hw :=
  let s := pcSt h pc
  if patrolRuns h pc && !s.late then
    raise (bump (setPc h pc { s with late := true }) 0x9900 6 pc) Src.scrubLate { selector := unitSel 4 pc }
  else h

def execScrubLate (pc : Nat) (s : State) : Host.Outcome State Fault Refusal := runHw (wfScrubLate pc) (scrubLate pc) s

end Sys2Proof.Machine
end

