-- ==== Sys2Proof/Machine/Moves.lean ====
section
/-!
DEFINITION. Moves of parcels (R156 to R163), zeroing of free slots (R153), the policies of each epoch (R164), track parking
(R165, R166), the journal and the rebuild of the route table (R149 to R151).
-/
namespace Sys2Proof.Machine

/-- Placement works: the stack is in ACTIVE or IDLE and no sleep request runs. -/
def placing (h : Hw) : Bool := h.mode == .run && decide (obj h 0x7000 1 ≤ 1) && h.power.sleep.isNone

/-! The journal and the rebuild. -/

def execJournalRecordApply (s : State) : Host.Outcome State Fault Refusal :=
  runHw true (fun h => only (awake h) applyOldest h) s

/-- Rewrites the entries of the banks served from the mirror; a move whose entry is rebuilt is rolled back (R150, R151). -/
def rebuild (h : Hw) : Hw :=
  let inBank := fun (p : Nat) => tget false h.place.mirrorBanks (p % 32) || decide (1 < tget 0 h.place.sramBad p)
  let h := (h.place.moves.filter (fun m => inBank m.parcel)).foldl (rollBack true) h
  let keys := ((h.place.route ++ h.place.image).map Prod.fst ++ (h.place.journal.map journalParcels).flatten).filter inBank
  let h := keys.foldl (fun h p => putRoute h p (mirrorWord h p)) h
  let h := setPlace h { h.place with mirrorBanks := [], sramBad := [] }
  bump (setObj h 0x4000 1 0 (if grey h then 2 else h.faults.greyPlacement)) 0x4080 1

def execRouteTableRebuildComplete (s : State) : Host.Outcome State Fault Refusal :=
  runHw true (fun h => only (awake h && obj h 0x4000 1 == 3) rebuild h) s

/-! Zeroing and re-creation. -/

/-- Both dies of a track serve requests, and no channel of it waits for an alert to end (R186). -/
def trackOn (h : Hw) (t : Nat) : Bool :=
  dieOn h (2 * t) && dieOn h (2 * t + 1) && (span (8 * t) 8).all (fun ch => (chSt h ch).alert.isNone)

/-- Move traffic of a track has entered its channels at input 0; into how many transfers is left open (R158, R223, assumption 60). -/
def inputZero (h : Hw) (t : Nat) : Hw :=
  (span (8 * t) 8).foldl (fun h ch => let (n, h) := draw h 63; bumpBy h 0x3430 0 ch n) h

/-- The lowest FREE_DIRTY slot of a track becomes zero, until the track's reserve is full (R153). -/
def zeroSlot (t : Nat) (c : Core) : Core :=
  let h := c.hw
  if !(placing h && trackOn h t && !trackParked h t && decide (zeroedSlots h t < obj h 0x4030 1)) then c
  else match lowestSlot h t .freeDirty none with
    | none => c
    | some s =>
      let c := (c.onHw (fun h => dropSlotWrites h t s)).store (.zero (physLine t s 0) 1024)
      c.onHw (fun h => inputZero (setSlot (sweepSlot 3 [] h t s) t s .freeZeroed) t)

def execSlotZeroing (track : Nat) (s : State) : Host.Outcome State Fault Refusal :=
  runCore (wfSlotZeroing track) (zeroSlot track) s

/-- An access that waits for a zeroed slot resumes when one can be had (R154). -/
def resumeParcel (c : Core) : Core :=
  match c.hw.place.waits with
  | p :: _ => if awake c.hw then (recreateFor c p).1 else c
  | [] => c

def execParcelRecreateResume (s : State) : Host.Outcome State Fault Refusal := runCore true resumeParcel s

/-! Warm-up (R156). -/

def warmUpEnd (h : Hw) : Hw :=
  let listed := h.place.queue.any (fun r => r.prio == 0) || h.place.moves.any (fun m => m.prio == 0)
  if placing h && obj h 0x4000 1 == 0 && decide (h.boot.readyAt + ms (obj h 0x4000 2) ≤ now h) && decide (obj h 0x4000 3 ≤ obj h 0x4000 4) && !listed
  then setObj h 0x4000 1 0 1 else h

def execWarmUpEnd (s : State) : Host.Outcome State Fault Refusal := runHw true warmUpEnd s

/-! Policies (Table 5.6). -/

/-- Temperature of a die, in 1/256 °C. -/
def dieTemp (h : Hw) (d : Nat) : Int := toSigned 16 (obj h 0x7810 2 d)
def trackTemp (h : Hw) (t : Nat) : Int := max (dieTemp h (2 * t)) (dieTemp h (2 * t + 1))
def distrusted (h : Hw) (d : Nat) : Bool := flag h 0x7821 1 d
/-- A die of the track is in Russet or under distrust. -/
def relief (h : Hw) (t : Nat) : Bool := [2 * t, 2 * t + 1].any (fun d => band h d == 2 || distrusted h d)
def slate (h : Hw) (t : Nat) : Bool := band h (2 * t) == 0 && band h (2 * t + 1) == 0
/-- No policy moves a parcel to the track from another (R164). -/
def barred (h : Hw) (t : Nat) : Bool := trackParked h t || relief h t || decide (freeSlots h t < obj h 0x4030 1)

/-- Queues a move; a parcel claimed twice is moved for the lower priority number, and a move of it for a policy of lower precedence is abandoned (R162, R164). -/
def request (h : Hw) (r : MoveReq) : Hw :=
  let stays := h.place.queue.any (fun q => q.parcel == r.parcel && decide (q.prio ≤ r.prio)) || (match moveOf h r.parcel with | some m => decide (m.prio ≤ r.prio) | none => false)
  if stays then h else claim h r

/-- Live parcels of a track with at least some heat, hottest first, lowest number on a tie. -/
def insertHot (x : Nat × Nat) : List (Nat × Nat) → List (Nat × Nat)
  | [] => [x]
  | y :: ys => if y.2 < x.2 then x :: y :: ys else y :: insertHot x ys

def hotParcels (h : Hw) (t least : Nat) : List Nat :=
  ((h.place.heat.filter (fun e => decide (least ≤ e.2) && entTrack (route h e.1) == t && entState (route h e.1) != 2 && !entReleased (route h e.1))).foldl (fun l e => insertHot e l) []).map Prod.fst

def thermalRelief (h : Hw) (t : Nat) : Hw :=
  if relief h t then (hotParcels h t (obj h 0x4020 3)).foldl (fun h p => request h { parcel := p, prio := 2 }) h else h

def bankSpread (h : Hw) (t : Nat) : Hw :=
  let heats := (List.range 16).map (columnHeat h t)
  let top := heats.foldl max 0
  let col := heats.findIdx (· == top)
  if top * 16 * 65536 ≤ obj h 0x4040 2 * heats.sum then h
  else match (hotParcels h t (obj h 0x4020 2)).find? (fun p => entSlot (route h p) % 16 == col && !entPinned (route h p)) with
    | some p => request h { parcel := p, prio := 4 }
    | none => h

/-- Operand parcels of recurring jobs that are not on their home track, at most 64 per epoch. -/
def coLocation (h : Hw) : Hw :=
  let ps := (h.place.wanted.map (fun w => ((span w.1 w.2.1).filter (fun p =>
    let e := route h p
    !entReleased e && !entPinned e && entTrack e != w.2.2)).map (fun p => (p, w.2.2)))).flatten
  (ps.take 64).foldl (fun h p => if slate h p.2 then request h { parcel := p.1, prio := 5, track := some p.2 } else h) h

/-- Power management calls for track parking, and for unparking (R312). -/
def parkingCalled (h : Hw) : Bool := match obj h 0x7030 1 with | 0 => false | 1 => obj h 0x7000 1 == 1 | _ => true
def unparkingCalled (h : Hw) : Bool := match obj h 0x7030 1 with | 0 => true | 1 => h.place.unparkCall | _ => false

/-- Free slots of the unparked tracks but one. -/
def freeElsewhere (h : Hw) (t : Nat) : Nat :=
  (((List.range 8).filter (fun k => k != t && !trackParked h k)).map (freeSlots h)).sum

/-- The track is to be compacted and parked (R165). -/
def compacts (h : Hw) (t : Nat) : Bool :=
  t != 0 && t != 4 && !trackParked h t && flag h 0x4011 6 t && parkingCalled h &&
  decide (obj h 0x4011 3 t + obj h 0x4030 2 ≤ freeElsewhere h t)

/-- Released, held parcels of a track are retired and their slots freed. -/
def retireReleased (h : Hw) (t : Nat) : Hw :=
  (h.place.route.filter (fun e => entTrack e.2 == t && entState e.2 == 0 && entReleased e.2)).foldl (fun h e =>
    let s := entSlot e.2
    let h := setRoute h e.1 (entryOf t s 2 true (entPinned e.2))
    bump (countParcel (setSlot (dropSlotWrites h t s) t s .freeDirty) (some t) none) 0x4070 2) h

/-- Compaction of one track, or its end when R165 no longer holds: as many moves are queued per epoch as may run at once. -/
def compaction (h : Hw) (t : Nat) : Hw :=
  if compacts h t then
    let h := retireReleased h t
    let ps := (((List.range slotsPerTrack).filterMap (parcelAt h t)).filter (fun p => !entPinned (route h p))).take (obj h 0x4010 2)
    ps.foldl (fun h p => request h { parcel := p, prio := 6 }) h
  else setPlace h { h.place with queue := h.place.queue.filter (fun r => !(r.prio == 6 && entTrack (route h r.parcel) == t)) }

def policies (h : Hw) : Hw :=
  if !flag h 0x4000 5 then h
  else
    let ts := List.range 8
    let h := if flag h 0x4041 1 then ts.foldl thermalRelief h else h
    let h := if flag h 0x4040 1 then ts.foldl bankSpread h else h
    let h := if flag h 0x4060 1 then coLocation h else h
    if flag h 0x4070 1 then ts.foldl compaction h else h

/-- An epoch boundary: the policies judge the counts, then every counter is halved (R157), and moves that waited for a later epoch may start (R164). In warm-up the list of R168 alone is served. -/
def heatEpoch (h : Hw) : Hw :=
  let h := setPlace h { h.place with queue := h.place.queue.map (fun r => { r with waits := false }) }
  let h := if obj h 0x4000 1 ≤ 1 then retirements h else h
  let h := if obj h 0x4000 1 = 1 then policies h else h
  setPlace h { h.place with waitsEpoch := false, heat := (h.place.heat.map (fun e => (e.1, e.2 / 2))).filter (fun e => e.2 != 0) }

def execHeatEpoch (s : State) : Host.Outcome State Fault Refusal :=
  runHw true (fun h => only (placing h) heatEpoch h) s

/-! Moves (R159). -/

/-- The coolest of some tracks that has a free slot: lowest maximum die temperature, lowest number on a tie. -/
def coolestOf (h : Hw) (ts : List Nat) : Option (Nat × Nat) :=
  let cands := ts.filterMap (fun t => (coolestSlot h t).map (fun s => (t, s)))
  cands.foldl (fun b x => match b with
    | none => some x
    | some y => if trackTemp h x.1 < trackTemp h y.1 then some x else some y) none

/-- Where the move of a parcel goes (Table 5.6). -/
def destination (h : Hw) (r : MoveReq) : Option (Nat × Nat) :=
  let own := entTrack (route h r.parcel)
  match r.prio with
  | 2 => coolestOf h ((List.range 8).filter (fun t => t != own && slate h t && !barred h t))
  | 5 => match r.track with
    | some t => if slate h t && !barred h t then coolestOf h [t] else none
    | none => none
  | 6 => if compacts h own then coolestOf h ((List.range 8).filter (fun t => t != own && !barred h t)) else none
  | _ => coolestOf h [own]

/-- The policy of a priority is enabled; retirement always is (R164). -/
def enabled (h : Hw) (prio : Nat) : Bool :=
  decide (prio ≤ 1) || flag h 0x4000 5 && (match prio with
    | 2 => flag h 0x4041 1
    | 4 => flag h 0x4040 1
    | 5 => flag h 0x4060 1
    | 6 => flag h 0x4070 1
    | _ => true)

/-- A queued move is called for now: moves run or, in warm-up, it serves the list of R168; its policy is enabled; no move of its parcel runs. -/
def calledFor (h : Hw) (r : MoveReq) : Bool :=
  (obj h 0x4000 1 == 1 || (obj h 0x4000 1 == 0 && r.prio == 0)) && enabled h r.prio && (moveOf h r.parcel).isNone

/-- It may start: it waits for no later epoch, and has somewhere to go. -/
def startable (h : Hw) (r : MoveReq) : Bool := calledFor h r && !r.waits && (destination h r).isSome

/-- A move within its track that finds no free slot there waits for a later epoch (R164). -/
def deferMove (h : Hw) (r : MoveReq) : MoveReq :=
  if calledFor h r && [0, 1, 3, 4].contains r.prio && (destination h r).isNone then { r with waits := true } else r

/-- A queued move has lost its purpose: its parcel is released, or has left the slot to be retired. -/
def moot (h : Hw) (r : MoveReq) : Bool :=
  let e := route h r.parcel
  entReleased e || (match r.retire with | some k => k != slotKey (entTrack e) (entSlot e) | none => false) || (decide (3 ≤ r.prio) && entPinned e)

/-- A request that has lost its purpose goes; the slot it names is retired if it stands free or holds a released parcel. -/
def dropMoot (h : Hw) (r : MoveReq) : Hw :=
  let h := setPlace h { h.place with queue := h.place.queue.filter (fun q => q != r) }
  match r.retire with
  | some k => if entPinned (route h r.parcel) && !entReleased (route h r.parcel) && 3 ≤ r.prio then h else retireSlot h (k / slotsPerTrack) (k % slotsPerTrack) r.prio
  | none => h

/-- The queued move that comes first by priority. -/
def firstReq (h : Hw) : Option MoveReq :=
  (h.place.queue.filter (startable h)).foldl (fun b r => match b with
    | none => some r
    | some q => if r.prio < q.prio then some r else some q) none

/-- Phase 0: the destination slot is taken, the entry becomes moving, the dirty bitmap is clear (R159). -/
def startMove (h : Hw) : Hw :=
  let h := (h.place.queue.filter (moot h)).foldl dropMoot h
  if h.place.waitsEpoch || obj h 0x4010 2 ≤ h.place.moves.length then h
  else
    let h := setPlace h { h.place with queue := h.place.queue.map (deferMove h) }
    match firstReq h with
    | none => h
    | some r =>
      match destination h r with
      | none => h
      | some (t, s) =>
        let (h, e) := lookup h r.parcel
        let h := setPlace h { h.place with queue := h.place.queue.filter (fun q => q != r) }
        let h := putRoute h r.parcel (entryOf (entTrack e) (entSlot e) 1 false (entPinned e))
        let h := setSlot (dropSlotWrites h t s) t s .inUse
        setMoves h (h.place.moves ++ [{ parcel := r.parcel, srcTrack := entTrack e, srcSlot := entSlot e, dstTrack := t, dstSlot := s, prio := r.prio, lastProgress := now h, retire := r.retire.isSome }])

def execMoveStart (s : State) : Host.Outcome State Fault Refusal :=
  runHw true (fun h => only (placing h && !grey h) startMove h) s

/-- Reads one line as it stands, through the decoder; an uncorrectable line is recorded once, and not written back to the source (R162, R197). -/
def sourceLine (c : Core) (n : Nat) : Core × Line × Bool :=
  match wqFind c.hw n, corrFind c.hw n with
  | some e, _ => (c, e.data, e.poison)
  | none, some x => (c, x.data, x.poison)
  | none, none =>
    if (chSt c.hw (chOf (pPc n))).failed then (c, 0#512, true)
    else
      let (c, d) := arrayRead c n 0
      let h := noteDecode c.hw n d.cls false
      let h := match d.cls with
        | .corrected _ => queueWriteBack h n d.data false none
        | .poisonedCorrected _ => queueWriteBack h n d.data true none
        | .uncorrectable => { h with chans := { h.chans with recorded := n :: h.chans.recorded.filter (· != n) } }
        | _ => h
      ({ c with hw := h }, d.data, d.poison)

/-- Copies one line: it goes to the destination with fresh check symbols, poisoned if it is poisoned (R162); what waits there to be written of it is older, and gives way (R173, R286). -/
def copyLine (m : Move) (c : Core) (o : Nat) : Core :=
  let (c, data, poison) := sourceLine c (physLine m.srcTrack m.srcSlot o)
  let n := physLine m.dstTrack m.dstSlot o
  let p := pPc n
  (c.onHw (fun h =>
    let h := overtake (setPc h p { pcSt h p with wq := (pcSt h p).wq.filter (fun x => x.phys != n) }) n
    closeOwn (bump (openRow (ownCommands h (chOf p) 1 true) n) 0x5120 3 (chOf p)) n)).storeLine n (encodeLine data poison)

/-- A write of the move's own has failed: it was replayed, or its channel drops it (R162, R187). -/
def copyFails (h : Hw) (m : Move) (replayed : Bool) (lines : List Nat) : Bool :=
  replayed || lines.any (fun o => (chSt h (chOf (pPc (physLine m.dstTrack m.dstSlot o)))).failed)

/-- Bytes read from the source and written to the destination (0x4011:07), and their transfers at input 0. -/
def countMoved (m : Move) (lines : Nat) (h : Hw) : Hw :=
  inputZero (inputZero (bumpBy (bumpBy h 0x4011 7 m.srcTrack (64 * lines)) 0x4011 7 m.dstTrack (64 * lines)) m.srcTrack) m.dstTrack

/-- Lines whose dirty bit is set. -/
def dirtyLines (m : Move) : List Nat := (List.range 1024).filter (bitAt m.dirty)

/-- Phase 1: lines 0 to 1,023 are copied. Lines with no listed byte and none queued are zero on both sides; they are read and written all the same. -/
def copyAll (parcel : Nat) (replayed : Bool) (c : Core) : Core :=
  match moveOf c.hw parcel with
  | none => c
  | some m =>
    if m.copied || !trackOn c.hw m.srcTrack || !trackOn c.hw m.dstTrack then c
    else if copyFails c.hw m replayed (List.range 1024) then c.onHw (fun h => rollBack true h m)
    else
      let src := physLine m.srcTrack m.srcSlot 0
      let queued := (((span (16 * m.srcTrack) 16).map (fun p => (pcSt c.hw p).wq.map WqEntry.phys)).flatten).filter (fun n => n / 1024 == src / 1024)
      let held := ((listedLines c.dram src 1024) ++ queued).map (· % 1024)
      let todo := if c.dram.zones.contains .all then (List.range 1024).filter held.contains else List.range 1024
      let c := (c.onHw (fun h =>
        let h := sweepSlot 2 todo (dropSlotWrites h m.dstTrack m.dstSlot) m.srcTrack m.srcSlot
        sweepSlot 3 todo h m.dstTrack m.dstSlot)).store (.zero (physLine m.dstTrack m.dstSlot 0) 1024)
      let c := todo.foldl (copyLine m) c
      c.onHw (fun h => match moveOf h parcel with
        | some m => countMoved m 1024 (setMove h { m with copied := true, lastProgress := now h })
        | none => h)

def execMoveCopyDone (parcel : Nat) (s : State) (replayed : Bool := false) : Host.Outcome State Fault Refusal :=
  runCore (wfMoveCopyDone parcel replayed) (fun c => onlyCore (awake c.hw) (copyAll parcel replayed) c) s

/-- The recopy phase is over: few dirty lines are left, or four passes are done. -/
def recopied (h : Hw) (m : Move) : Bool :=
  decide ((dirtyLines m).length ≤ obj h 0x4010 7) || decide (4 ≤ m.passes)

/-- Phase 2: every dirty line is copied again and its bit cleared. -/
def recopy (parcel : Nat) (replayed : Bool) (c : Core) : Core :=
  match moveOf c.hw parcel with
  | none => c
  | some m =>
    if !m.copied || recopied c.hw m || !trackOn c.hw m.srcTrack || !trackOn c.hw m.dstTrack then c
    else if copyFails c.hw m replayed (dirtyLines m) then c.onHw (fun h => rollBack true h m)
    else
      let ls := dirtyLines m
      (ls.foldl (copyLine m) c).onHw (fun h => match moveOf h parcel with
        | some m => countMoved m ls.length (setMove h { m with dirty := 0, passes := m.passes + 1, lastProgress := now h })
        | none => h)

def execMoveRecopyPass (parcel : Nat) (s : State) (replayed : Bool := false) : Host.Outcome State Fault Refusal :=
  runCore (wfMoveRecopyPass parcel replayed) (fun c => onlyCore (awake c.hw) (recopy parcel replayed) c) s

/-- After the swap: the source slot is FREE_DIRTY or RETIRED, and the move is counted. -/
def finishMove (m : Move) (h : Hw) : Hw :=
  let (h, e) := lookup h m.parcel
  let h := setRoute h m.parcel (entryOf m.dstTrack m.dstSlot 0 false (entPinned e))
  let h := dropSlotWrites h m.srcTrack m.srcSlot
  let h := setMoves h (h.place.moves.filter (fun x => x.parcel != m.parcel))
  let h := if m.retire then noteRetired (setSlot h m.srcTrack m.srcSlot .retired) m.srcTrack m.srcSlot
    else setSlot h m.srcTrack m.srcSlot .freeDirty
  let h := countParcel h (some m.srcTrack) (some m.dstTrack)
  let h := bump h 0x4010 3
  let h := match m.prio with
    | 2 => bump h 0x4041 2
    | 3 => bump h 0x4050 4
    | 5 => bump h 0x4060 3
    | _ => h
  rehome h m.parcel m.srcTrack m.dstTrack

/-- Lines of a parcel that wait in the read-modify-write units of a track, by channel. -/
def unitLines (h : Hw) (track parcel : Nat) : List (Nat × Nat) :=
  ((span (8 * track) 8).map (fun ch => (((chSt h ch).rmw.map rmwLineOf).filter (fun l => l / 1024 == parcel)).map (fun l => (ch, l)))).flatten

/-- Accesses to the parcel that have issued complete on the source slot: granted transfers, and what the read-modify-write units hold (R159). -/
def finishIssued (m : Move) (c : Core) : Core :=
  let c := finishGrants ((span (16 * m.srcTrack) 16).filter (fun p => match (pcSt c.hw p).granted with
    | some (.xfer x _) => x.lines.any (fun l => l.line / 1024 == m.parcel)
    | _ => false)) c
  (unitLines c.hw m.srcTrack m.parcel).foldl (fun c l => rmwBefore c l.1 l.2) c

/-- The end of phase 3, when every issued access is complete: the remaining dirty lines are copied, then the new entry is journaled and written (R159, R161). A write of the move's own that fails before that rolls the move back (R162). -/
def moveSwitch (parcel : Nat) (replayed : Bool) (c : Core) : Core :=
  match moveOf c.hw parcel with
  | none => c
  | some m =>
    if !(unitLines c.hw m.srcTrack parcel).isEmpty then c
    else if copyFails c.hw m replayed (dirtyLines m) then c.onHw (fun h => rollBack true h m)
    else
      let ls := dirtyLines m
      (ls.foldl (copyLine m) c).onHw (fun h => match moveOf h parcel with
        | some m => countMoved m ls.length (finishMove m h)
        | none => h)

/-- Phase 3: accesses that have issued complete on the source, then the parcel switches over; while one of them cannot run, the move waits (R159). -/
def swap (parcel : Nat) (replayed : Bool) (c : Core) : Core :=
  match moveOf c.hw parcel with
  | none => c
  | some m =>
    let locked := (List.range 32).any (fun e => (engine c.hw e).locks.any (fun k => k % 2 ^ 31 / 1024 == parcel))
    if !m.copied || locked || !recopied c.hw m || !trackOn c.hw m.srcTrack || !trackOn c.hw m.dstTrack then c
    else moveSwitch parcel replayed (finishIssued m c)

def execMoveSwap (parcel : Nat) (s : State) (replayed : Bool := false) : Host.Outcome State Fault Refusal :=
  runCore (wfMoveSwap parcel replayed) (fun c => onlyCore (awake c.hw) (swap parcel replayed) c) s

/-- A move without progress is abandoned; time with a die in RESET does not count (R160). -/
def moveTimeout (parcel : Nat) (h : Hw) : Hw :=
  match moveOf h parcel with
  | some m => if [2 * m.srcTrack, 2 * m.srcTrack + 1, 2 * m.dstTrack, 2 * m.dstTrack + 1].any (fun d => dieState h d == 1) then h else rollBack false h m
  | none => h

def execMoveProgressTimeout (parcel : Nat) (s : State) : Host.Outcome State Fault Refusal :=
  runHw (wfMoveProgressTimeout parcel) (fun h => only (awake h) (moveTimeout parcel) h) s

/-! Track parking (R165, R166). -/

/-- A track that holds no parcel is gated: its check bits are written zero first (R19), and its slots are PARKED. -/
def gateTrack (t : Nat) (c : Core) : Core :=
  let h := c.hw
  if !(placing h && compacts h t && obj h 0x4011 3 t == 0 && trackOn h t && !resetPending h (2 * t) && !resetPending h (2 * t + 1) && !h.place.moves.any (fun m => m.dstTrack == t || m.srcTrack == t)) then c
  else
    let c := { c with hw := (span 0 16).foldl (fun h p => setPc h (16 * t + p) { pcSt h (16 * t + p) with wq := [], rows := [], granted := none, got := [] }) h }
    let c := c.store (.zero (physLine t 0 0) (slotsPerTrack * 1024))
    c.onHw (fun h =>
      let h := (span (8 * t) 8).foldl (fun h k => let h := dropCorrections h k; setCh h k { chSt h k with retry := [], canary := false }) h
      let h := [2 * t, 2 * t + 1].foldl (fun h d => setDomain (setDieState h d 3) (arrDomain d) 2) h
      let h := setDomain h (dctDomain t) 2
      setObj (setObj (setObj h 0x4011 1 t 0) 0x4011 2 t 0) 0x4011 5 t 1)

def execTrackGate (track : Nat) (s : State) : Host.Outcome State Fault Refusal := runCore (wfTrackGate track) (gateTrack track) s

/-- A parked track is called back: its arrays are powered and zero-filled (R166). -/
def unparkTrack (t : Nat) (c : Core) : Core :=
  let h := c.hw
  let short := decide ((((List.range 8).filter (fun k => !trackParked h k)).map (zeroedSlots h)).sum < obj h 0x4030 3)
  let called := short || !flag h 0x4011 6 t || unparkingCalled h
  if placing h && trackParked h t && called && !h.place.unparking.contains t && h.test.testDie.all (fun d => d / 2 != t) then
    ((c.store (.fill (.die (2 * t)))).store (.fill (.die (2 * t + 1)))).onHw (fun h =>
      let h := [2 * t, 2 * t + 1].foldl (fun h d => setDomain h (arrDomain d) 0) h
      let h := setDomain h (dctDomain t) 0
      setPlace h { h.place with unparking := h.place.unparking ++ [t] })
  else c

def execTrackUnpark (track : Nat) (s : State) : Host.Outcome State Fault Refusal := runCore (wfTrackUnpark track) (unparkTrack track) s

/-- Zero-fill has ended: every slot that is not retired is FREE_ZEROED. -/
def unparkDone (t : Nat) (h : Hw) : Hw :=
  if !(awake h && h.place.unparking.contains t) then h
  else
    let h := setPlace h { h.place with
      unparking := h.place.unparking.filter (· != t), cleared := tput false h.place.cleared t true,
      slots := h.place.slots.filter (fun e => e.1 / slotsPerTrack != t || e.2 == .retired) }
    let free := slotsPerTrack - obj h 0x4011 4 t
    let h := setObj (setObj (setObj h 0x4011 5 t 0) 0x4011 1 t free) 0x4011 2 t free
    let h := (span (16 * t) 16).foldl (fun h p => setOwed (setPc h p { pcSt h p with emergency := [], excess := 0, sr := false }) p 0) h
    [2 * t, 2 * t + 1].foldl (fun h d => setDieState h d 0) h

def execTrackUnparkComplete (track : Nat) (s : State) : Host.Outcome State Fault Refusal :=
  runHw (wfTrackUnparkComplete track) (unparkDone track) s

end Sys2Proof.Machine
end

