-- ==== Sys2Proof/Machine/Power.lean ====
section
/-!
DEFINITION. Rails and clocks (R305, R310, R465), IDLE and gating (R308, R311, R312), the power cap (R313 to R315), sleep and
wake (R316 to R322).
-/
namespace Sys2Proof.Machine

/-! Rails and clocks. -/

def regulatorFault (rail track : Nat) (h : Hw) : Hw :=
  raise (setActive (setObj h 0x7050 3 0 (rail * 256 + track)) Src.regulatorFault true) Src.regulatorFault { selector := unitSel 1 track }

/-- A generated rail is out of tolerance for more than 10 µs (R305). -/
def execRegulatorFault (rail track : Nat) (s : State) : Host.Outcome State Fault Refusal :=
  runHw (wfRegulatorFault rail track) (fun h => only (h.mode != .held && (if rail = 1 then h.power.vppUp else h.power.vddqcUp)) (regulatorFault rail track) h) s

/-- A clock fault, raised as its cause appears (R310). -/
def clockFault (h : Hw) : Hw :=
  if srcActive h Src.clockFault then h else raise (bump (setActive h Src.clockFault true) 0x7060 2) Src.clockFault

/-- THM has power. -/
def thmOn (h : Hw) : Bool := h.mode != .held && domainState h 1 == 0

/-- The root PLL runs: not in SLEEP, and while tripped not before the restart (Tables 11.4 and 12.5). -/
def pllRuns (h : Hw) : Bool :=
  match h.mode with
  | .run => obj h 0x7000 1 != 2
  | .powerUp | .stopping => true
  | .off => domainState h 3 == 0
  | _ => false

/-- The check of every millisecond: PLL lock and every clock within 1,000 ppm where the PLL runs, and the offset of the crystal (R310). -/
def clockCheck (locked inRange : Bool) (offset : Int) (h : Hw) : Hw :=
  let h := setObj h 0x7060 3 0 (ofSigned 32 offset)
  if !pllRuns h then h
  else
    let h := setObj h 0x7060 1 0 (bit locked)
    if !locked || !inRange then clockFault h else setActive h Src.clockFault false

def execClockCheck (locked inRange : Bool) (offset : Int) (s : State) : Host.Outcome State Fault Refusal :=
  runHw (wfClockCheck locked inRange offset) (fun h => only (thmOn h && !h.power.xckStopped) (clockCheck locked inRange offset) h) s

/-- XCK has stopped for 10 µs: PMU and AO run from the ring oscillator. -/
def execXckStop (s : State) : Host.Outcome State Fault Refusal :=
  runHw true (fun h => only (h.mode != .held) (fun h => clockFault (setPower h { h.power with xckStopped := true })) h) s

def execXckResume (s : State) : Host.Outcome State Fault Refusal :=
  runHw true (fun h => only h.power.xckStopped (fun h =>
    setActive (setPower h { h.power with xckStopped := false }) Src.clockFault (!flag h 0x7060 1)) h) s

/-! IDLE and gating. -/

/-- No activity for the idle delay (R311). -/
def idleEntry (h : Hw) : Hw :=
  if h.mode == .run && obj h 0x7000 1 == 0 && h.power.sleep.isNone && !activity h then
    let h := setPlace (setObj h 0x7000 1 0 1) { h.place with unparkCall := false }
    setPower h { h.power with idleAt := now h }
  else h

def execIdleEntry (s : State) : Host.Outcome State Fault Refusal := runHw true idleEntry s

/-- ENGt goes OFF once its engines have run no part for the gating delay, if its budget allows (R308, R311). -/
def engineGate (t : Nat) (h : Hw) : Hw :=
  let idle := (span (4 * t) 4).all (fun e => (engine h e).part.isNone && (engine h e).queue.isEmpty)
  if h.mode == .run && decide (obj h 0x7000 1 ≤ 1) && idle && domainState h (engDomain t) == 0 then
    let h := gateDomain h (engDomain t) 2
    if domainState h (engDomain t) = 2 then engOff h t else h
  else h

def execEngineGate (track : Nat) (s : State) : Host.Outcome State Fault Refusal := runHw (wfEngineGate track) (engineGate track) s

/-- Every budget gains one transition each second, up to 64; a link domain that an empty one kept ON is gated now (R308, R311). -/
def budgetTick (h : Hw) : Hw :=
  gateLink ((List.range 62).foldl (fun h d => setObj h 0x7042 d 0 (min 64 (obj h 0x7042 d + 1))) h)

def execGatingBudgetTick (s : State) : Host.Outcome State Fault Refusal :=
  runHw true (fun h => only (h.mode != .held && h.mode != .off) budgetTick h) s

/-- In IDLE, every upstream laneset but the last of its port is called to park (R312). -/
def idlePark (h : Hw) : Hw :=
  if h.mode == .run && obj h 0x7000 1 == 1 then
    (List.range 16).foldl (fun h k =>
      if mayPark h k && !(laneset h k).parkWait then parkFor k h else h) h
  else h

def execIdleLanesetPark (s : State) : Host.Outcome State Fault Refusal := runHw true idlePark s

/-- Power management calls for unparking after the unpark delay in ACTIVE (R312). -/
def execUnparkCall (s : State) : Host.Outcome State Fault Refusal :=
  runHw true (fun h => only (h.mode == .run && obj h 0x7000 1 == 0 && obj h 0x7030 1 == 1) (fun h => setPlace h { h.place with unparkCall := true }) h) s

/-! The power cap. -/

/-- The engine clock of a track is halved: by the cap, by a die in Russet, or by a hot base die (R314, R330, R332). -/
def showHalved (h : Hw) (t : Nat) : Hw :=
  setObj h 0x7020 8 t (bit (h.power.actions.contains .engines || band h (2 * t) == 2 || band h (2 * t + 1) == 2 || flag h 0x7811 2))

/-- Power scale, the same on every track. -/
def powerScale (h : Hw) : Nat := obj h 0x7020 7 0

def setScale (h : Hw) (v : Nat) : Hw := modelRun ((List.range 8).foldl (fun h t => setObj h 0x7020 7 t v) h)

/-- Line transfers of a track so far. -/
def trackLines (h : Hw) (t : Nat) : Nat := ((List.range 8).map (fun c => obj h 0x3417 c t)).sum

/-- Lines of a track in the last millisecond. -/
def recentLines (h : Hw) (t : Nat) : Nat := trackLines h t - ((h.power.marks.headD []).getD t 0)

/-- The member of a list with the smallest measure, the first on a tie. -/
def leastBy (f : Nat → Nat) (l : List Nat) : Option Nat :=
  l.foldl (fun b x => match b with
    | none => some x
    | some y => if f x < f y then some x else some y) none

/-- The laneset that step 4 parks: on the permitting port with the fewest DATA flits sent, the highest in service that is not about to park (assumption 26). -/
def capLaneset (h : Hw) : Option Nat :=
  let ups := fun (p : Nat) => (portUps h p).filter (fun k => awake h && mayPark h k && !(laneset h k).parkWait)
  match leastBy (fun p => obj h 0x3000 p) ((List.range (portCount h)).filter (fun p => !(ups p).isEmpty)) with
  | some p => (ups p).getLast?
  | none => none

def takeAction (h : Hw) (a : CapAction) : Hw := setPower h { h.power with actions := a :: h.power.actions }

/-- The next action of Table 11.6, or CAP_UNMET when every step is at its limit. -/
def capAction (h : Hw) : Hw :=
  if obj h 0x7020 5 < powerScale h then setScale (takeAction h .scale) (powerScale h - 32)
  else if !h.power.actions.contains .engines then (List.range 8).foldl showHalved (takeAction h .engines)
  else match leastBy (recentLines h) ((List.range 8).filter (fun t => !trackParked h t && domainState h (dctDomain t) == 0 && decide (wantedGear h t < 2))) with
    | some t => setTrk (takeAction h (.gear t (trkSt h t).powerGear)) t { trkSt h t with powerGear := wantedGear h t + 1, returning := false }
    | none =>
      match capLaneset h with
      | some k => parkStart k (takeAction h (.park k))
      | none => if h.power.unmet then h else raise (bump (setPower h { h.power with unmet := true }) 0x7020 6) Src.capUnmet

/-- Undoes the most recent action in force. -/
def undoAction (h : Hw) : Hw :=
  match h.power.actions with
  | [] => h
  | a :: rest =>
    let h := setPower h { h.power with actions := rest, unmet := false }
    match a with
    | .scale => setScale h (min 256 (powerScale h + 32))
    | .engines => (List.range 8).foldl showHalved h
    | .gear t was => setTrk h t { trkSt h t with powerGear := was, returning := true }
    | .park k =>
      if lsState h k != 3 then setLaneset h k { laneset h k with parkWait := false }
      else if awake h then wakeLaneset k h
      else setPower h { h.power with parkedFor := h.power.parkedFor ++ [k] }

/-- The step that 0x7020:04 shows. -/
def capStep (h : Hw) : Nat :=
  if h.power.unmet then 5
  else match h.power.actions with
    | [] => 0
    | .scale :: _ => 1
    | .engines :: _ => 2
    | .gear .. :: _ => 3
    | .park _ :: _ => 4

/-- Activations and lines of a die so far. -/
def dieActs (h : Hw) (d : Nat) : Nat := ((span (4 * d) 4).map (fun k => obj h 0x5120 1 k)).sum
def dieLines (h : Hw) (d : Nat) : Nat := ((span (4 * d) 4).map (fun k => obj h 0x5120 2 k + obj h 0x5120 3 k)).sum

/-- The power controller compares the mean with the cap (R313). -/
def capControl (mean : Nat) (h : Hw) : Hw :=
  let cap := obj h 0x7020 1 * 65536
  let low := (obj h 0x7020 1 - obj h 0x7020 2) * 65536
  let h :=
    if cap < mean then capAction (setPower h { h.power with below := 0 })
    else if mean < low then
      let h := setPower h { h.power with below := min 10 (h.power.below + 1) }
      if h.power.below = 10 then undoAction h else h
    else setPower h { h.power with below := 0 }
  setObj h 0x7020 4 0 (capStep h)

/-- Nominal input voltages in Q16.16 and their tolerances in percent (Table 17.5). -/
def railNominal : List (Nat × Nat) := [(52429, 3), (55706, 2), (78643, 3), (72090, 3), (52429, 5)]

def railBad (i v : Nat) : Bool :=
  let n := railNominal.getD i (0, 0)
  decide (v * 100 < n.1 * (100 - n.2)) || decide (n.1 * (100 + n.2) < v * 100)

/-- Input rails: out for two measurements in a row raises INPUT_RAIL_OUT with the rail and the reading (R465). -/
def checkRails (volts : List Nat) (h : Hw) : Hw :=
  let bad := (List.range 5).filter (fun i => railBad i (volts.getD i 0))
  let h := bad.foldl (fun h i =>
    if h.power.railOut.contains i && !h.power.railRaised.contains i then
      let h := setPower h { h.power with railRaised := h.power.railRaised ++ [i] }
      raise (bump h 0x7070 6) Src.inputRailOut { detail := i + volts.getD i 0 * 2 ^ 32 }
    else h) h
  setPower h { h.power with railOut := bad, railRaised := h.power.railRaised.filter bad.contains }

/-- A generated rail is within its tolerance (Table 11.1). -/
def genGood (vddqc vpp : List Nat) : Bool :=
  vddqc.all (fun v => decide (49152 * 97 ≤ v * 100) && decide (v * 100 ≤ 49152 * 103)) &&
  vpp.all (fun v => decide (117965 * 95 ≤ v * 100) && decide (v * 100 ≤ 117965 * 105))

/-- The measurement of every 100 µs, wherever THM has power (R313, R465). The controller acts where there is something to act on: in power-up and while tripped everything stands as power-up leaves it. -/
def measure (watts volts vddqc vpp : List Nat) (h : Hw) : Hw :=
  let h := (List.range 5).foldl (fun h i => setObj (setObj h 0x7021 (i + 1) 0 (watts.getD i 0)) 0x7070 (i + 1) 0 (volts.getD i 0)) h
  let h := (List.range 8).foldl (fun h t => setObj (setObj h 0x7050 1 t (vddqc.getD t 0)) 0x7050 2 t (vpp.getD t 0)) h
  let vd := volts.getD 3 0
  let h := if obj h 0x7070 7 = 0 || vd < obj h 0x7070 7 then setObj h 0x7070 7 0 vd else h
  let h := if genGood vddqc vpp then setActive h Src.regulatorFault false else h
  let h := checkRails volts h
  let h := setObj h 0x7020 3 0 watts.sum
  let h := if h.mode == .run then capControl watts.sum h else h
  setPower h { h.power with
    marks := (h.power.marks ++ [(List.range 8).map (trackLines h)]).drop ((h.power.marks.length + 1) - 10)
    dieMarks := (h.power.dieMarks ++ [(List.range 16).map (fun d => (dieActs h d, dieLines h d))]).drop ((h.power.dieMarks.length + 1) - 10) }

def execPowerMeasurement (watts volts vddqc vpp : List Nat) (s : State) : Host.Outcome State Fault Refusal :=
  runHw (wfPowerMeasurement watts volts vddqc vpp) (fun h => only (thmOn h) (measure watts volts vddqc vpp) h) s

/-! Sleep. -/

/-- A sleep request begins its query phase; moves are rolled back first (R316, Table 5.5). -/
def startSleep (p : Option Nat) (h : Hw) : Hw :=
  let h := h.place.moves.foldl (rollBack false) h
  let q : Sleep := { path := p, start := now h, before := (List.range 62).map (domainState h) }
  setObj (setPower h { h.power with sleep := some q }) 0x7000 1 0 3

/-- A sleep request may start: none runs, no wake, shutdown or BIST is under way. -/
def sleepable (h : Hw) : Bool :=
  h.mode == .run && decide (obj h 0x7000 1 ≤ 1) && h.power.sleep.isNone && obj h 0xC010 2 == 0 && obj h 0xB010 2 != 1

/-- 0x7000:03: answered PENDING, or NOT_READY while it cannot start (R319). -/
def sleepRequest (c : Core) (p : Nat) : Act :=
  if sleepable c.hw then .wait (c.onHw (startSleep (some p))) else actHw c c.hw .notReady

/-- The stack asks for sleep itself after its delay in IDLE; never in Grey mode. -/
def execAutomaticSleep (s : State) : Host.Outcome State Fault Refusal :=
  runHw true (fun h => only (sleepable h && obj h 0x7000 1 == 1 && obj h 0x7000 4 != 0 && !grey h) (startSleep none) h) s

/-- Core dies above Slate or under distrust. -/
def dieWarm (h : Hw) : Bool := (List.range 16).any (fun d => band h d != 0 || distrusted h d)

/-- A bank is retention-suspect. -/
def anySuspect (h : Hw) : Bool := (List.range 128).any (fun p => !(pcSt h p).prio.isEmpty)

/-- An MGT operation that acts on jobs waits in a receive buffer: an abort, or a part of a kernel load (assumption 64). -/
def mgtJob (h : Hw) : Bool :=
  (List.range 4).any (fun p => (port h p).mgt.any (fun b => let idx := leNat ((b.drop 4).take 2); decide (0x6000 ≤ idx) && decide (idx ≤ 0x6FFF) && (b.headD 0#8 == 2#8 || b.headD 0#8 == 3#8)))

/-- The blocks that vote to refuse (Table 11.7). -/
def refusing (h : Hw) : List Nat :=
  let waits := (List.range 4).any (fun p => !(port h p).req.isEmpty || !(port h p).job.isEmpty || (port h p).fence.isSome)
  (if !h.chans.txns.isEmpty || waits || mgtJob h then [2] else []) ++ (if anySuspect h then [3] else []) ++
  (if !h.jobs.jobs.isEmpty || !h.jobs.loads.isEmpty then [4] else []) ++
  (if (List.range 24).any (fun k => lsState h k == 1 || lsState h k == 4) then [5] else []) ++
  (if h.faults.restarting then [7] else []) ++ (if dieWarm h then [10] else [])

/-- The channel controllers answer after a gear change or array reset has ended (R192). -/
def dctDefers (h : Hw) : Bool :=
  (List.range 8).any (fun t => (trkSt h t).change.isSome) || !h.chans.resets.isEmpty || (List.range 16).any (fun d => dieState h d == 1)

def execSleepVoteTimeout (block : Nat) (s : State) : Host.Outcome State Fault Refusal :=
  runHw (wfSleepVoteTimeout block) (fun h => match h.power.sleep with
    | some q => if q.stopping then h else refuseSleep h block
    | none => h) s

/-- A waiting write-back enters the write queue before sleep; one that a newer write has overtaken is dropped and counted (R286). -/
def flushCorrection (c : Core) (e : Correction) : Core :=
  let p := pPc e.phys
  if e.stale then c.onHw (fun h => bump h 0x9800 6 p)
  else (if wqRoom c.hw e.phys then c else drainOldest c p).onHw (fun h => queueLine h { phys := e.phys, data := e.data, poison := e.poison, check := e.check })

/-- Empties the correction queues and write queues of every channel. -/
def drainEverything (c : Core) : Core :=
  let c := (List.range 64).foldl (fun c k => ((chSt c.hw k).corr).foldl flushCorrection (c.onHw (fun h => setCh h k { chSt h k with corr := [] }))) c
  (List.range 128).foldl drainAll c

/-- The canary rows of a channel's banks are opened in turn and given 16 column commands each, reads 0x5120:02 or writes 0x5120:03 (R183, R194). -/
def sweepCanaries (sub : Nat) (h : Hw) (ch : Nat) : Hw :=
  let h := [2 * ch, 2 * ch + 1].foldl (fun h p =>
    (List.range 16).foldl (fun h b => [66560, 66561].foldl (fun h r => drawNeighbours h p b r) h) h) h
  ownCommands (bumpBy (bumpBy h 0x5120 1 ch 64) 0x5120 sub ch 1024) ch 1088 (sub == 3)

/-- Every controller writes both canary rows of every bank of its channel (R194). -/
def writeCanaries (h : Hw) : Hw :=
  (List.range 64).foldl (fun h ch => if dieOn h (ch / 4) then sweepCanaries 3 (setCh h ch { chSt h ch with canary := true }) ch else h) h

/-- Dies that are ON go into self-refresh with a floor. -/
def allSr (floor : Nat → Nat) (h : Hw) : Hw :=
  (List.range 16).foldl (fun h d => if dieState h d = 0 then enterSr h d (floor d) else h) h

/-- The stop step of the next block (Table 11.7); a block whose step cannot end yet keeps the request where it is. `sreFails` names a channel whose SRE fails its parity 4 times in a row (R187, R188). -/
def stopStep (q : Sleep) (c : Core) (sreFails : Option Nat := none) : Core :=
  let done := fun (h : Hw) => match h.power.sleep with
    | some q => setPower h { h.power with sleep := some { q with stopped := q.stopped + 1 } }
    | none => h
  match q.stopped with
  | 0 => c.onHw (fun h => done (setDomain (h.place.journal.foldl (fun h _ => applyOldest h) h) 6 1))
  | 1 => c.onHw done
  | 2 =>
    if (List.range 64).any (fun k => (chSt c.hw k).alert.isSome && decide (4 ≤ (chSt c.hw k).fails)) then c.onHw (fun h => refuseSleep h 3)
    else if (List.range 64).any (fun k => (chSt c.hw k).alert.isSome) || dctDefers c.hw then c
    else if let some ch := sreFails then (drainEverything c).onHw (fun h => refuseSleep ([(), (), ()].foldl (fun h _ => noteReplay (takeSeq h ch 2) ch false) (writeCanaries h)) 3)
    else (drainEverything c).onHw (fun h =>
      let h := allSr (band h) (writeCanaries h)
      done ((List.range 8).foldl (fun h t => if trackParked h t then h else setDomain h (dctDomain t) 1) h))
  | 3 => c.onHw (fun h => done ((List.range 8).foldl (fun h t => engOff (setDomain h (engDomain t) 2) t) h))
  | 4 =>
    if q.arrived then c.onHw (fun h => refuseSleep h 5)
    else
      let ups := (List.range 16).filter (inService c.hw)
      let dns := (span 16 8).filter (inService c.hw)
      if !linkActive c.hw || (ups.isEmpty && dns.isEmpty) then c.onHw done
      else c.onHw (fun h =>
        let h := setPower h { h.power with sleep := some { q with parked := q.parked ++ ups.filter (fun k => !q.parked.contains k) } }
        ups.foldl (fun h k => setLaneset h k { laneset h k with parkWait := true }) h)
  | 5 => c.onHw (fun h => done (setDomain h 5 2))
  | 6 => c.onHw (fun h => done (setDomain h 2 1))
  | 7 => c.onHw (fun h => done (setDomain h 3 1))
  | _ => c.onHw (fun h =>
    let h := (span 8 4).foldl (fun h d => setDomain h d 2) h
    let h := setDomain (setDomain (setDomain (setDomain h 12 1) 13 1) 4 2) 7 2
    let h := setObj (setObj (bump h 0x7000 7) 0x7000 5 0 1) 0x7000 9 0 ((now h - q.start) / 1000)
    let h := setObj (setPower h { h.power with sleep := none, parkedFor := h.power.parkedFor ++ q.parked }) 0x7000 1 0 2
    match q.path with
    | some p => finishOp h p { status := .ok, total := 4 }
    | none => h)

/-- The query phase ends when every block has voted: the first refusal in block order rolls back; else the blocks stop in order. -/
def sleepStep (sreFails : Option Nat) (c : Core) : Core :=
  match c.hw.power.sleep with
  | none => c
  | some q =>
    if q.stopping then stopStep q c sreFails
    else match refusing c.hw with
      | b :: _ => c.onHw (fun h => refuseSleep h b)
      | [] => if dctDefers c.hw then c else stopStep { q with stopping := true } (c.onHw (fun h => setPower h { h.power with sleep := some { q with stopping := true } }))

def execSleepStopStep (s : State) (sreFails : Option Nat := none) : Host.Outcome State Fault Refusal :=
  runCore (wfSleepStopStep sreFails) (sleepStep sreFails) s

/-- A downstream laneset is not parked 100 µs after the last PARK flit: LINK refuses (R317). -/
def execSleepLinkParkTimeout (s : State) : Host.Outcome State Fault Refusal :=
  runHw true (fun h => match h.power.sleep with
    | some q => if q.stopping && q.stopped == 4 && (span 16 8).any (inService h) then refuseSleep h 5 else h
    | none => h) s

/-! Wake (R320 to R322). -/

/-- A wake event whose bit is set: it ends a sleep request, begins a wake, or is noted during one; of those in one AO cycle the lowest code is recorded (R320, R322). -/
def wakeEvent (code detail : Nat) (h : Hw) : Hw :=
  if h.mode != .run || !bitAt (obj h 0x7010 1) (code - 1) then h
  else if h.power.sleep.isSome then refuseSleep h 0
  else if obj h 0x7000 1 = 4 then
    let h := setObj h 0x7010 8 0 (obj h 0x7010 8 ||| 2 ^ (code - 1))
    if now h / 1000 = h.power.wakeStart / 1000 ∧ code < obj h 0x7010 5 then setObj (setObj h 0x7010 5 0 code) 0x7010 7 0 detail else h
  else if obj h 0x7000 1 = 2 then
    let h := setObj (setObj h 0x7010 5 0 code) 0x7010 6 0 (now h)
    let h := setObj (setObj h 0x7010 7 0 detail) 0x7010 8 0 (2 ^ (code - 1))
    setObj (setPower h { h.power with wakeStart := now h }) 0x7000 1 0 4
  else h

/-- The pin reads active on two AO cycles in a row: WAKE0. -/
def execWake0 (high : Bool) (s : State) : Host.Outcome State Fault Refusal :=
  runHw (wfWake0 high) (fun h => if high = flag h 0x7010 2 then wakeEvent 1 0 h else h) s

def execWake1 (high : Bool) (s : State) : Host.Outcome State Fault Refusal :=
  runHw (wfWake1 high) (fun h => if high = flag h 0x7010 3 then wakeEvent 2 0 h else h) s

/-- A canary line as written: the first row's 16 lines repeat 0x5555_5555, the second's 0xAAAA_AAAA (R194). -/
def canaryLine (i : Nat) : Line := BitVec.ofNat 512 ((if i < 16 then 0x55555555 else 0xAAAAAAAA) * ((2 ^ 512 - 1) / 0xFFFFFFFF))

/-- What a canary line reads as, with the cells that self-refresh lost. -/
def readCanary (i : Nat) (lost : Nat) : Decoded := decodeLine (encodeLine (canaryLine i) false ^^^ lost)

/-- It decodes as uncorrectable, or its value differs from its pattern (R195). -/
def canaryBad (i : Nat) (d : Decoded) : Bool := d.cls == .uncorrectable || d.data != canaryLine i

def corrected (d : Decoded) : Bool := match d.cls with | .corrected _ => true | _ => false

/-- The canaries of a bank are read and judged; `lost` gives bank, line and lost cells. 0x5130:02 adds up over wakes (R195, assumption 167). -/
def judgeCanary (lost : List (Nat × Nat × BitVec 576)) (h : Hw) (bank : Nat) : Hw :=
  let reads := (List.range 32).map (fun i =>
    (i, readCanary i ((lost.filter (fun l => l.1 == bank && l.2.1 == i)).foldl (fun v l => v ^^^ l.2.2.toNat) 0)))
  let h := bumpBy h 0x5130 2 bank (reads.countP (fun r => corrected r.2))
  if reads.any (fun r => canaryBad r.1 r.2) then raise (markSuspect h bank) Src.retentionSuspect { selector := unitSel 6 bank } else h

/-- Banks whose canaries a wake reads and finds changed: written on the way to sleep, in a die that kept them in self-refresh. -/
def canaryBanks (h : Hw) (lost : List (Nat × Nat × BitVec 576)) : List Nat :=
  (List.range 2048).filter (fun b => lost.any (fun l => l.1 == b) && (chSt h (b / 32)).canary && dieState h (b / 128) == 2)

/-- A wake runs the restart steps of Table 11.7 in reverse order and ends in ACTIVE (R322). A Grey mode entry that waited is its last step. -/
def wakeDone (lost : List (Nat × Nat × BitVec 576)) (h : Hw) : Hw :=
  let banks := canaryBanks h lost
  let written := (List.range 64).filter (fun ch => (chSt h ch).canary && dieState h (ch / 4) == 2)
  let h := ([2, 3, 5, 6, 8, 9, 10, 11, 12, 13] ++ span 14 8).foldl (fun h d => setDomain h d 0) h
  let h := (List.range 8).foldl (fun h t => if trackParked h t then h else setDomain h (dctDomain t) 0) h
  let h := (List.range 8).foldl engOn h
  let h := if flag h 0x7030 5 then setDomain h 7 0 else h
  let h := (List.range 16).foldl (fun h d => if dieState h d = 2 then leaveSr h d else h) h
  let h := written.foldl (sweepCanaries 2) h
  let h := banks.foldl (judgeCanary lost) h
  let h := setObj (wakeParked h h.power.parkedFor) 0x7000 1 0 0
  let h := { h with react := { h.react with link := true } }
  let h := setObj (setPower h { h.power with parkedFor := [], activeAt := now h }) 0x7000 10 0 ((now h - h.power.wakeStart) / 1000)
  enterWaiting h 0

end Sys2Proof.Machine
end

