-- ==== Sys2Proof/Machine/Thermal.lean ====
section
/-!
DEFINITION. Sensors (R325 to R328), bands and their actions (R329 to R332), sensor distrust (R333 to R335), thermal cycles
(R345, R346), coolant (R348), and the entry into a trip (R336 to R340, R343).
-/
namespace Sys2Proof.Machine

def setTherm (h : Hw) (v : Therm) : Hw := { h with therm := v }
def watch (h : Hw) (d : Nat) : Watch := tget {} h.therm.dies d
def setWatch (h : Hw) (d : Nat) (v : Watch) : Hw := setTherm h { h.therm with dies := tput {} h.therm.dies d v }

/-- A whole number of °C as TEMP (Table 13.11). -/
def degC (n : Int) : Int := 256 * n

/-- A TEMP register. -/
def tempObj (h : Hw) (idx sub unit : Nat) : Int := toSigned 16 (obj h idx sub unit)

/-- Writes a TEMP register; a value that TEMP cannot hold is left open (assumption 30). -/
def setTemp (h : Hw) (idx sub unit : Nat) (v : Int) : Hw :=
  if -32768 ≤ v ∧ v < 32768 then setObj h idx sub unit (ofSigned 16 v)
  else let (x, h) := draw h 30; setObj h idx sub unit (x % 65536)

/-! Calibration records in force (R422, R423). -/

/-- The payload of a record in force. -/
def calibration (h : Hw) (type unit : Nat) : Option (List Nat) := tfind h.test.calib (256 * type + unit)

/-- A payload word; without a valid record the ROM's nominal value applies (assumption 21). -/
def calWord (h : Hw) (type unit i : Nat) : Nat :=
  match calibration h type unit with
  | some ws => ws.getD i 0
  | none => Config.romCalibration (256 * type + unit) i % 2 ^ 32

/-! Readings (R326, R328). -/

def sensorTemp (h : Hw) (n : Nat) : Int := tempObj h 0x7800 n 0
def sensorOk (h : Hw) (n : Nat) : Bool := !flag h 0x7801 n

/-- The highest reading of the sensors of a list that have not failed. -/
def highest (h : Hw) (ns : List Nat) : Option Int :=
  (ns.filter (sensorOk h)).foldl (fun m n => match m with
    | none => some (sensorTemp h n)
    | some t => some (max t (sensorTemp h n))) none

def dieSensors (d : Nat) : List Nat := span (8 * d) 8
def baseSensors : List Nat := span 128 24

/-- The sensed temperature of a die. -/
def sensed (h : Hw) (d : Nat) : Option Int := highest h (dieSensors d)

/-- The selector of a sensor's die; the stack for the base die and the CS1 outlets. -/
def sensorSel (n : Nat) : Nat := if n < 128 then unitSel 2 (n / 8) else if 154 ≤ n then unitSel 2 8 else 0

/-- A sensor fails, until the next power-up (R328). -/
def failSensor (h : Hw) (n : Nat) : Hw :=
  if sensorOk h n then raise (setObj h 0x7801 n 0 1) Src.sensorFailed { selector := sensorSel n, detail := n } else h

/-- The temperature that a count stands for, in 1/256 °C rounded down: c0 + c1·r + c2·r² with r = count/2,048 (R326, assumption 31). -/
def countTemp (ws : List Nat) (n count : Nat) : Int :=
  let c1 := toSigned 32 (ws.getD 0 0)
  let c2 := toSigned 32 (ws.getD 1 0)
  let c0 := toSigned 16 (ws.getD (3 + n % 8 / 2) 0 / 2 ^ (16 * (n % 2)) % 65536)
  c0 + (c1 * (count : Int) * 2048 + c2 * (count : Int) * (count : Int)) / 2 ^ 30

/-- The sensors that a sensor is compared with: its die's others, or the other outlet of its slice (R328, assumption 162). -/
def peers (n : Nat) : List Nat :=
  let all := if n < 128 then dieSensors (n / 8) else if n < 152 then baseSensors else if n < 154 then [152, 153] else [154, 155]
  all.filter (· != n)

/-- The median of readings; their number is odd (Table 12.1). -/
def median (ts : List Int) : Int := (ts.mergeSort (fun a b => decide (a ≤ b))).getD (ts.length / 2) 0

/-- A sensor differs from the median of its peers by more than 0x7820:04 (R328). -/
def disagrees (h : Hw) (n : Nat) : Bool :=
  decide (degC (obj h 0x7820 4) < (sensorTemp h n - median ((peers n).map (sensorTemp h))).natAbs)

/-- One gate ends with a count; outside its record's range the sensor fails. -/
def readSensor (h : Hw) (r : Nat × Nat) : Hw :=
  let h := setObj h 0x7802 r.1 0 r.2
  match calibration h 1 (r.1 / 8) with
  | none => failSensor h r.1
  | some ws =>
    let h := setTemp h 0x7800 r.1 0 (countTemp ws r.1 r.2)
    let lim := ws.getD 2 0
    if r.2 < lim % 65536 || lim / 65536 % 65536 < r.2 then failSensor h r.1 else h

/-! Wear of a die (R345, R346). -/

/-- Total damage, and THERMAL_WEAR once it reaches 8 · 10^8. -/
def checkWear (h : Hw) (d : Nat) : Hw :=
  let h := setObj h 0x7840 3 d (satAdd 64 (obj h 0x7840 1 d) (obj h 0x7840 2 d))
  if !(watch h d).wearRaised && decide (800000000 ≤ obj h 0x7840 1 d + obj h 0x7840 2 d) then
    raise (setWatch h d { watch h d with wearRaised := true }) Src.thermalWear { selector := unitSel 2 d }
  else h

/-- A half-cycle of `a` in 1/256 °C ends. -/
def halfCycle (h : Hw) (d a : Nat) : Hw :=
  let h := if tempObj h 0x7840 5 d < (a : Int) then setTemp h 0x7840 5 d (a : Int) else h
  if a < 5120 then h
  else checkWear (bumpBy (bump h 0x7840 4 d) 0x7840 2 d (25000 * a * a / (3600 * 65536))) d

/-- The cycle counter follows the band temperature, at most once a millisecond. -/
def followCycle (h : Hw) (d : Nat) : Hw :=
  let w := watch h d
  let t := dieTemp h d
  match w.cycle with
  | none => setWatch h d { w with cycle := some { last := t, running := t, rising := true }, cycleAt := now h }
  | some c =>
    if now h < w.cycleAt + ms 1 then h
    else
      let h := setWatch h d { w with cycleAt := now h }
      let w := watch h d
      let back := if c.rising then c.running - t else t - c.running
      if 512 ≤ back then
        halfCycle (setWatch h d { w with cycle := some { last := c.running, running := t, rising := !c.rising } }) d (c.running - c.last).natAbs
      else if back < 0 then setWatch h d { w with cycle := some { c with running := t } }
      else h

/-! Bands and scales (R329 to R332, R335). -/

/-- The band that follows from a temperature and the band so far (Table 12.2). -/
def nextBand (t : Int) (b : Nat) : Nat :=
  if degC 95 < t || (b == 2 && decide (degC 93 < t)) then 2
  else if degC 85 < t || (b != 0 && decide (degC 83 < t)) then 1 else 0

/-- Thermal scale of a die. A die in Russet without a trusted sensor has no temperature below 95.00 °C (assumption 32). -/
def dieScale (h : Hw) (d : Nat) : Nat :=
  let t := if (sensed h d).isNone && !distrusted h d then max (degC 95) (dieTemp h d) else dieTemp h d
  let s := if band h d = 2 then (max 32 (128 - 12 * ((t - degC 95) / 256))).toNat else 256
  if distrusted h d then min 128 s else s

/-- Scales and halved clocks of a track as its dies and the base die now ask; a change runs the capacity model. -/
def showScale (h : Hw) (t : Nat) : Hw :=
  let s := min (dieScale h (2 * t)) (dieScale h (2 * t + 1))
  let s := if flag h 0x7811 2 then min 128 s else s
  let h := showHalved h t
  if s = obj h 0x7810 3 t then h else modelRun (setObj h 0x7810 3 t s)

/-- Time in Russet goes on in whole ms. -/
def countRusset (h : Hw) (d : Nat) : Hw :=
  let w := watch h d
  if band h d = 2 then
    let k := (now h - w.russetAt) / ms 1
    bumpBy (setWatch h d { w with russetAt := w.russetAt + ms k }) 0x7810 6 d k
  else h

/-- A die takes a band. -/
def takeBand (h : Hw) (d b : Nat) : Hw :=
  let old := band h d
  if b = old then h
  else
    let h := bump (setObj h 0x7810 1 d b) 0x7810 5 d
    let h := if old < b then bandRises h d else h
    let h := if b = 2 then raise (setWatch h d { watch h d with russetAt := now h }) Src.bandRusset { selector := unitSel 2 d } else h
    modelRun h

/-- The band temperature of a die, and what follows from it for its band and its track (R329, R331, R335). -/
def followBand (h : Hw) (d : Nat) : Hw :=
  let h := countRusset h d
  let t := if distrusted h d then some (match sensed h d with | some s => max s (tempObj h 0x7821 3 d) | none => tempObj h 0x7821 3 d) else sensed h d
  let h := match t with
    | some t => let h := setTemp h 0x7810 2 d t; takeBand h d (nextBand (dieTemp h d) (band h d))
    | none => takeBand h d 2
  showScale h (d / 2)

/-- The same, and the die's thermal cycle (R345). -/
def followDie (h : Hw) (d : Nat) : Hw := followCycle (followBand h d) d

/-- The base die: its temperature, and hot above 105.00 °C until 103.00 °C (R332). -/
def followBase (h : Hw) : Hw :=
  match highest h baseSensors with
  | none => h
  | some t =>
    let h := setTemp h 0x7811 1 0 t
    let was := flag h 0x7811 2
    let is := decide (degC 105 < t) || (was && decide (degC 103 < t))
    if is = was then h
    else
      let h := setActive (setObj h 0x7811 2 0 (bit is)) Src.baseHot is
      (List.range 8).foldl showScale (if is then raise h Src.baseHot else h)

/-- The rise of a slice's outlet above the declared inlet. -/
def outletRise (h : Hw) (slice : Nat) : Int := tempObj h 0x7860 (slice + 1) 0 - tempObj h 0x7860 1 0

/-- The outlets: their temperatures, COOLANT_HOT once any of them reads 65.00 °C, a failed one too, and the end of a warm condition (R348). -/
def followOutlets (h : Hw) : Hw :=
  let h := match highest h [152, 153] with | some t => setTemp h 0x7860 2 0 t | none => h
  let h := match highest h [154, 155] with | some t => setTemp h 0x7860 3 0 t | none => h
  let hot := (span 152 4).any (fun n => decide (degC 65 ≤ sensorTemp h n))
  let was := h.therm.hot
  let hotSide := fun (s : Nat) => decide (tempObj h 0x7860 4 0 < outletRise h s)
  let h := setTherm h { h.therm with hot := hot, warm1 := h.therm.warm1 && hotSide 1, warm2 := h.therm.warm2 && hotSide 2 }
  let h := setActive (setActive h Src.coolantHot hot) Src.coolantWarm (h.therm.warm1 || h.therm.warm2)
  if hot && !was then raise h Src.coolantHot else h

/-- Thermal wake: a core-die sensor at or above 0x7010:04 (Table 11.9). -/
def thermalWake (h : Hw) (rs : List (Nat × Nat)) : Hw :=
  match ((rs.map Prod.fst).filter (fun n => decide (n < 128) && sensorOk h n && decide (tempObj h 0x7010 4 0 ≤ sensorTemp h n))) with
  | n :: _ => wakeEvent 5 (n / 8) h
  | [] => h

/-- The peak of the last trip (0x7880:05). -/
def notePeak (h : Hw) (rs : List (Nat × Nat)) : Hw :=
  (rs.map Prod.fst).foldl (fun h n => if sensorOk h n && decide (tempObj h 0x7880 5 0 < sensorTemp h n) then setTemp h 0x7880 5 0 (sensorTemp h n) else h) h

/-- Gates end: readings, and everything that follows them, tripped or not (R329, R332, R337, R345, R348), in the order in which R387 records sources of one time. -/
def sample (rs : List (Nat × Nat)) (h : Hw) : Hw :=
  let h := rs.foldl readSensor h
  let h := if h.mode == .trip || h.mode == .dramOff then notePeak h rs else h
  let ns := rs.map Prod.fst
  let ds := (List.range 16).filter (fun d => ns.any (fun n => n / 8 == d))
  let h := ds.foldl followBand h
  let h := if ns.any (fun n => decide (128 ≤ n) && decide (n < 152)) then followBase h else h
  let h := ds.foldl followCycle h
  let h := if ns.any (fun n => decide (152 ≤ n)) then followOutlets h else h
  thermalWake h rs

/-- Sensors whose column has power: with DRAM power removed only those that THM reads (R340). -/
def readable (h : Hw) (n : Nat) : Bool := h.mode != .dramOff || (decide (128 ≤ n) && decide (n < 154))

/-- A sample is taken wherever THM has power, and not while XCK is stopped. -/
def execSensorSample (sensors : List (Nat × Nat)) (s : State) : Host.Outcome State Fault Refusal :=
  runHw (wfSensorSample sensors) (fun h =>
    only (thmOn h && !h.power.xckStopped) (sample (sensors.filter (fun r => readable h r.1))) h) s

/-- COLn and both rails are up for 2 ms while DRAM power is removed: the core-die and CS2 outlet sensors are read (R340). -/
def monitorWindow (rs : List (Nat × Nat)) (h : Hw) : Hw :=
  let h := (List.range 16).foldl (fun h n => setDomain h (colDomain n) 0) (railsUp h)
  let h := sample (rs.filter (fun r => decide (r.1 < 128) || decide (154 ≤ r.1))) h
  railsDown ((List.range 16).foldl (fun h n => setDomain h (colDomain n) 2) h)

def execDramMonitorWindow (sensors : List (Nat × Nat)) (s : State) : Host.Outcome State Fault Refusal :=
  runHw (wfDramMonitorWindow sensors) (fun h => only (h.mode == .dramOff && !h.power.xckStopped) (monitorWindow sensors) h) s

/-- A sensor has disagreed with its peers for 10 ms, and does so now: it fails, and its die is judged without it (R328). -/
def sensorFails (n : Nat) (h : Hw) : Hw :=
  if !disagrees h n then h else
  let h := failSensor h n
  if n < 128 then followDie h (n / 8) else if n < 152 then followBase h else followOutlets h

def execSensorFailed (sensor : Nat) (s : State) : Host.Outcome State Fault Refusal :=
  runHw (wfSensorFailed sensor) (fun h => only (thmOn h && !h.power.xckStopped && readable h sensor) (sensorFails sensor) h) s

/-- COOLANT_WARM, once per entry (R348). -/
def coolantWarm (slice : Nat) (h : Hw) : Hw :=
  let was := if slice = 1 then h.therm.warm1 else h.therm.warm2
  if was || decide (outletRise h slice ≤ tempObj h 0x7860 4 0) then h
  else
    let h := setTherm h (if slice = 1 then { h.therm with warm1 := true } else { h.therm with warm2 := true })
    raise (setActive h Src.coolantWarm true) Src.coolantWarm { detail := slice }

def execCoolantWarm (slice : Nat) (s : State) : Host.Outcome State Fault Refusal :=
  runHw (wfCoolantWarm slice) (fun h => only (h.mode == .run) (coolantWarm slice) h) s

/-- The thermal gear ceiling of a track drops one gear while a die is at or above 100.00 °C, and rises one while neither is in Russet, after which the track returns one gear at a time; either runs the model (R331, assumption 33). -/
def ceilingStep (t : Nat) (h : Hw) : Hw :=
  let c := obj h 0x7810 4 t
  let hot := decide (degC 100 ≤ trackTemp h t)
  let cool := band h (2 * t) != 2 && band h (2 * t + 1) != 2
  let c' := if hot then min 2 (if c = 3 then gear h t + 1 else c + 1)
    else if cool then (if c = 2 then 1 else 3) else c
  if c' = c then h else modelRun (setTrk (setObj h 0x7810 4 t c') t { trkSt h t with ceilingAt := now h, returning := !hot })

def execGearCeilingStep (track : Nat) (s : State) : Host.Outcome State Fault Refusal :=
  runHw (wfGearCeilingStep track) (fun h => only (thmOn h) (ceilingStep track) h) s

/-! The trip (R337 to R340, R343). -/

/-- What the parts of a running operation become when a trip begins: an Ouvend operation ends NOT_READY, an in-band one gets no answer, an APPLY answers nothing, and a LOADING session is lost, with a restart of the stewards (R339, R381, R425). -/
def tripPaths (h : Hw) : Hw :=
  let h := if h.test.applyPaths.contains 0 then setPath h 0 { path h 0 with pending := none } else h
  let h := match (path h 0).pending with
    | some _ => finalAnswer 0 (finishOp h 0 { status := .notReady })
    | none => h
  let h := (span 1 4).foldl (fun h p => setPath h p { path h p with pending := none }) h
  let h := { h with test := { h.test with applyPaths := [], shadows := [], bistPaths := [], testPath := none, testDie := none }, boot := { h.boot with shutdownPath := none } }
  let h := dropSession h
  { h with chans := { h.chans with resets := [] }, faults := { h.faults with restarting := false } }

/-- Every die goes into self-refresh with the Russet floor; one that is there for a gear change or a reset takes the floor too (R192). -/
def tripSr (h : Hw) : Hw :=
  (List.range 16).foldl (fun h d => match dieState h d with
    | 1 | 2 => setDie (setDieState h d 2) d { dieSt h d with floor := 2, rate := 2 }
    | _ => h) (allSr (fun _ => 2) h)

/-- Step 2 of Table 12.4: read-modify-write units finish, write queues drain, every die goes into self-refresh with the Russet floor. -/
def quietChannels (c : Core) : Core :=
  let c := (List.range 64).foldl (fun c k => ((chSt c.hw k).rmw.length + 1).repeat (rmwNext k) c) c
  (drainEverything c).onHw tripSr

/-- Every lane at electrical idle: the link is down and waits in DETECT. -/
def idleLanes (h : Hw) : Hw :=
  let h := resetLink h (startRate h)
  { h with test := { h.test with bistLinkDown := true } }

/-- Step 4 of Table 12.4: every base-die domain but AO and THM is off, and the lanes are at electrical idle. -/
def gateBase (h : Hw) : Hw := (span 2 28).foldl (fun h d => setDomain h d 2) (idleLanes h)

/-- A sleep request that runs is refused by block 10; over Ouvend the AO receiver holds that answer before the trip proceeds (R319). -/
def tripSleep (h : Hw) : Hw :=
  match h.power.sleep with
  | some q => if q.path = some 0 then finalAnswer 0 (refuseSleep h 10) else refuseSleep h 10
  | none => h

/-- Step 1: the balls, the record, the trip objects. -/
def recordTrip (cause sensor : Nat) (h : Hw) : Hw :=
  let h := setTherm { h with thmErr := true } { h.therm with tripLow := true, tripAt := now h }
  let h := bump (setObj (setObj (setObj (setObj h 0x7880 1 0 1) 0x7880 3 0 cause) 0x7880 4 0 sensor) 0x7880 6 0 0) 0x7880 2
  let h := setObj h 0x7880 5 0 0
  let h := notePeak h ((List.range 156).map (fun n => (n, 0)))
  raise h Src.thermalTrip { detail := cause + 256 * sensor }

/-- A trip begins. After the last step of a shutdown it only drives its balls (R451). -/
def trip (cause sensor : Nat) (c : Core) : Core :=
  let h := c.hw
  if h.mode == .held || h.mode == .trip || h.mode == .dramOff then c
  else if h.mode == .off then
    if obj h 0xC010 2 = 4 then c.onHw (fun h => setTherm { h with thmErr := true } { h.therm with tripLow := true }) else c
  else
    let c := c.onHw (recordTrip cause sensor)
    let c := c.onHw tripSleep
    let c := c.onHw (fun h => if obj h 0xB010 2 = 1 then setObj h 0xB010 2 0 4 else h)
    let c := c.onHw (fun h => setObj (tripPaths h) 0xC010 2 0 0)
    let asleep := obj c.hw 0x7000 1 == 2 || obj c.hw 0x7000 1 == 4
    let c := if asleep || c.hw.mode == .powerUp then c else quietChannels c
    c.onHw (fun h =>
      let h := gateBase h
      { h with mode := .trip, image := { h.image with valid := h.boot.firstCommit }, dict := { h.dict with heldFrame := none } })

/-- A first-stage comparator fires (R336, R337). -/
def execTripComparator (sensor : Nat) (s : State) : Host.Outcome State Fault Refusal :=
  runCore (wfTripComparator sensor) (trip (if sensor < 128 then 1 else 2) sensor) s

/-- DRAM power is removed: VDDQC, then VPP; every line is lost (R340). -/
def removeDram (c : Core) : Core :=
  let c := c.onHw (fun h =>
    let h := (List.range 16).foldl (fun h n => setDomain (setDomain h (arrDomain n) 2) (colDomain n) 2) (railsDown h)
    { bump (setObj (setObj h 0x7880 1 0 2) 0x7880 6 0 1) 0x7880 8 with mode := .dramOff })
  c.store .lose

/-- A second-stage comparator fires; its first stage has then fired too. -/
def execSecondStageTrip (sensor : Nat) (s : State) : Host.Outcome State Fault Refusal :=
  runCore (wfSecondStageTrip sensor) (fun c =>
    let c := trip (if sensor < 128 then 1 else 2) sensor c
    if c.hw.mode == .trip then removeDram c else c) s

/-! Sensor distrust (R333 to R335). -/

/-- The band temperatures of a die's neighbours, or the coolant at a face (R333). -/
def below (h : Hw) (d : Nat) : Int := if d = 0 then tempObj h 0x7860 2 0 else if d = 8 then tempObj h 0x7860 3 0 else dieTemp h (d - 1)

/-- A die above supplies the value of the previous pass, before the first one its band temperature so far. -/
def above (h : Hw) (d : Nat) : Int :=
  if d = 7 then tempObj h 0x7860 3 0 else if d = 15 then tempObj h 0x7860 1 0
  else match (watch h (d + 1)).passTemp with | some t => t | none => dieTemp h (d + 1)

/-- Activations and lines of a die in the last 1 ms: since the oldest of the last ten measurements. -/
def recentDie (h : Hw) (d : Nat) : Nat × Nat :=
  let m := (h.power.dieMarks.headD []).getD d (0, 0)
  (dieActs h d - m.1, dieLines h d - m.2)

/-- What R333 computes for a die: p in pW, e and lo in 1/256 °C. With no conductance to either neighbour e is left open (assumption 30). -/
def estimate (h : Hw) (d : Nat) : Hw × Nat × Int × Int :=
  let n := recentDie h d
  let g := calWord h 3 d 0
  let q := calWord h 3 d 1
  let gb := g / 65536
  let ga := g % 65536
  let p := q / 65536 * 10 ^ 9 + q % 65536 * (n.1 * 1000) + calWord h 3 d 2 % 65536 * (n.2 * 1000)
  let tb := below h d
  let ta := above h d
  if gb + ga = 0 then
    let (x, h) := draw h 30
    let (y, h) := draw h 30
    (h, p, toSigned 16 (x % 65536), toSigned 16 (y % 65536))
  else
    let den : Int := (gb + ga : Nat) * 10 ^ 9
    (h, p, (((gb : Int) * tb + (ga : Int) * ta) * 10 ^ 9 + 256 * (p : Int)) / den, min tb ta + 256 * (p : Int) / den - 512)

/-- Counts of evaluations for and against distrust, and what they decide (R334). -/
def judgeDie (h : Hw) (d : Nat) (lo : Int) : Hw :=
  let w := watch h d
  let margin : Int := degC (obj h 0x7820 1)
  let exit_ : Int := margin - degC (obj h 0x7820 3)
  let low := match sensed h d with | some t => decide (t < lo - margin) | none => false
  let ok := match sensed h d with | some t => decide (lo - exit_ ≤ t) | none => false
  let w := { w with low := if low then w.low + 1 else 0, ok := if ok then w.ok + 1 else 0 }
  let h := setWatch h d w
  if distrusted h d then
    if 100 ≤ w.ok then
      let h := setObj h 0x7821 1 d 0
      setActive h Src.sensorDistrust ((List.range 16).any (distrusted h))
    else h
  else if flag h 0x7820 5 && ((sensed h d).isNone || decide (obj h 0x7820 2 ≤ w.low)) then
    let h := setActive (bump (setObj h 0x7821 1 d 1) 0x7821 5 d) Src.sensorDistrust true
    raise h Src.sensorDistrust { selector := unitSel 2 d }
  else h

/-- One die is evaluated. -/
def evaluateDie (h : Hw) (d : Nat) : Hw :=
  let (h, p, e, lo) := estimate h d
  let h := setObj h 0x7821 4 d (min (2 ^ 31 - 1) (p * 65536 / 10 ^ 12))
  let h := setTemp (setTemp h 0x7821 3 d e) 0x7821 2 d lo
  let h := followDie (judgeDie h d lo) d
  setWatch h d { watch h d with passTemp := some (dieTemp h d) }

/-- Dies under distrust whose estimate reaches 105.00 °C. -/
def hotDies (h : Hw) : List Nat := (List.range 16).filter (fun d => distrusted h d && decide (degC 105 ≤ tempObj h 0x7821 3 d))

/-- The pass of every millisecond over L0 to L15; a die under distrust whose estimate reaches 105.00 °C asks for a model trip. -/
def evaluateAll (c : Core) : Core :=
  let c := c.onHw (fun h => (List.range 16).foldl evaluateDie h)
  match hotDies c.hw with
  | d :: _ => trip 3 d c
  | [] => c

/-- No evaluation runs during a steward restart, in SLEEP or while XCK is stopped. -/
def execDistrustEvaluation (s : State) : Host.Outcome State Fault Refusal :=
  runCore true (fun c => onlyCore (awake c.hw && !c.hw.faults.restarting && !c.hw.power.xckStopped) evaluateAll c) s

/-- Distrust is armed (R334). -/
def execDistrustArm (s : State) : Host.Outcome State Fault Refusal :=
  runHw true (fun h => only (h.mode == .run) (fun h => setObj h 0x7820 5 0 1) h) s

end Sys2Proof.Machine
end

