-- ==== Sys2Proof/Machine/Fuses.lean ====
section
/-!
DEFINITION. The fuse array and its check (R412 to R419), patches (R420, R421), calibration records (R422 to R425), lifecycle
(R426 to R428), test access (R429, R430), the interconnect report (R432, R433) and the shutdown BIST (R435).
-/
namespace Sys2Proof.Machine

def setTest (h : Hw) (v : Test) : Hw := { h with test := v }

/-! Words and regions (R412 to R415). -/

/-- A region of Table 15.1: its words, its data words and its digest words. -/
structure Region where
  first : Nat
  last : Nat
  dataLast : Nat
  digest : Nat

def regions : List Region :=
  [⟨0, 511, 507, 508⟩, ⟨512, 767, 763, 764⟩, ⟨768, 799, 786, 787⟩, ⟨800, 827, 823, 824⟩, ⟨828, 855, 851, 852⟩,
   ⟨856, 883, 879, 880⟩, ⟨884, 911, 907, 908⟩, ⟨912, 931, 927, 928⟩]

def region (r : Nat) : Region := regions.getD r ⟨0, 511, 507, 508⟩
def Region.words (g : Region) : List Nat := span g.first (g.last + 1 - g.first)
def Region.dataWords (g : Region) : List Nat := span g.first (g.dataLast + 1 - g.first)
def Region.digestWords (g : Region) : List Nat := span g.digest 4

def normalWord (h : Hw) (w : Nat) : Nat := tget 0 h.test.normal w
def strictWord (h : Hw) (w : Nat) : Nat := tget 0 h.test.strict w

/-- A word as a read returns it: from the marginal cache if it is held there (R414, R418). -/
def fuseWord (h : Hw) (w : Nat) : Nat :=
  match h.test.cache.find? (fun e => e.1 == w) with
  | some e => e.2
  | none => normalWord h w

def marginal (h : Hw) (w : Nat) : Bool := normalWord h w != strictWord h w

/-- The digest of a region over its data words as one reference reads them, as four words (R415). -/
def digestOf (r : Nat) (word : Nat → Nat) : List Nat :=
  let msg := BitVec.ofNat 8 r :: ((region r).dataWords.map (fun w => leBytes 4 (word w))).flatten
  (chunksOf 4 4 (sha256 msg)).map leNat

def finalised (h : Hw) (r : Nat) : Bool := (region r).digestWords.any (fun w => normalWord h w != 0)

/-- OTP is ON during a fuse read, and OFF again after it (Table 11.2, R308). -/
def otpRead (h : Hw) : Hw := setDomain (setDomain h 4 0) 4 2

/-- A word is read from the fuses, unless the cache holds it (R414). -/
def cached (h : Hw) (w : Nat) : Bool := h.test.cache.any (fun e => e.1 == w)

/-- A region is in use: verdict 1 or 2. -/
def inUse (h : Hw) (r : Nat) : Bool := obj h 0xA000 r == 1 || obj h 0xA000 r == 2

/-- A GET of an object reads fuses: 0xA003:02 unless the cache holds its word, 0xA003:03 always, 0xA050:01 the words of CUSTOMER that the cache does not hold (R414, R418). -/
def readsFuses (h : Hw) (p idx sub : Nat) : Bool :=
  if idx = 0xA003 then sub == 3 || (sub == 2 && !cached h (obj h 0xA003 1 p))
  else idx == 0xA050 && inUse h 7 && (span 912 16).any (fun w => !cached h w)

/-- OTP is powered for the read of an object that needs it. -/
def powerOtp (h : Hw) (p idx sub : Nat) : Hw := if readsFuses h p idx sub then otpRead h else h

/-- Lifecycle state in force: 0 MFG, 1 FIELD, 2 RETURN, 3 SCRAP. -/
def lifecycle (h : Hw) : Nat := obj h 0x1002 1

/-- The state that the state word gives: the highest group with at least five bits (R426). -/
def burnedState (w : Nat) : Nat :=
  ((List.range 3).filter (fun g => decide (5 ≤ ((List.range 8).filter (fun i => bitAt w (8 * g + i))).length))).foldl (fun _ g => g + 1) 0

/-- DETAIL of this chapter's records: word or region, TYPE and UNIT (R436). -/
def fuseDetail (place : Nat) (type : Nat := 0) (unit : Nat := 0) : Where := { detail := place + type * 2 ^ 16 + unit * 2 ^ 24 }

/-! The start-up check (R418). -/

def setCache (h : Hw) (c : List (Nat × Nat)) : Hw :=
  let h := setTest h { h.test with cache := c }
  setBlob (setObj h 0xA002 1 0 c.length) 0xA002 2 ((c.map (fun e => leBytes 4 e.1 ++ leBytes 4 e.2)).flatten)

/-- One region: its marginal words enter the cache, and it takes the first verdict of Table 15.3 that matches. -/
def checkRegion (h : Hw) (r : Nat) : Hw :=
  let g := region r
  let ms := g.words.filter (marginal h)
  let room := 32 - h.test.cache.length
  let kept := (ms.take room).map (fun w => (w, normalWord h w))
  let h := setObj h 0xA001 r 0 (min 255 ms.length)
  let before := h.test.cache
  let h := setCache h (before ++ kept)
  let verdict := fun (h : Hw) (v : Nat) => setObj h 0xA000 r 0 v
  let discard := fun (h : Hw) => raise (verdict (setCache h before) 3) Src.fuseRegionDiscarded (fuseDetail r)
  if !finalised h r then
    let h := verdict h 0
    if r < 3 && lifecycle h != 0 then raise h Src.fuseUnfinalised (fuseDetail r) else h
  else if room < ms.length then discard h
  else if digestOf r (normalWord h) != g.digestWords.map (normalWord h) then discard h
  else if digestOf r (strictWord h) != g.digestWords.map (strictWord h) then raise (verdict h 2) Src.fuseMarginal (fuseDetail r)
  else if !ms.isEmpty then raise (verdict h 1) Src.fuseMarginal (fuseDetail r)
  else verdict h 1

/-- Step 4 of power-up: the lifecycle state, then every region in order. -/
def fuseCheck (h : Hw) : Hw :=
  let s := burnedState (normalWord h 799)
  let h := setObj (setObj (otpRead h) 0x1002 1 0 s) 0xA040 4 0 s
  (List.range 8).foldl checkRegion (setCache h [])

/-- Identity (R413, R419, R429): without LIFECYCLE the serial number reads 0 and the grade is B. -/
def readIdentity (h : Hw) : Hw :=
  let ok := inUse h 2
  let w := fuseWord h 770
  let h := setObj h 0x1000 4 0 (if ok then fuseWord h 768 + fuseWord h 769 * 2 ^ 32 else 0)
  let h := setObj (setObj h 0x1000 5 0 (w % 65536)) 0x1000 3 0 (if ok then bit (bitAt w 16) else 1)
  let h := setObj h 0x2000 2 0 (obj h 0x1000 3)
  setObj h 0xB100 1 0 (fuseWord h 771)

/-! Patches (R420, R421). -/

/-- Entry e of patch region n, as 64 bits. -/
def patchEntry (h : Hw) (n e : Nat) : Nat := fuseWord h (800 + 28 * n + 2 * e) + fuseWord h (801 + 28 * n + 2 * e) * 2 ^ 32

/-- The overlay: entries in use by ADDR, later ones over earlier ones. -/
def overlay (h : Hw) : Tbl Nat :=
  let limited := lifecycle h == 1 || lifecycle h == 3
  let es := ((List.range 4).filter (fun n => inUse h (3 + n))).map (fun n => (List.range 12).map (patchEntry h n))
  (es.flatten.filter (fun v => bitAt v 15 && !(limited && bitAt v 14))).foldl (fun t v => tset t (field v 63 48) (v / 2 ^ 14 * 2 ^ 14)) []

def applyPatches (h : Hw) : Hw :=
  let o := overlay h
  setBlob (setObj h 0xA010 1 0 o.length) 0xA010 2 ((o.map (fun e => leBytes 8 e.2)).flatten)

/-! Calibration records (R422 to R425). -/

/-- Payload words of a record type (Table 15.7). -/
def payloadWords (type : Nat) : Option Nat :=
  match type with
  | 1 => some 7
  | 2 => some 4
  | 3 => some 3
  | 4 | 5 | 6 | 7 => some 1
  | _ => none

/-- A header and its payload check. -/
def recordOk (hdr : Nat) (payload : List Nat) : Bool :=
  crc16 (((hdr / 65536 * 65536) :: payload).map (leBytes 4)).flatten == hdr % 65536

/-- Loads one record into the shadows, or rejects it (R423). -/
def loadRecord (h : Hw) (word hdr : Nat) (payload : List Nat) : Hw :=
  let type := hdr / 2 ^ 24
  let unit := hdr / 2 ^ 16 % 256
  if recordOk hdr payload then
    bump (setTest h { h.test with shadows := tset h.test.shadows (256 * type + unit) payload }) 0xA020 1
  else raise (bump h 0xA020 2) Src.calibCrc (fuseDetail word type unit)

/-- Records of TRIM from a word on. -/
def loadRecords : Nat → Nat → Hw → Hw
  | 0, _, h => h
  | fuel + 1, w, h =>
    let hdr := fuseWord h w
    let type := hdr / 2 ^ 24
    if 507 < w || type = 0 then h
    else match payloadWords type with
      | none => raise h Src.calibCrc (fuseDetail w type (hdr / 2 ^ 16 % 256))
      | some n =>
        if 507 < w + n then h
        else loadRecords fuel (w + 1 + n) (loadRecord h w hdr ((span (w + 1) n).map (fuseWord h)))

/-- Changed shadows take effect at one instant; trim codes of the dies' bandgaps show (0x5140:02). -/
def takeShadows (h : Hw) : Hw :=
  let h := setTest h { h.test with calib := h.test.shadows.foldl (fun t e => tset t e.1 e.2) h.test.calib, shadows := [] }
  (List.range 16).foldl (fun h d => match calibration h 5 d with
    | some ws => setObj h 0x5140 2 d (ws.getD 0 0 % 256)
    | none => h) h

/-- Step 5 of power-up: records load and apply; the sensors of a group without a valid record are failed. -/
def applyTrim (h : Hw) : Hw :=
  let h := if inUse h 0 then loadRecords 508 0 h else h
  let h := takeShadows h
  (List.range 156).foldl (fun h n => if (calibration h 1 (n / 8)).isSome then h else failSensor h n) h

/-- 0xA020:04: one record, once the bytes written make one whole (R424). -/
def overrideRecord (h : Hw) (bs : List Byte) : Hw :=
  let ws := (chunksOf 4 (bs.length / 4) bs).map leNat
  let hdr := ws.headD 0
  match payloadWords (hdr / 2 ^ 24) with
  | some n =>
    if bs.length = 4 * (n + 1) then
      let h := loadRecord h 0 hdr ws.tail
      setObj h 0xA020 5 0 (bit !h.test.shadows.isEmpty)
    else h
  | none => if 4 ≤ bs.length then raise h Src.calibCrc (fuseDetail 0 (hdr / 2 ^ 24) (hdr / 2 ^ 16 % 256)) else h

/-- 0xA020:03 waits for a quiescent point. -/
def applyAct (c : Core) (p : Nat) : Act := .wait (c.onHw (fun h => setTest h { h.test with applyPaths := h.test.applyPaths ++ [p] }))

/-- No channel is in a retraining window or gear change. -/
def quiescent (h : Hw) : Bool :=
  (List.range 8).all (fun t => (trkSt h t).change.isNone) &&
  (List.range 128).all (fun p => match (pcSt h p).granted with | some (.retrain _) => false | _ => true)

/-- Every APPLY that waits takes effect, and each counts. -/
def quiescentPoint (h : Hw) : Hw :=
  if h.test.applyPaths.isEmpty || !quiescent h then h
  else
    let h := setObj (takeShadows h) 0xA020 5 0 0
    h.test.applyPaths.foldl (fun h p => finishOp (bump h 0xA020 6) p { status := .ok, total := 4 }) (setTest h { h.test with applyPaths := [] })

def execCalibrationQuiescentPoint (s : State) : Host.Outcome State Fault Refusal := runHw true quiescentPoint s

/-- 1 ms after the oldest APPLY that waits. -/
def applyTimeout (h : Hw) : Hw :=
  match h.test.applyPaths with
  | p :: ps => finishOp (setTest h { h.test with applyPaths := ps }) p { status := .notReady, total := 4 }
  | [] => h

def execApplyTimeout (s : State) : Host.Outcome State Fault Refusal := runHw true applyTimeout s

/-! Burns (R412, R416, R417). -/

/-- Blows the bits of a value in a word and reads them back; those of `failing` still read 0 at the strict reference, so that the word is marginal. -/
def burn (h : Hw) (w v failing : Nat) : Hw :=
  let n := normalWord h w ||| v
  let s := (strictWord h w ||| v) &&& (2 ^ 32 - 1 - (v &&& failing))
  bump (setTest (otpRead h) { h.test with normal := tput 0 h.test.normal w n, strict := tput 0 h.test.strict w s }) 0xA004 4

/-- The lifecycle state opens a region to burns (Table 15.2). -/
def burnOpen (h : Hw) (r : Nat) : Bool :=
  match lifecycle h with
  | 0 | 2 => true
  | 1 => decide (3 ≤ r)
  | _ => false

/-- The region of a word that a burn may reach: reserved words and the state word are never burned so. -/
def burnRegion (w : Nat) : Option Nat :=
  (List.range 8).find? (fun r => decide ((region r).first ≤ w) && decide (w ≤ (region r).digest + 3))

/-- 0xA004:02 (R417): answered PENDING, for a burn takes up to 2 ms. -/
def burnAct (failing : Nat) (c : Core) (p w : Nat) : Act :=
  let h := c.hw
  let v := obj h 0xA004 1 p
  let ok := match burnRegion w with
    | some r => burnOpen h r && !finalised h r
    | none => false
  if !ok then actHw c h .notReady
  else
    let bad := v &&& failing
    let h := burn h w v bad
    if bad = 0 then .later { c with hw := h } { status := .ok, total := 4 }
    else .later { c with hw := raise h Src.fuseBurnFailed (fuseDetail w) } { status := .notReady, total := 4 }

/-- 0xA004:03 (R416): reads the region at both references, then burns its digest. -/
def finaliseAct (c : Core) (r : Nat) : Act :=
  let h := c.hw
  let g := region r
  let d := digestOf r (normalWord h)
  if finalised h r then
    actHw c (otpRead h) (if g.digestWords.map (normalWord h) = d then .ok else .notReady)
  else if !burnOpen h r || g.words.any (marginal h) then actHw c (otpRead h) .notReady
  else .later { c with hw := (g.digestWords.zip d).foldl (fun h e => burn h e.1 e.2 0) h } { status := .ok, total := 4 }

/-! Lifecycle (R426 to R428). -/

/-- A fresh challenge (R428). -/
def drawChallenge (h : Hw) : Hw :=
  let n := h.test.challenges
  setBlob (setTest h { h.test with challenges := n + 1 }) 0xA040 3 (leBytes 16 (Config.challenge n))

/-- The authorisation in 0xA040:02 holds. -/
def authorised (h : Hw) : Bool :=
  let a := blob h 0xA040 2
  let key := a.take 97
  let keyHash := ((span 772 12).map (fun w => leBytes 4 (fuseWord h w))).flatten
  let msg := 2#8 :: (leBytes 8 (obj h 0x1000 4) ++ blob h 0xA040 3)
  a.length == 193 && sha384 key == keyHash && ecdsaVerify key (beNat ((a.drop 97).take 48)) (beNat (a.drop 145)) (beNat (sha384 msg))

/-- Burns the eight bits of a state's group in the state word. -/
def burnState (h : Hw) (target : Nat) : Hw := setObj (burn h 799 (0xFF * 2 ^ (8 * (target - 1))) 0) 0xA040 4 0 target

/-- 0xA040:01 (Table 15.8). -/
def lifecycleAct (c : Core) (target : Nat) : Act :=
  let h := c.hw
  let from_ := lifecycle h
  if obj h 0xA040 4 != from_ then actHw c h .notReady
  else if from_ = 0 ∧ target = 1 then .later { c with hw := burnState h 1 } { status := .ok, total := 4 }
  else if from_ < 3 ∧ target = 3 then .later { c with hw := setObj (burnState h 3) 0x1002 1 0 3 } { status := .ok, total := 4 }
  else if from_ = 1 ∧ target = 2 ∧ inUse h 2 then
    if authorised h then .later { c with hw := drawChallenge (burnState (otpRead h) 2) } { status := .ok, total := 4 }
    else .later { c with hw := raise (bump (drawChallenge (otpRead h)) 0xA040 5) Src.lifecycleAuthFailed } { status := .refused, total := 4 }
  else actHw c h .notReady

/-! Boundary scan (R429). -/

/-- What the selected instruction acts as: EXTEST, CLAMP and HIGHZ only while RESET_N is low, internal scan only in MFG and RETURN, and every other code as BYPASS. -/
def tapActs (h : Hw) : Nat :=
  let i := h.test.tapInstr
  if i = 1 ∨ i = 2 then i
  else if i = 0 ∨ i = 4 ∨ i = 5 then (if h.mode == .held then i else 0xFF)
  else if 0x80 ≤ i ∧ i ≤ 0x8F then (if lifecycle h = 0 ∨ lifecycle h = 2 then i else 0xFF)
  else 0xFF

def selectTap (i : Nat) (h : Hw) : Hw := setTest h { h.test with tapInstr := i }
def preload (i cells : Nat) (h : Hw) : Hw := setTest h { h.test with tapInstr := i, cells := cells }

def execTapReset (s : State) : Host.Outcome State Fault Refusal := runHw true (selectTap 1) s
def execIdcode (s : State) : Host.Outcome State Fault Refusal := runHw true (fun h => selectTap 1 h) s
def execExtest (cells : Nat) (s : State) : Host.Outcome State Fault Refusal := runHw (wfExtest cells) (fun h => if h.mode == .held then preload 0 cells h else selectTap 0 h) s
def execSamplePreload (cells : Nat) (s : State) : Host.Outcome State Fault Refusal := runHw (wfSamplePreload cells) (preload 2 cells) s
def execClamp (cells : Nat) (s : State) : Host.Outcome State Fault Refusal := runHw (wfClamp cells) (fun h => if h.mode == .held then preload 4 cells h else selectTap 4 h) s
def execHighz (s : State) : Host.Outcome State Fault Refusal := runHw true (selectTap 5) s
def execInternalScan (code : Nat) (s : State) : Host.Outcome State Fault Refusal := runHw (wfInternalScan code) (selectTap code) s
def execBypass (code : Nat) (s : State) : Host.Outcome State Fault Refusal := runHw (wfBypass code) (selectTap code) s

/-- The level of an output ball: what the boundary-scan cell drives, or the stack's own; HIGHZ drives nothing. -/
def ball (h : Hw) (cell : Nat) (own : Bool) : Option Bool :=
  if tapActs h = 5 then none else if tapActs h = 0 ∨ tapActs h = 4 then some (bitAt h.test.cells cell) else some own

/-- ERR_N, THERM_TRIP_N and MILESTONE by cell number from TDI: 9, 11 and 13 are their output cells; true is high. -/
def errN (h : Hw) : Option Bool := ball h 9 (!errLow h)
/-- OV_P and OV_N under the test: cell 15 is what they carry while cell 16 enables them. -/
def ouvendTest (h : Hw) : Option Bool := if (tapActs h = 0 ∨ tapActs h = 4) ∧ bitAt h.test.cells 16 then some (bitAt h.test.cells 15) else none
def thermTripN (h : Hw) : Option Bool := ball h 11 (!h.therm.tripLow)
def milestoneBall (h : Hw) : Option Bool := ball h 13 (!h.faults.ballLow)

/-! The debug port and the array test (R430). -/

/-- The physical line at a location in the layout of 0x9802:02. -/
def locLine (loc : Nat) : Nat := lineAt (loc / 2 ^ 25) (loc / 2 ^ 21 % 16) (loc / 16 % 2 ^ 17) (loc % 16)

/-- A location names a row of a bank. -/
def locOk (loc : Nat) : Bool := decide (loc / 16 % 2 ^ 17 < 66560)

/-- The debug port can reach a line: DBG is on, and the line's channel stands under no alert (R186). -/
def debugReady (h : Hw) (loc : Nat) : Bool := flag h 0x7030 5 && (chSt h (chOf (pPc (locLine loc)))).alert.isNone

/-- A line transfer of the debug port, at input 15: it cuts the transfer that holds the path, opens the row it needs, and counts as the column command it is, 0x5120:02 or 0x5120:03 (R183, R211, R213, R218). A die that is not in service is reached without. -/
def debugAccess (c : Core) (loc sub : Nat) : Core :=
  let n := locLine loc
  let p := pPc n
  if !(awake c.hw && dieOn c.hw (dieOf p)) || (pcSt c.hw p).sr then c
  else c.onHw (fun h =>
    let h := openRow (bump (cutGrant h p 2) 0x3430 15 (chOf p)) n
    closeOwn (bump (ownCommands h (chOf p) 1 (sub == 3)) 0x5120 sub (chOf p)) n)

/-- The 72 raw bytes of a line, data bytes first. -/
def debugRead (c : Core) (loc : Nat) : List Byte :=
  let raw := cellBits c (locLine loc)
  leBytes 64 (raw / 2 ^ 64) ++ leBytes 8 raw

/-- Writes them. -/
def debugWrite (c : Core) (loc : Nat) (bs : List Byte) : Core :=
  c.storeLine (locLine loc) (leNat (bs.take 64) * 2 ^ 64 + leNat (bs.drop 64))

/-- 0xB300:01: the die's track must be parked; DCTt and ARRn are powered for the test. -/
def arrayTestAct (c : Core) (p d : Nat) : Act :=
  let h := c.hw
  if !trackParked h (d / 2) || h.test.testDie.isSome || h.place.unparking.contains (d / 2) then actHw c h .notReady
  else .wait (c.onHw (fun h =>
    let h := setDomain (setDomain h (dctDomain (d / 2)) 0) (arrDomain d) 0
    setTest (setObj h 0xB300 2 d 1) { h.test with testDie := some d, testPath := some p }))

/-- The march ends: the die is zero-filled and gated again; the track stays parked. -/
def arrayTestDone (failing : Nat) (c : Core) : Core :=
  match c.hw.test.testDie with
  | none => c
  | some d => (c.store (.fill (.die d))).onHw (fun h =>
      let h := setObj (setObj h 0xB300 2 d (if failing = 0 then 2 else 3)) 0xB300 3 d failing
      let h := setDomain (setDomain h (arrDomain d) 2) (dctDomain (d / 2)) 2
      let h := match h.test.testPath with | some p => finishOp h p { status := .ok, total := 4 } | none => h
      setTest h { h.test with testDie := none, testPath := none })

def execArrayTestComplete (failing : Nat) (s : State) : Host.Outcome State Fault Refusal :=
  runCore (wfArrayTestComplete failing) (arrayTestDone failing) s

/-! The interconnect report (R432, R433). -/

def entryType (e : List Byte) : Nat := (e.getD 0 0#8).toNat
def entryByte (e : List Byte) (i : Nat) : Nat := (e.getD i 0#8).toNat

/-- The report of the repairs in force: those of the last check, runtime remaps, and what the last BIST found. -/
def report (h : Hw) : List Byte :=
  let t := h.test
  let es := (t.remaps ++ t.bistRemaps ++ t.laneEntries).take 503
  let body := leBytes 8 (0x31524349 + 2 ^ 32 + t.madeBy * 2 ^ 40 + es.length * 2 ^ 48) ++ leBytes 8 (obj h 0x1000 4) ++
    leBytes 4 (obj h 0x1000 5) ++ leBytes 8 t.madeAt ++ leBytes 2 (min 65535 t.unresolved) ++ leBytes 2 t.lanesFailed ++
    fitBytes 20 (t.layers.map (BitVec.ofNat 8)) ++ leBytes 12 0
  let bs := fitBytes 4092 (body ++ es.flatten)
  bs ++ leBytes 4 (crc32c bs)

/-- An entry is well formed (Table 15.11); its reserved bytes count for nothing (R6). -/
def entryOk (e : List Byte) : Bool :=
  let b := entryByte e
  match b 0 with
  | 1 => decide (b 1 < 64) && decide (b 2 < 12) && (if b 2 / 2 < 3 then decide (b 4 ≤ 1) else b 4 == 0) && decide (b 5 < 20) && decide (b 6 ≤ 3)
  | 2 => decide (b 1 < 64) && decide (b 2 < 12) && b 4 == 0xFF && decide (b 5 < 20) && decide (b 6 ≤ 3)
  | 3 => decide (b 1 < 20)
  | 4 => decide (b 1 < 216) && decide (b 2 ≤ 1)
  | _ => false

/-- Remaps that draw on the spares that an entry's group has: two data spares of each pseudo-channel, one command spare of each channel. -/
def sameSpares (e f : List Byte) : Bool :=
  entryType f == 1 && entryByte e 1 == entryByte f 1 &&
  (if entryByte e 2 / 2 < 3 then decide (entryByte f 2 / 2 < 3) && entryByte e 2 % 2 == entryByte f 2 % 2 else decide (3 ≤ entryByte f 2 / 2))

def sparesOk (es : List (List Byte)) : Bool :=
  es.all (fun e => entryType e != 1 || decide ((es.filter (sameSpares e)).length ≤ (if entryByte e 2 / 2 < 3 then 2 else 1)))

def reportEntries (bs : List Byte) : List (List Byte) := chunksOf 8 (min 503 (leNat ((bs.drop 6).take 2))) (bs.drop 64)

/-- The verdict on a whole report: a code of 0xB000:02 (R433, R437). -/
def judgeReport (h : Hw) (bs : List Byte) : Nat :=
  let es := reportEntries bs
  if leBytes 4 (crc32c (bs.take 4092)) != bs.drop 4092 then 2
  else if leNat (bs.take 5) != 0x31524349 + 2 ^ 32 then 4
  else if !inUse h 2 || leNat ((bs.drop 8).take 8) != obj h 0x1000 4 || leNat ((bs.drop 16).take 2) != obj h 0x1000 5 then 3
  else if leNat ((bs.drop 28).take 2) != 0 then 5
  else if decide (503 < leNat ((bs.drop 6).take 2)) || !es.all entryOk || !sparesOk es then 4
  else if !inUse h 1 then 6 else 1

/-- Bytes for the report window: once 4,096 are held they are judged. -/
def reportBytes (h : Hw) (bs : List Byte) : Hw :=
  if bs.length < 4096 then setTest h { h.test with reportIn := bs }
  else
    let v := judgeReport h bs
    let h := setObj h 0xB000 2 0 v
    if v = 1 then setObj (setTest h { h.test with reportIn := bs, accepted := true, window := false }) 0xC011 1 0 (obj h 0xC011 1 ||| 1)
    else raise (setTest h { h.test with reportIn := [] }) Src.reportRejected

def closeWindow (h : Hw) : Hw := setTest h { h.test with window := false }

/-- 0xB000:03. -/
def proceedAct (c : Core) : Act := actHw c (closeWindow c.hw)

/-- The window closes 20 ms after its opening. -/
def execReportWindowTimeout (s : State) : Host.Outcome State Fault Refusal := runHw true closeWindow s

/-! The shutdown BIST (R435). -/

/-- A host request or a descriptor waits, or one is under way. -/
def reqHeld (h : Hw) : Bool :=
  !h.chans.txns.isEmpty || (List.range 4).any (fun p => !(port h p).req.isEmpty || (port h p).fence.isSome)
def jobHeld (h : Hw) : Bool := !h.jobs.jobs.isEmpty || (List.range 4).any (fun p => !(port h p).job.isEmpty)

/-- Steps 1 and 2 of Table 15.12. -/
def startBist (c : Core) : Core :=
  (drainEverything c).onHw (fun h => idleLanes (allSr (band h) (setObj h 0xB010 2 0 1)))

/-- 0xB010:01; one that arrives while a BIST runs attaches to it. -/
def bistAct (c : Core) (p : Nat) : Act :=
  let h := c.hw
  let join := fun (c : Core) => c.onHw (fun h => setTest h { h.test with bistPaths := h.test.bistPaths ++ [p] })
  if obj h 0xB010 2 = 1 then .wait (join c)
  else if h.mode == .run && decide (obj h 0x7000 1 ≤ 1) && !jobHeld h && !reqHeld h then .wait (join (startBist c))
  else actHw c h .notReady

/-- Step 5: the report is built, the result set, and every operation that waits for it ends. -/
def bistDone (found lanes : List (List Byte)) (layers : List Nat) (h : Hw) : Hw :=
  if obj h 0xB010 2 != 1 then h
  else
    let bad := (found.filter (fun e => entryType e == 2 || entryType e == 3)).length
    let badLanes := (lanes.filter (fun e => entryByte e 2 == 1)).length
    let fails := found.length + badLanes
    let h := setTest h { h.test with bistRemaps := found.map cleanEntry, laneEntries := lanes.map cleanEntry, layers := layers, madeBy := 2, madeAt := now h, unresolved := bad, lanesFailed := badLanes }
    let h := setObj (setObj h 0xB010 3 0 (min 65535 fails)) 0xB010 2 0 (if fails = 0 then 2 else 3)
    let h := if fails = 0 then h else raise h Src.bistFailed
    let ps := h.test.bistPaths
    let h := ps.foldl (fun h p => finishOp h p { status := .ok, total := 4 }) (setTest h { h.test with bistPaths := [] })
    { h with boot := { h.boot with shutdownBist := false } }

def execBistComplete (found lanes : List (List Byte)) (layers : List Nat) (s : State) : Host.Outcome State Fault Refusal :=
  runHw (wfBistComplete found lanes layers) (bistDone found lanes layers) s

end Sys2Proof.Machine
end

