-- ==== Sys2Proof/Machine/Start.lean ====
section
/-!
DEFINITION. Reset and power-up (R438 to R449), the checker self-test's outcome (R296, R297), zero-fill (R445), the restart
after a trip (R341 to R343), orderly shutdown (R450, R451), loss of PWR_OK and of the rails (R441, R311).
-/
namespace Sys2Proof.Machine

/-- What outlives RESET_N and power: the fuses. The test access port is the board's to reset (R429); the counts of free values are the model's own. -/
def bare (h : Hw) : Hw :=
  { draws := h.draws, out := h.out, test := { normal := h.test.normal, strict := h.test.strict, tapInstr := h.test.tapInstr, cells := h.test.cells, challenges := h.test.challenges } }

/-- RESET_N low resets the whole stack, AO included; nothing refreshes the dies any more (R440). -/
def resetLow (c : Core) : Core := if c.hw.mode == .held then c else (c.onHw bare).store .lose

def execResetNLow (s : State) : Host.Outcome State Fault Refusal := runCore true resetLow s

/-- The input rails are lost: every value, the image included (R311, R343). -/
def execLossOfRails (s : State) : Host.Outcome State Fault Refusal :=
  runCore true (fun c => (c.onHw (fun h => (List.range 62).foldl (fun h d => setObj h 0x7040 d 0 2) { bare h with mode := .off })).store .lose) s

/-! Power-up (Table 16.1). -/

/-- Kind and index of a unit code (R297). -/
def unitKind (u : Nat) : Nat := u / 4096
def unitIndex (u : Nat) : Nat := u % 4096

/-- Failures that put the stack into Grey mode at the end of start-up: line codecs, route-table and slot-map codecs, CRC-32 and CRC-32C. SRAM codecs number in the order of Table 10.5 (assumption 35). -/
def codecUnit (u : Nat) : Bool := unitKind u == 0 || unitKind u == 5 || unitKind u == 6 || (unitKind u == 1 && decide (unitIndex u ≤ 32))

/-- A scratch or instruction-memory codec of an engine failed. -/
def engineUnit (h : Hw) (e : Nat) : Bool := h.test.failedUnits.contains (0x1000 + 33 + e) || h.test.failedUnits.contains (0x1000 + 65 + e)

/-- The kernel store's codec failed. -/
def storeUnit (h : Hw) : Bool := h.test.failedUnits.contains (0x1000 + 97)

/-- The checker self-test (R296, R297); its duration is left open within 2 ms (assumption 37). -/
def selfTest (failed : List Nat) (h : Hw) : Hw :=
  let h := setTest h { h.test with failedUnits := failed }
  let (x, h) := draw h 36
  let h := setObj h 0x9A00 4 0 (x % 2001)
  let h := setBlob (setObj h 0x9A00 1 0 (bit !failed.isEmpty)) 0x9A00 3 ((failed.take 64).map (leBytes 2)).flatten
  (failed.filter codecUnit ++ failed.filter (fun u => !codecUnit u)).foldl (fun h u => raise h (if codecUnit u then Src.selftestCodec else Src.selftestUnit) { detail := u }) h

/-- Power comes to the base die: OTP stays OFF until a fuse is read, DBG until 0x7030:05 is 1 (Table 11.2). -/
def firstDomains (h : Hw) : Hw := setObj (setObj h 0x7040 4 0 2) 0x7040 7 0 (if flag h 0x7030 5 then 0 else 2)

/-- Step 5: identity, patches, calibration, the challenge; VPP, then VDDQC (R304). -/
def bootUp (h : Hw) : Hw :=
  let h := applyTrim (applyPatches (readIdentity h))
  railsUp (drawChallenge h)

/-- The loop bandwidth in use: at least 2 MHz while spread spectrum is declared (R51). -/
def loopInUse (h : Hw) : Hw := setObj h 0x2000 5 0 (if flag h 0x2000 4 then max 1 (obj h 0x2000 3) else obj h 0x2000 3)

/-- Steps 2 to 7: from the release of RESET_N, or from the fuse check of a repeated power-up, to the open report window. -/
def powerUpTo (check : Bool) (failed : List Nat) (h : Hw) : Hw :=
  let h := if check then fuseCheck (firstDomains h) else firstDomains h
  let h := bootUp h
  let h := selfTest failed (setObj h 0x2200 1 0 (obj h 0x1000 3))
  setObj (setTest h { h.test with window := true, windowAt := now h, accepted := false, reportIn := [] }) 0xC000 1 0 4

/-- RESET_N is released: ADDR is sampled and the time counter starts at 0 (R439). `failed` lists the units that fail the self-test. -/
def release (strap : Nat) (failed : List Nat) (h : Hw) : Hw :=
  let h := { bare h with mode := .powerUp, boot := { strap := strap } }
  powerUpTo true failed (setObj h 0x1120 5 0 strap)

def execResetNRelease (strap : Nat) (failed : List Nat) (s : State) : Host.Outcome State Fault Refusal :=
  runHw (wfResetNRelease strap failed) (fun h => only (h.mode == .held) (release strap failed) h) s

/-! The interconnect check (R434). -/

/-- Puts one entry in force: a remap takes a spare of its group; without a spare it is a failure (R190). -/
def applyEntry (h : Hw) (e : List Byte) : Hw :=
  let ch := entryByte e 1
  let g := entryByte e 2
  let fail := fun (h : Hw) (e : List Byte) =>
    imposeGear (raise (addRemap { h with test := { h.test with unresolved := h.test.unresolved + 1 } } e) Src.tsvNoSpare { selector := unitSel 3 ch }) (ch / 8)
  match entryType e with
  | 1 =>
    if sparesLeft (chSt h ch) g = 0 then fail h (2#8 :: (e.drop 1).take 3 ++ 0xFF#8 :: e.drop 5)
    else bump (addRemap (setCh h ch (takeSpare (chSt h ch) g)) e) 0x5120 8 ch
  | 2 => fail h e
  | 3 => addRemap { h with test := { h.test with unresolved := h.test.unresolved + 1 } } e
  | _ => h

/-- Entries as the fuses ask for them, when TSVREPAIR is in use (assumption 25). -/
def fuseEntries (h : Hw) : List (List Byte) :=
  if inUse h 1 then (Config.fuseRepairs ((region 1).dataWords.map (fuseWord h))).filter (fun e => e.length == 8 && entryOk e) else []

/-- Layer bytes of the report: tested, all passed, repaired. -/
def layerBytes (es : List (List Byte)) : List Nat :=
  (List.range 20).map (fun n =>
    let here := es.filter (fun e => (if entryType e = 3 then entryByte e 1 else entryByte e 5) == n)
    1 + 2 * bit (here.all (fun e => entryType e == 1)) + 4 * bit (here.any (fun e => entryType e == 1)))

/-- The check: a quick one with a report accepted, unless it finds a failure; else the full scan. -/
def interconnect (found : List (List Byte)) (h : Hw) : Hw :=
  let quick := h.test.accepted && found.isEmpty
  let fromReport := if h.test.accepted then (reportEntries h.test.reportIn).filter (fun e => entryType e == 1 && entryByte e 6 != 0) else []
  let es := fuseEntries h ++ fromReport ++ found.filter entryOk
  let h := (List.range 64).foldl (fun h k => setCh (setObj h 0x5120 8 k 0) k { chSt h k with spareD0 := 2, spareD1 := 2, spareCmd := 1 }) h
  let h := setTest h { h.test with remaps := [], bistRemaps := [], laneEntries := [], unresolved := 0, lanesFailed := 0, madeBy := bit quick, madeAt := now h, layers := layerBytes es }
  let h := es.foldl applyEntry h
  let h := (List.range 64).foldl (fun h k => setObj h 0x5120 9 k (5 - obj h 0x5120 8 k)) h
  let (x, h) := draw h 37
  let h := setObj h 0xB000 5 0 (x % (if quick then 3001 else 420001))
  setObj (setObj h 0xB000 4 0 (bit !quick)) 0xC000 3 0 (if obj h 0x7880 1 = 3 then 2 else bit !quick)

/-! The end of power-up (R442, R445, R448, R449). -/

/-- Class averages start from the seed (R206). -/
def seedClasses (h : Hw) : Hw :=
  (List.range 64).foldl (fun h k =>
    let seed := obj h 0x3404 (k % 8)
    setObj (setCls h (k / 8) (k % 8) { clsSt h (k / 8) (k % 8) with lat := 256 * seed }) 0x3410 (k % 8) (k / 8) seed) h

/-- Engines, ON for their self-test, are gated and take jobs; one whose codec failed is held halted (R297, R308, R448, assumption 163). -/
def gateEngines (h : Hw) : Hw :=
  (List.range 32).foldl (fun h e => setEngState h e (if engineUnit h e then 3 else 2)) ((List.range 8).foldl (fun h t => setDomain h (engDomain t) 2) h)

/-- The moment from which R9, R155, R156, R206, R291 and R334 count: clocks of patrol scrub, placement and shares start. -/
def startCounts (h : Hw) : Hw :=
  let h := (List.range 128).foldl (fun h p => setPc h p { pcSt h p with passStart := now h }) h
  { h with boot := { h.boot with readyAt := now h }, chans := { h.chans with winStart := now h } }

/-- Enters ACTIVE: models run, the link begins in DETECT, and Grey mode is entered if it waited, or for the cause of a restart. -/
def goActive (cause : Nat) (h : Hw) : Hw :=
  let h := gateEngines (seedClasses (startCounts h))
  let h := setObj { h with mode := .run } 0x7000 1 0 0
  let h := setPower h { h.power with activeAt := now h }
  let h := (List.range 8).foldl updateLimits h
  let h := setObj (if lifecycle h = 3 then h else startDetect h (startRate h)) 0xC000 1 0 8
  enterWaiting h cause

/-- Zero-fill is on: always in FIELD and SCRAP (R445). -/
def fillZone (h : Hw) : Zone := if lifecycle h = 1 ∨ lifecycle h = 3 ∨ flag h 0xC001 1 then .all else .system

/-- Steps 8 to 10: `found` are the report entries of what the interconnect check found. -/
def powerUpEnd (found : List (List Byte)) (c : Core) : Core :=
  let h := c.hw
  if h.mode != .powerUp || h.test.window then c
  else
    let again := obj h 0x7880 1 == 3
    let c := c.store (.fill (fillZone h))
    c.onHw (fun h =>
      let h := interconnect found h
      let (x, h) := draw h 38
      let h := setObj (setObj h 0xC000 2 0 (now h / 1000)) 0xC001 2 0 (if fillZone h = .all then 19500 else x % 2 ^ 32)
      let h := if obj h 0x7880 1 = 3 then setObj (setObj h 0x7880 1 0 0) 0x7880 7 0 ((now h - h.therm.tripAt) / 1000000) else h
      let h := goActive (if again && integrityLatch h then 4 else 0) h
      if again && flag h 0x7880 6 then raise h Src.tripDramLost else h)

def execEndOfPowerUp (found : List (List Byte)) (s : State) : Host.Outcome State Fault Refusal :=
  runCore (wfEndOfPowerUp found) (powerUpEnd found) s

/-! Restart after a trip (R341 to R343). -/

/-- A setting of the host, which a trip before the first COMMIT does not keep (R9, R343). -/
def isSetting (idx sub : Nat) : Bool := match rowAt idx sub with | some r => r.acc == .rw || r.acc == .rwl | none => false

/-- A register that the image, AO or THM holds through a trip: configuration, faults, damage and trip objects, the report, what power-up read, and the sensors (R338, R419, assumption 36). -/
def survives (key : Nat) : Bool :=
  let idx := key / 4096 / 256
  let sub := key / 4096 % 256
  let within := fun (a b : Nat) => decide (a ≤ idx) && decide (idx ≤ b)
  isSetting idx sub ||
  within 0x1000 0x1002 || idx == 0x1010 || (idx == 0x1120 && sub == 5) || (within 0x8000 0x8200 && idx != 0x8010) || (idx == 0x8300 && decide (5 ≤ sub)) ||
  within 0x7800 0x7802 || (idx == 0x7810 && decide (sub ≤ 2)) || idx == 0x7811 || idx == 0x7840 || idx == 0x7860 || idx == 0x7880 || idx == 0x9A00 || within 0xA000 0xA040 || within 0xB000 0xB100 ||
  within 0xC001 0xC002 || idx == 0xC011 || idx == 0xC000 || (idx == 0x4011 && sub != 6) || (idx == 0x5120 && (sub == 8 || sub == 9))

/-- The same for STRING and BLOB values: all but the Milestone record. -/
def blobSurvives (key : Nat) : Bool := key / 256 != 0x9010

/-- No configuration is kept. -/
def dropSettings (h : Hw) : Hw :=
  { h with regs := h.regs.filter (fun e => !isSetting (e.1 / 4096 / 256) (e.1 / 4096 % 256)), blobs := h.blobs.filter (fun e => !isSetting (e.1 / 256) (e.1 % 256)) }

/-- Everything outside the image, AO and THM as at power-up. -/
def restored (h : Hw) : Hw :=
  let t := h.test
  { bare h with
    regs := h.regs.filter (fun e => survives e.1), blobs := h.blobs.filter (fun e => blobSurvives e.1), clock := h.clock, mode := h.mode,
    image := h.image, faults := { latch := h.faults.latch, integrity := h.faults.integrity, ring := h.faults.ring, first := h.faults.first, last := h.faults.last },
    dict := { paths := h.dict.paths.filter (fun e => e.1 == 0) }, boot := { strap := h.boot.strap, firstCommit := h.boot.firstCommit },
    power := { xckStopped := h.power.xckStopped, vppUp := h.power.vppUp, vddqcUp := h.power.vddqcUp },
    therm := { dies := h.therm.dies.map (fun e => (e.1, { e.2 with low := 0, ok := 0, passTemp := none })), hot := h.therm.hot, warm1 := h.therm.warm1, warm2 := h.therm.warm2, tripAt := h.therm.tripAt },
    test := { (bare h).test with cache := t.cache, remaps := t.remaps, bistRemaps := t.bistRemaps, laneEntries := t.laneEntries, layers := t.layers, madeBy := t.madeBy, madeAt := t.madeAt, unresolved := t.unresolved, lanesFailed := t.lanesFailed, failedUnits := t.failedUnits, accepted := t.accepted, reportIn := t.reportIn } }

/-- Every sensor that has not failed reads at or below 90.00 °C (R341). -/
def allCool (h : Hw) : Bool := (List.range 156).all (fun n => !sensorOk h n || decide (sensorTemp h n ≤ degC 90))

/-- A trip before the first COMMIT: power-up again from the fuse check, with the verdicts and the cache that AO holds (R343, R419). -/
def restartBare (h : Hw) : Hw :=
  let h := setObj (setObj (dropSettings (restored h)) 0x7010 5 0 6) 0x7010 6 0 (now h)
  let h := setObj { h with mode := .powerUp } 0x7880 1 0 3
  powerUpTo false h.test.failedUnits h

/-- Placement as the mirror and its journal give it; a move not journaled is rolled back (step 5 of Table 12.5). -/
def rebuiltPlace (h : Hw) : Place :=
  let h := h.place.moves.foldl (rollBack false) h
  let im := h.place.journal.foldl applyRec h.place.image
  { route := im, image := im, slots := h.place.slots, cleared := h.place.cleared }

/-- Channels and tracks: spares, failed channels and imposed gears last until the next power-up (R187, R190). -/
def rebuiltChans (h : Hw) : Chans :=
  { chs := h.chans.chs.map (fun e => (e.1, { spareD0 := e.2.spareD0, spareD1 := e.2.spareD1, spareCmd := e.2.spareCmd, failed := e.2.failed }))
    tracks := h.chans.tracks.map (fun e => (e.1, { imposed := e.2.imposed })) }

/-- Every track starts at the fastest gear permitted, its dies with that gear's latencies; dies that kept their data are retrained there (Table 12.5, step 4). -/
def restartGears (kept : Bool) (eyes : List (List Eye)) (h : Hw) : Hw :=
  (List.range 8).foldl (fun h t =>
    let g := wantedGear h t
    let h := [2 * t, 2 * t + 1].foldl (fun h d => setDie h d { dieSt h d with rl := (timing g 0).getD 1 0, wl := (timing g 0).getD 2 0 }) (setObj h 0x5010 1 t g)
    if kept && !trackParked h t then retrainAll (span (8 * t) 8) (eyes.drop (8 * t)) h else h) h

/-- Steps 2 to 7 of Table 12.5 with the image; `kept` tells whether DRAM power was kept. -/
def restartFull (kept : Bool) (eyes : List (List Eye)) (h : Hw) : Hw :=
  let parked := (List.range 8).filter (trackParked h)
  let place := rebuiltPlace h
  let chans := rebuiltChans h
  let h := restored h
  let h := { h with place := if kept then place else {}, chans := chans, image := { h.image with valid := true } }
  let h := bootUp (otpRead (firstDomains (setObj (setObj h 0x7010 5 0 6) 0x7010 6 0 (now h))))
  let h := setObj h 0x1010 1 0 2
  let h := if kept then
      let h := parked.foldl (fun h t => setObj ([2 * t, 2 * t + 1].foldl (fun h d => setObj (setDieState h d 3) 0x7040 (arrDomain d) 0 2) h) 0x7040 (dctDomain t) 0 2) h
      (List.range 2048).foldl markSuspect h
    else
      { h with regs := h.regs.filter (fun e => e.1 / 4096 / 256 != 0x4011 || e.1 / 4096 % 256 == 6) }
  let h := restartGears kept eyes (loopInUse h)
  let h := if kept then h else retireListed h
  let h := setObj (setObj (setObj h 0x7880 1 0 0) 0x7880 7 0 ((now h - h.therm.tripAt) / 1000000)) 0xC000 3 0 2
  let h := if kept then h else raise h Src.tripDramLost
  let h := showAdaptAll (goActive (if integrityLatch h then 4 else 0) h)
  (List.range 8).foldl showScale (runModels h false)

/-- The restart begins once all is cool: THERM_TRIP_N is released. -/
def restart (eyes : List (List Eye)) (c : Core) : Core :=
  let h := c.hw
  if !((h.mode == .trip || h.mode == .dramOff) && allCool h) then c
  else
    let kept := h.mode == .trip
    if !h.image.valid then c.onHw restartBare
    else (if kept then c else c.store (.fill .all)).onHw (restartFull kept eyes)

def execTripRestart (s : State) (eyes : List (List Eye) := []) : Host.Outcome State Fault Refusal := runCore (wfTripRestart eyes) (restart eyes) s

/-! Shutdown (R450, R451) and loss of PWR_OK (R441). -/

/-- 0xC010:01: bit 0 of the value asks for the BIST. In-band the answer is OK at once. -/
def shutdownAct (c : Core) (p v : Nat) : Act :=
  let h := c.hw
  if jobHeld h || reqHeld h || h.power.sleep.isSome || obj h 0xC010 2 != 0 || !awake h then actHw c h .notReady
  else
    let bist := bitAt v 0
    let c := c.onHw (fun h =>
      let h := h.place.moves.foldl (rollBack false) h
      let h := h.place.journal.foldl (fun h _ => applyOldest h) h
      { h with boot := { h.boot with shutdownPath := if p = 0 then some 0 else none, shutdownAt := now h, shutdownBist := bist } })
    let c := if bist then startBist c else (drainEverything c).onHw (allSr (band c.hw))
    let c := c.onHw (fun h => setObj { h with mode := .stopping } 0xC010 2 0 (if bist then 2 else 1))
    if p = 0 then .wait c else .done c { status := .ok, total := 4 }

/-- Step 5: lanes idle, every base-die domain but AO, THM and OVB gated, both rails removed. -/
def shutdownReady (c : Core) : Core :=
  let h := c.hw
  if !(h.mode == .stopping && !h.boot.shutdownBist) then c
  else (c.store .lose).onHw (fun h =>
    let h := railsDown ((2 :: span 4 58).foldl (fun h d => setDomain h d 2) (idleLanes h))
    let h := setObj (setObj { h with mode := .off } 0xC010 2 0 4) 0xC010 3 0 ((now h - h.boot.shutdownAt) / 1000)
    match h.boot.shutdownPath with
    | some p => finishOp h p { status := .ok, total := 4 }
    | none => h)

def execShutdownReady (s : State) : Host.Outcome State Fault Refusal := runCore true shutdownReady s

/-- PWR_OK falls: lanes idle, every channel in self-refresh, every base-die domain but AO and THM gated; the stack waits for RESET_N. -/
def pwrFall (h : Hw) : Hw :=
  if h.mode == .held || h.mode == .off then h
  else
    let h := allSr (band h) (idleLanes h)
    { (span 2 28).foldl (fun h d => setDomain h d 2) h with mode := .off }

def execPwrOkFall (s : State) : Host.Outcome State Fault Refusal := runHw true pwrFall s

end Sys2Proof.Machine
end

