-- ==== Sys2Proof/Machine/FaultCmds.lean ====
section
/-!
DEFINITION. Commands on fault sources (R384 to R394), Grey mode (R405 to R407), the Milestone trigger (R396, R397), the time
counter's synchronisation (R401, R402) and the restart of the stewards (R403, R404).
-/
namespace Sys2Proof.Machine

def setFaults (h : Hw) (v : Faults) : Hw := { h with faults := v }

/-! Fault sources. -/

/-- A number that names a source (R385). -/
def assigned (s : Nat) : Bool := sourceRows.any (fun r => r.num == s)

/-- 0x8000:09 (R391). -/
def forceAct (c : Core) (s : Nat) : Act :=
  if assigned s && srcEnabled c.hw s then actHw c (raise c.hw s { forced := true }) else actHw c c.hw .notReady

/-- STATUS and the ERR latch of a source go (R390). -/
def clearSource (h : Hw) (s : Nat) : Hw := setLatch (setObj h 0x8000 2 s 0) s false

/-- 0x8000:0A. -/
def clearAct (c : Core) (s : Nat) : Act :=
  if srcActive c.hw s then actHw c c.hw .stillActive else actHw c (clearSource c.hw s)

/-- 0x8000:0B. -/
def clearCountAct (c : Core) (s : Nat) : Act := actHw c (setObj c.hw 0x8000 7 s 0)

/-- 0x8001:04. -/
def clearAllAct (c : Core) : Act :=
  let h := (List.range 418).foldl (fun h s => if srcActive h s then h else clearSource h s) c.hw
  actHw c h (if (List.range 418).any (srcStatus h) then .stillActive else .ok)

/-- 0x8012:04 (R394). -/
def emptyFirstLastAct (c : Core) : Act := actHw c (setFaults c.hw { c.hw.faults with first := none, last := none })

/-! Grey mode. -/

/-- 0x8300:02 (R405). -/
def enterGreyAct (c : Core) : Act := actHw c (enterGrey (raise c.hw Src.greyByCommand) 2 none)

/-- 0x8300:03 (R407). -/
def resumeAct (c : Core) : Act :=
  let h := c.hw
  if !grey h then actHw c h
  else if integrityLatch h || obj h 0x4000 1 == 3 || h.faults.restarting then actHw c h .notReady
  else
    let h := setObj h 0x8300 1 0 0
    let h := setPlace (setObj h 0x4000 1 0 h.faults.greyPlacement) { h.place with waitsEpoch := true }
    let h := (List.range 32).foldl (fun h e =>
      if engState h e = 3 && !engineUnit h e then setEngState h e (if domainState h (engDomain (e / 4)) = 0 then 0 else 2) else h) h
    actHw c ((List.range 8).foldl reinput h)

/-! Milestone. -/

/-- 0x9000:01 arms the trigger from any state (R396). -/
def armAct (c : Core) : Act := actHw c (setObj c.hw 0x9000 2 0 1)

/-- 0x9000:08. -/
def triggerAct (c : Core) : Act := actHw c (milestone c.hw 2 0)

/-- A falling edge at the ball that is not the stack's own (R397). -/
def execMilestoneBallEdge (s : State) : Host.Outcome State Fault Refusal :=
  runHw true (fun h => only ((h.mode == .run || h.mode == .stopping) && !h.faults.ballLow) (fun h => milestone h 1 0) h) s

/-- After 100 ns the stack releases the ball. -/
def milestoneRelease (h : Hw) : Hw :=
  if h.faults.ballLow then emit (setFaults h { h.faults with ballLow := false }) .milestoneReleased else h

def execMilestoneRelease (s : State) : Host.Outcome State Fault Refusal := runHw true milestoneRelease s

/-! The time counter. -/

/-- The AO domain has power: Ouvend frames are received. -/
def aoOn (h : Hw) : Bool := h.mode != .held && domainState h 0 == 0

/-- A frame has ended: the receiver is back in search (R358). -/
def frameEnd (h : Hw) : Hw := { h with dict := { h.dict with search := false, reception := none } }

/-- A BEACON with its CRC checked (R402): the error is slewed away, or stepped over when the counter lies behind by more than the threshold. An error that S32 cannot hold is left open (assumption 30). -/
def beacon (time : Nat) (h : Hw) : Hw :=
  let h := bump (frameEnd h) 0x1040 1
  let h := bump h 0x9030 6
  let h :=
    if !flag h 0x9030 1 then h
    else
      let e : Int := (time : Int) + obj h 0x9030 2 - now h
      let thr : Int := obj h 0x9030 3
      let h := if -2147483648 ≤ e ∧ e < 2147483648 then setObj h 0x9030 4 0 (ofSigned 32 e)
        else let (x, h) := draw h 39; setObj h 0x9030 4 0 (x % 2 ^ 32)
      if thr < e then raise (bump { h with clock := { h.clock with now := now h + e.toNat, slew := 0, slow := false } } 0x9030 5) Src.timeStep
      else { h with clock := { h.clock with slew := e, slow := decide (e < -thr) } }
  wakeEvent 3 63 h

def execBeacon (time : Nat) (s : State) : Host.Outcome State Fault Refusal :=
  runHw (wfBeacon time) (fun h => only (aoOn h) (beacon time) h) s

/-! The stewards. -/

/-- The stewards run: their domain is ON. -/
def stewardsRun (h : Hw) : Bool := h.mode != .held && h.mode != .off && domainState h 2 == 0

/-- A restart begins: what Table 14.6 abandons ends RETRY. Before the end of power-up the sequence restarts at step 5 (R449). -/
def restartStewards (h : Hw) : Hw :=
  let h := bump h 0x8200 1
  if h.mode == .powerUp then powerUpTo false h.test.failedUnits (bump h 0xC002 1)
  else
    let h := endSleep h 3 0 { status := .retry, total := 4 }
    let h := h.test.applyPaths.foldl (fun h p => finishOp h p { status := .retry, total := 4 }) (setTest h { h.test with applyPaths := [] })
    let h := setJobs h { h.jobs with loads := [] }
    setFaults h { h.faults with restarting := true, runStart := if h.faults.restarting then h.faults.runStart else now h }

/-- A lockstep mismatch; a second one within 1 s also raises STEWARD_MISMATCH_REPEAT (R403). -/
def mismatch (h : Hw) : Hw :=
  let again := match h.faults.lastMismatch with | some t => decide (now h ≤ t + sec 1) | none => false
  let h := raise (bump (setFaults h { h.faults with lastMismatch := some (now h) }) 0x8200 2) Src.stewardMismatch
  restartStewards (if again then raise h Src.stewardMismatchRepeat else h)

def execStewardMismatch (s : State) : Host.Outcome State Fault Refusal := runHw true (fun h => only (stewardsRun h) mismatch h) s

def execStewardWatchdog (s : State) : Host.Outcome State Fault Refusal :=
  runHw true (fun h => only (stewardsRun h) (fun h => restartStewards (raise h Src.stewardWatchdog)) h) s

/-- The stewards are back: its duration is shown and the capacity models that fell due run once (R403, R404). -/
def stewardsBack (h : Hw) : Hw :=
  if !h.faults.restarting then h
  else
    let due := h.faults.modelDue
    let h := setFaults h { h.faults with restarting := false, modelDue := false }
    let h := setObj h 0x8200 3 0 ((now h - h.faults.runStart) / 1000)
    if due then runModels h false else h

def execStewardRestartComplete (s : State) : Host.Outcome State Fault Refusal := runHw true stewardsBack s

end Sys2Proof.Machine
end

