-- ==== Sys2Proof/Machine/DictRead.lean ====
section
/-!
DEFINITION. Reading the dictionary: values and their shadows, derived objects, STRING and BLOB values, aggregation (R23, R24),
snapshot values (R399), LIST entries (R368), rights (R375 to R377) and the limits of values (R374 and the object rules).
-/
namespace Sys2Proof.Machine

/-! Units of a register. -/

/-- Objects held separately for each path (R400): the unit of their register is the path. -/
def perPath (idx sub : Nat) : Bool :=
  [(0x8000, 1), (0x9020, 1), (0x4001, 1), (0x6100, 1), (0x9B00, 1), (0x9B00, 2), (0xA003, 1), (0xA004, 1), (0xB200, 1)].contains (idx, sub)

/-- Objects of the fault source that the path selects (R411): the unit of their register is the source. -/
def bySource (idx sub : Nat) : Bool := idx == 0x8000 && decide (2 ≤ sub) && decide (sub ≤ 7)

/-- Unit of a register as path `p` (Ouvend 0) reaches it. -/
def unitFor (h : Hw) (p idx sub unit : Nat) : Nat :=
  if perPath idx sub then p else if bySource idx sub then obj h 0x8000 1 p else unit

/-- Objects with one subindex for each port, which read 0 on an unused port (R142). -/
def ofPort (idx : Nat) : Bool := (decide (0x3000 ≤ idx) && decide (idx ≤ 0x3006)) || idx == 0x3011 || idx == 0x3020 || idx == 0x3031

/-- The value of an object of a fixed-size type: what its register holds, or what it shows. -/
def readVal (h : Hw) (p idx sub unit : Nat) : Nat :=
  let parcel := obj h 0x4001 1 p
  if idx = 0x4001 ∧ sub = 2 then route h parcel
  else if idx = 0x4001 ∧ sub = 3 then heatOf h parcel
  else if idx = 0x5022 then lfsrOf h unit
  else if idx = 0x8000 ∧ sub = 3 then bit (srcActive h (obj h 0x8000 1 p))
  else if idx = 0x8000 ∧ sub = 6 then sourceSev (obj h 0x8000 1 p)
  else if idx = 0x8001 ∧ sub = 3 then bit (errLow h)
  else if idx = 0x9030 ∧ sub = 7 then now h
  else if idx = 0xA003 ∧ sub = 2 then fuseWord h (obj h 0xA003 1 p)
  else if idx = 0xA003 ∧ sub = 3 then strictWord h (obj h 0xA003 1 p)
  else if ofPort idx && decide (portCount h ≤ sub) then 0
  else obj h idx sub (unitFor h p idx sub unit)

/-- The shadow of an RWL object: as written in this session, else the value in force (R379). -/
def shadowVal (h : Hw) (p idx sub unit : Nat) : Nat :=
  match tfind h.dict.shadows (regKey idx sub (unitFor h p idx sub unit)) with
  | some v => v
  | none => readVal h p idx sub unit

/-! STRING and BLOB values. -/

def asciiBytes (s : String) : List Byte := s.toList.map (fun c => BitVec.ofNat 8 c.toNat)

/-- Kernel image bytes appended since 0x6100:03 (R367). -/
def loadBytes (h : Hw) (p : Nat) : List Byte := match tfind h.jobs.loads p with | some (_, _, bs) => bs | none => []

/-- The value of a STRING or BLOB, for the unit that a group read takes first; none while it cannot be given. -/
def readBlob (c : Core) (p idx sub unit : Nat) : Option (List Byte) :=
  let h := c.hw
  match idx with
  | 0x1000 => some (asciiBytes (if sub = 1 then "Skovastarn" else if gradeB h then "LR16-128-B" else "LR16-128-A"))
  | 0x2111 =>
    let ffe := (lane h sub).ffe
    some (fitBytes 32 ((ffe.map (fun x => leBytes 2 (ofSigned 16 x))).flatten))
  | 0x5011 => some ((timing sub (timingBand h unit)).map (leBytes 2)).flatten
  | 0x6100 => some (loadBytes h p)
  | 0x8000 => some (asciiBytes (match sourceRow (obj h 0x8000 1 p) with | some r => r.name | none => ""))
  | 0x8001 => some (sourceMap h (sub + 1))
  | 0x8010 => some (match tfind h.faults.ring sub with | some r => recBytes r | none => List.replicate 64 0#8)
  | 0x8012 => some (match (if sub = 1 then h.faults.first else h.faults.last) with | some r => recBytes r | none => [])
  | 0x9010 => some (fitBytes 53 (blob h idx sub))
  | 0x9801 => some ((List.range 36).map (fun pos => leBytes 4 (obj h 0x9801 pos unit))).flatten
  | 0xA020 => some h.test.overrideIn
  | 0xA050 => if inUse h 7 then some ((span 912 16).map (fun w => leBytes 4 (fuseWord h w))).flatten else none
  | 0xB000 => some (if h.test.window then h.test.reportIn else report h)
  | 0xB200 => if debugReady h (obj h 0xB200 1 p) then some (debugRead c (obj h 0xB200 1 p)) else none
  | _ => some (blob h idx sub)

/-! Aggregation. -/

/-- Rule codes of Table 13.9: 0 SUM, 1 MAX, 2 MIN, 3 OR, 4 AND, 5 FIRST, 6 none. The rules that the owning chapters name, then the rows of Table 1.6. -/
def aggRule (r : ObjRow) : Nat :=
  if r.idx = 0x1110 ∧ r.lo = 1 then 4
  else if [0x3412, 0x3416, 0x3422].contains r.idx then 2
  else if r.idx = 0x3413 then 0
  else if (r.idx = 0x3420 ∧ r.lo = 1) ∨ (r.idx = 0x4011 ∧ r.lo = 5) ∨ (r.idx = 0x7020 ∧ r.lo = 8) then 3
  else if (r.idx = 0x5120 ∧ 9 ≤ r.lo) ∨ (r.idx = 0x7050 ∧ r.lo ≤ 2) ∨ (r.idx = 0x7810 ∧ r.lo = 3) ∨ (r.idx = 0x9900 ∧ r.lo = 4) then 2
  else if r.idx = 0x7810 ∧ r.lo = 1 then 1
  else if r.idx = 0x7821 ∧ r.lo = 4 then 0
  else if r.idx = 0x9020 ∧ r.lo = 2 then 6
  else if [.str, .blob, .enum, .timeNs].contains r.ty then 5
  else if r.acc = .wo ∨ r.acc = .cmd then 6
  else if r.acc = .rw ∨ r.acc = .rwl then 5
  else if r.ty = .temp then 1
  else if r.ty = .bool then 3
  else if r.count then 0
  else 1

/-- Types whose values are signed (R23). -/
def signedTy (t : ObjTy) : Bool := [.s16, .s32, .temp, .q16].contains t

/-- Values as the type reads them. -/
def asInt (r : ObjRow) (v : Nat) : Int := if signedTy r.ty then toSigned (8 * r.size) v else v

/-- One value from the members' values (Table 1.5). -/
def aggregate (r : ObjRow) (vs : List Nat) : Nat :=
  let first := vs.headD 0
  match aggRule r with
  | 0 =>
    let top : Int := if signedTy r.ty then 2 ^ (8 * r.size - 1) - 1 else 2 ^ (8 * r.size) - 1
    ofSigned (8 * r.size) (min top ((vs.map (asInt r)).sum))
  | 1 => vs.foldl (fun m v => if asInt r m < asInt r v then v else m) first
  | 2 => vs.foldl (fun m v => if asInt r v < asInt r m then v else m) first
  | 3 => vs.foldl (· ||| ·) 0
  | 4 => vs.foldl (· &&& ·) first
  | _ => first

/-- The value of an object at a selector, from the values in force or the shadows (R22, R23, R379). -/
def readAt (h : Hw) (p : Nat) (r : ObjRow) (sub sel : Nat) (shadow : Bool) : Nat :=
  let vs := (selMembers sel r.depth).map (fun u => if shadow && r.acc == .rwl then shadowVal h p r.idx sub u else readVal h p r.idx sub u)
  aggregate r vs

/-! Snapshot values. -/

/-- Objects that the snapshot registers hold (R398). -/
def inSnapshot (idx sub : Nat) : Bool :=
  match rowAt idx sub with
  | some r => r.acc == .ro && !([ObjTy.str, ObjTy.blob, ObjTy.timeNs, ObjTy.cmd].contains r.ty) && ((decide (0x2000 ≤ idx) && decide (idx ≤ 0x7FFF)) || (decide (0x9800 ≤ idx) && decide (idx ≤ 0x9FFF)))
  | none => false

/-- A latched value. -/
def snapVal (h : Hw) (p idx sub unit : Nat) : Nat :=
  let k := regKey idx sub (if idx = 0x4001 then p else unit)
  tget (regDefault k) h.faults.snap k

/-- The latched value of the object that the path named, at a selector: its bytes and the selector cut to its depth (R399). -/
def snapAt (h : Hw) (p sel : Nat) : Option (List Byte × Nat) :=
  let k := obj h 0x9020 1 p
  match rowAt (k / 256) (k % 256) with
  | some r =>
    if h.faults.snapTaken && inSnapshot (k / 256) (k % 256) then
      some (leBytes r.size (aggregate r ((selMembers sel r.depth).map (snapVal h p (k / 256) (k % 256)))), truncSel sel (min (selDepth sel) r.depth))
    else none
  | none => none

/-! Rights. -/

/-- LIST flag [0]: written only over Ouvend. -/
def ouvendOnly (idx : Nat) (sub : Nat) : Bool := (decide (0xA000 ≤ idx) && decide (idx ≤ 0xBFFF)) || (idx == 0x1030 && sub == 1)

/-- LIST flag [1]: restricted to MFG and RETURN (R431, R453). -/
def restricted (idx sub : Nat) : Bool :=
  (idx == 0xA020 && sub == 4) || (idx == 0xB200 && (sub == 1 || sub == 2)) || (idx == 0xB300 && decide (sub ≤ 3)) || (idx == 0xC001 && sub == 1)

/-- LIST flag [2]: available in Grey mode (R377). -/
def greyObject (idx sub : Nat) : Bool :=
  (decide (0x1000 ≤ idx) && decide (idx ≤ 0x1FFF)) || (decide (0x7800 ≤ idx) && decide (idx ≤ 0x8FFF)) ||
  (idx == 0x4000 && sub == 1) || (idx == 0x4080 && decide (1 ≤ sub) && decide (sub ≤ 4))

/-- An operation is not answered GREY_MODE: available in Grey mode (R377), or a step of a kernel load, which R250 answers NOT_READY (assumption 161). -/
def greyAllows (op idx sub : Nat) : Bool :=
  op == 4 || ((op == 2 || op == 3) && idx == 0x6100 && decide (2 ≤ sub)) ||
  ((op == 1 || op == 5) && greyObject idx sub) || ((op == 2 || op == 3) && decide (0x8000 ≤ idx) && decide (idx ≤ 0x8FFF))

/-- Type codes of Table 13.11. -/
def tyCode : ObjTy → Nat
  | .bool => 0x01 | .u8 => 0x02 | .u16 => 0x03 | .u32 => 0x04 | .u64 => 0x05 | .s16 => 0x06 | .s32 => 0x07
  | .temp => 0x08 | .q16 => 0x09 | .timeNs => 0x0A | .enum => 0x0B | .str => 0x0C | .blob => 0x0D | .cmd => 0x0E

def accCode : Acc → Nat
  | .ro => 0 | .rw => 1 | .wo => 2 | .rwl => 3 | .cmd => 4

/-- A LIST entry (Table 13.9). -/
def listEntry (r : ObjRow) : List Byte :=
  leBytes 2 r.idx ++ leBytes 1 r.lo ++ leBytes 1 r.hi ++ leBytes 1 (tyCode r.ty) ++ leBytes 1 (accCode r.acc) ++ leBytes 1 r.depth ++
  leBytes 1 (aggRule r) ++ leBytes 1 (bit (ouvendOnly r.idx r.lo) + 2 * bit (restricted r.idx r.lo) + 4 * bit (greyObject r.idx r.lo)) ++
  leBytes 1 0 ++ leBytes 2 r.size ++ leBytes 4 0

/-- The objects a LIST describes: from the one whose run contains INDEX:SUB, or the first after it (R366). -/
def listFrom (idx sub n : Nat) : List ObjRow :=
  (catalog.filter (fun r => decide (idx < r.idx) || (r.idx == idx && decide (sub ≤ r.hi)))).take n

/-- The checks of Table 13.10 from row 3 to row 8: none when they pass; SCRAP leaves the injections of R298 (assumption 164). `p` is the path that delivered the operation, 5 for a frame to a group. -/
def rightsCheck (h : Hw) (p op idx sub sel : Nat) : Option Status :=
  match rowAt idx sub with
  | none => some .noSuchObject
  | some r =>
    let write := op == 2 || op == 3
    let inband := decide (1 ≤ p) && decide (p ≤ 4)
    let life := lifecycle h
    if selDepth sel = 7 then some .badSelector
    else if grey h && !greyAllows op idx sub then some .greyMode
    else if write && inband && (ouvendOnly idx sub || !flag h 0x1030 1) then some .accessDenied
    else if restricted idx sub && (life == 1 || life == 3) then some .accessDenied
    else if write && life == 3 && idx != 0x9B00 then some .accessDenied
    else if (op == 1 || op == 5) && (r.acc == .wo || r.acc == .cmd) then some .notReadable
    else if op = 2 ∧ (r.acc = .ro ∨ r.acc = .cmd) then some .notWritable
    else if op = 3 ∧ r.acc ≠ .cmd then some .notWritable
    else none

/-! Limits of values. -/

/-- Largest code of an ENUM that can be set. -/
def enumMax (idx sub : Nat) : Nat :=
  match idx, sub with
  | 0x2000, _ => 3
  | 0x2200, _ => 2
  | 0x2230, _ => 2
  | 0x5010, _ => 2
  | 0x7030, _ => 2
  | 0x8000, _ => 3
  | 0x8012, _ => 3
  | 0x9000, _ => 3
  | _, _ => 255

/-- The value lies within the type's own limits (R374). -/
def typeOk (r : ObjRow) (sub v : Nat) : Bool :=
  match r.ty with
  | .bool => decide (v ≤ 1)
  | .enum => decide (v ≤ enumMax r.idx sub)
  | _ => true

/-- A temperature setting lies within bounds given in °C. -/
def tempWithin (v : Nat) (lo hi : Int) : Bool := decide (256 * lo ≤ toSigned 16 v) && decide (toSigned 16 v ≤ 256 * hi)

def within (v lo hi : Nat) : Bool := decide (lo ≤ v) && decide (v ≤ hi)

/-- A SET of a value passes the object's limits, for one member. A limit set by another object is taken from that object's shadow (assumption 140). -/
def setOk (h : Hw) (p : Nat) (r : ObjRow) (sub unit v : Nat) : Bool :=
  let other (idx s : Nat) := shadowVal h p idx s 0
  typeOk r sub v &&
  match r.idx, sub with
  | 0x1010, 6 => within v 1 3600
  | 0x1120, _ => v == 0 || within v 32 47
  | 0x2000, 6 => within v 8 16
  | 0x2000, 8 => within v 10 500
  | 0x2010, _ => decide (v / 65536 ≤ 56000) && decide (-6000 ≤ toSigned 16 (v % 65536)) && decide (toSigned 16 (v % 65536) ≤ 0)
  | 0x2101, _ => !within v 8 0xFE
  | 0x2200, 1 => !(v == 0 && gradeB h)
  | 0x2215, _ => within v 1 10
  | 0x2220, 2 => decide (other 0x2220 1 < v)
  | 0x3010, 1 => within v 4 64
  | 0x3010, 2 => within v 2 32
  | 0x3020, _ => decide (v ≤ 7)
  | 0x3400, 1 => within v 2 10
  | 0x3400, 2 => within v 1 1000
  | 0x3400, 3 => decide (v ≤ 20)
  | 0x3401, _ => !within v 1 39
  | 0x3402, _ => within v 1 512
  | 0x3403, _ => decide (v ≤ 100)
  | 0x3420, 3 => within v 1 4
  | 0x3420, 4 => within v 20 500
  | 0x3420, 5 => decide (v ≤ 50)
  | 0x4001, 1 => decide (v ≤ 2097151)
  | 0x4010, 1 => within v 1 20
  | 0x4010, 2 => within v 1 64
  | 0x4011, 6 => !(v == 1 && (unit == 0 || unit == 4))
  | 0x4020, 1 => within v 100 100000
  | 0x5000, 1 => decide (v ≤ 1000)
  | 0x5000, 2 => decide (v ≤ 32)
  | 0x5000, 3 => decide (v < other 0x5000 2)
  | 0x5020, 1 => within v 1 8
  | 0x5020, 2 => within v 1 4
  | 0x5020, 3 => within v 6 14
  | 0x5020, 4 => within v 100 10000
  | 0x5030, 1 => within v 10 500
  | 0x5030, 2 => within v 20 60
  | 0x5130, 3 => within v 5 100
  | 0x6000, 3 => decide (v ≤ 10000000)
  | 0x6020, 2 => decide (v ≤ 8)
  | 0x6030, 2 => decide (v ≤ 64)
  | 0x6040, 1 => within v 1 1000
  | 0x6100, 1 => decide (v ≤ 63)
  | 0x6200, 8 => within v 100 100000
  | 0x7000, 2 => within v 10 1000000
  | 0x7010, 1 => decide (v < 32)
  | 0x7020, 1 => within v 60 170
  | 0x7020, 2 => within v 1 20
  | 0x7020, 5 => decide (v ≤ 224)
  | 0x7030, 4 => decide (10 ≤ v)
  | 0x7820, 1 => within v 4 16
  | 0x7820, 2 => within v 1 100
  | 0x7820, 3 => decide (v < other 0x7820 1)
  | 0x7820, 4 => within v 5 30
  | 0x7860, 1 => tempWithin v 5 60
  | 0x7860, 4 => tempWithin v 5 40
  | 0x8000, 1 => decide (v ≤ 417)
  | 0x8000, 4 =>
    let s := obj h 0x8000 1 p
    assigned s && (v == 1 || !(sourceSev s == 3 || s == Src.thermalTrip || s == Src.tripDramLost))
  | 0x8000, 5 =>
    let s := obj h 0x8000 1 p
    assigned s && (sourceSev s != 3 || v == 3) && (decide (2 ≤ v) || !(s == Src.thermalTrip || s == Src.tripDramLost))
  | 0x9000, 5 => v == 0xFFFF || assigned v
  | 0x9020, 1 => inSnapshot (v / 256) (v % 256)
  | 0x9030, 3 => within v 100 1000000
  | 0x9900, 1 => within v 1 24
  | 0x9900, 3 => decide (16 ≤ v)
  | 0x9B00, 1 => decide (v < 2 ^ 31)
  | 0x9B00, 2 => within v 1 14
  | 0xA003, 1 => decide (v ≤ 1023)
  | 0xB200, 1 => locOk v
  | _, _ => true

end Sys2Proof.Machine
end

