-- ==== Sys2Proof/Machine/Commands.lean ====
section
/-!
DEFINITION. The actions of dictionary commands on the link (R86 to R88, R105), on pins (R167), on array areas (R18, R33, R192) and
of injection (R298, R299), and the events that end them.
-/
namespace Sys2Proof.Machine

/-! The link. -/

/-- 0x2200:06: a new bring-up at the start rate (R86); after a BIST the dies leave self-refresh first (R435). -/
def retrainAct (c : Core) : Act :=
  let h := c.hw
  if h.mode != .run || decide (1 < obj h 0x7000 1) || obj h 0xB010 2 == 1 || lifecycle h == 3 then actHw c h .notReady
  else
    let h := if h.test.bistLinkDown then (List.range 16).foldl (fun h d => if dieState h d = 2 then leaveSr h d else h) h else h
    actHw c (startDetect h (startRate h))

/-- 0x2233 (R88): 1 and 2 start a pattern, 0 ends the test. On a downstream laneset the host is asked, and the operation waits for it. -/
def patternAct (c : Core) (p ls v : Nat) : Act :=
  let h := c.hw
  if v = 0 then actHw c (endTest (endTestWait h ls { status := .ok, total := 4 }) ls)
  else if !awake h || !linkActive h || !inService h ls then actHw c h .notReady
  else if ls < 16 then actHw c (startTest h ls v)
  else
    let h := startTest h ls v
    .wait { c with hw := setLaneset h ls { laneset h ls with testPath := some p } }

/-- 0x2221 (R105): the stack repairs a downstream lane; for an upstream one it sends REPAIR_REQ to the host, with 0xFF where the position carries no stripe lane or no spare is idle (assumption 138), and nothing while the link is not in ACTIVE (assumption 166). -/
def repairAct (c : Core) (ls pos : Nat) : Act :=
  let h := c.hw
  let l := laneset h ls
  if ls < 16 then actHw c (if awake h && linkActive h then sendCtl h (.repairReq ls ((stripeAt l pos).getD 0xFF) (l.spare.getD 0xFF)) else h)
  else if !awake h || !linkActive h || !inService h ls || (stripeAt l pos).isNone || l.spare.isNone then actHw c h .notReady
  else actHw c (askRepair h ls pos false)

/-- 0x2234 (R87). -/
def clearCheckerAct (c : Core) (ln : Nat) : Act :=
  let h := setObj (setObj c.hw 0x2231 ln 0 0) 0x2232 ln 0 0
  actHw c (setLane h ln { lane h ln with latchedBits := none, latchedErrors := none })

/-- A read of 0x2231 or 0x2232 (R87): a latched value, or the counter with the other one latched. -/
def readChecker (h : Hw) (idx ln : Nat) : Nat × Hw :=
  let l := lane h ln
  if idx = 0x2231 then
    match l.latchedBits with
    | some v => (v, setLane h ln { l with latchedBits := none })
    | none => (obj h 0x2231 ln, setLane h ln { l with latchedErrors := some (obj h 0x2232 ln) })
  else
    match l.latchedErrors with
    | some v => (v, setLane h ln { l with latchedErrors := none })
    | none => (obj h 0x2232 ln, setLane h ln { l with latchedBits := some (obj h 0x2231 ln) })

/-- The wake word on a lane: with five lanes the laneset wakes, which is a wake event of the stack (R100, R320). -/
def wakeWordRecognised (ln : Nat) (signs : List Bool) (last : Nat) (h : Hw) : Hw :=
  let (h, woke) := wakeWord h ln signs last
  if woke then wakeEvent 4 (ln / 9) h else h

def execWakeWordRecognised (lane : Nat) (s : State) (signs : List Bool := []) (last : Nat := 0) : Host.Outcome State Fault Refusal :=
  runHw (wfWakeWordRecognised lane signs last) (wakeWordRecognised lane signs last) s

/-! Pins. -/

/-- 0x4001:04 and 0x4001:05: `n` parcels from the path's selected one (R167). -/
def pinAct (c : Core) (p n : Nat) (on : Bool) : Act :=
  let h := c.hw
  let first := obj h 0x4001 1 p
  if parcels < first + n then actHw c h .badValue
  else if !awake h then actHw c h .notReady
  else actHw c ((span first n).foldl (fun h q =>
    let (h, e) := lookup h q
    if entPinned e = on then h else setRoute h q (entryOf (entTrack e) (entSlot e) (entState e) (entReleased e) on)) h)

/-! Array reset. -/

/-- A die that takes no array reset: gated, in reset already, or in self-refresh other than for a gear change (R33). A stack that is not running, in power-up as in shutdown, takes none either (assumption 139). -/
def resetBarred (h : Hw) (d : Nat) : Bool :=
  let s := dieState h d
  s == 1 || s == 3 || (s == 2 && (trkSt h (d / 2)).change.isNone) || h.mode != .run

/-- 0x1110:03 on the dies that the selector names, in ascending order, or on none (R25, R33, R192). -/
def arrayResetAct (c : Core) (p : Nat) (dies : List Nat) : Act :=
  match dies.find? (resetBarred c.hw) with
  | some d => .done c { status := .notReady, selector := some (unitSel 2 d), total := 4 }
  | none => .wait (startResets (c.onHw (fun h => { h with chans := { h.chans with resets := h.chans.resets ++ [(p, dies)] } })))

/-- The oldest command that was resetting a die goes on to its next one, or ends with its last. -/
def endReset (h : Hw) (d : Nat) : Hw :=
  let i := h.chans.resets.findIdx (fun r => r.2.head? == some d)
  match h.chans.resets[i]? with
  | some (p, [_]) => finishOp { h with chans := { h.chans with resets := h.chans.resets.eraseIdx i } } p { status := .ok, total := 4 }
  | some _ => { h with chans := { h.chans with resets := h.chans.resets.modify i (fun r => (r.1, r.2.tail)) } }
  | none => h

/-- Steps 4 to 6 of R18: the die logic is initialised from the shadow copy, the TSVs of its four channels are retrained at the current gear, the die leaves self-refresh. -/
def resetDone (d : Nat) (eyes : List (List Eye)) (h : Hw) : Hw :=
  if h.mode != .run || dieState h d != 1 then h
  else
    let took := now h - (dieSt h d).resetAt
    let ts := timing (gear h (d / 2)) 0
    let h := retrainAll (span (4 * d) 4) eyes (setDie h d { dieSt h d with rl := ts.getD 1 0, wl := ts.getD 2 0, training := 0 })
    let h := setObj (bump (leaveSr h d) 0x1110 4 d) 0x1110 5 d (max (obj h 0x1110 5 d) (min took (2 ^ 32 - 1)))
    endReset ((span (4 * d) 4).foldl reoffer h) d

def execArrayResetComplete (die : Nat) (s : State) (eyes : List (List Eye) := []) : Host.Outcome State Fault Refusal :=
  runCore (wfArrayResetComplete die eyes) (fun c => startResets (c.onHw (resetDone die eyes))) s

/-! Injection. -/

def setInject (h : Hw) (v : Inject) : Hw := { h with inject := v }

/-- The check symbols named by [3:0], inverted. -/
def checkMask (m : Nat) : Nat := ((List.range 4).map (fun i => if bitAt m i then 65535 * 2 ^ (16 * i) else 0)).sum

/-- 0x9B00:03: the read-modify-write unit rewrites the line with check symbols inverted; it counts as a write (R286, R299). -/
def injectLineAct (c : Core) (p : Nat) : Act :=
  let line := obj c.hw 0x9B00 1 p
  let (h, e) := if awake c.hw then lookup c.hw (line / 1024) else (c.hw, route c.hw (line / 1024))
  let n := physOf e line
  if !awake c.hw || entReleased e || !dieOn h (lineDie n) then actHw c h .notReady
  else
    let c := { c with hw := h }
    let c := match wqFind h n with | some w => drainEntry c w | none => c
    let c := c.storeLine n (cellBits c n ^^^ checkMask (obj h 0x9B00 2 p))
    let c := c.onHw (fun h =>
      let k := chSt h (chOf (pPc n))
      let h := setCh h (chOf (pPc n)) { k with corr := k.corr.map (fun x => if x.phys == n then { x with stale := true } else x) }
      let h := { h with chans := { h.chans with specPoison := tdel h.chans.specPoison n } }
      let h := markDirty h (line / 1024) (line % 1024)
      { h with react := { h.react with injected := h.react.injected + 1 } })
    .done c { status := .ok, total := 4 }

/-- The commands that arm: a second of a kind while one is armed is NOT_READY (R299). -/
def injectFlitAct (c : Core) (ls : Nat) : Act :=
  if c.hw.inject.flit.isSome then actHw c c.hw .notReady else actHw c (setInject c.hw { c.hw.inject with flit := some ls })
def injectWriteAct (c : Core) (ch : Nat) : Act :=
  if c.hw.inject.write.isSome then actHw c c.hw .notReady else actHw c (setInject c.hw { c.hw.inject with write := some ch })
def injectParityAct (c : Core) (ch : Nat) : Act :=
  if c.hw.inject.parity.isSome then actHw c c.hw .notReady else actHw c (setInject c.hw { c.hw.inject with parity := some ch })
def injectReplyAct (c : Core) : Act :=
  if c.hw.inject.reply then actHw c c.hw .notReady else actHw c (setInject c.hw { c.hw.inject with reply := true })

/-- 0x9B00:09: check bits of a stored entry are inverted at once; pending until a lookup finds them. -/
def injectRouteAct (c : Core) (v : Nat) : Act :=
  let h := c.hw
  if !h.place.sramBad.isEmpty then actHw c h .notReady
  else
    let h := setPlace h { h.place with sramBad := tput 0 h.place.sramBad (v % 2097152) (if bitAt v 21 then 2 else 1) }
    actHw c { h with react := { h.react with injected := h.react.injected + 1 } }

end Sys2Proof.Machine
end

