-- ==== Sys2Proof/Machine/Fp.lean ====
section
/-!
DEFINITION. IEEE 754 binary32 and binary64 on bit patterns (R232, R263): exact arithmetic on integers, rounded once to nearest even,
subnormals in full. A NaN result is quiet; its sign and payload are left open (assumption 40).
-/
namespace Sys2Proof.Machine

/-- A binary format: exponent bits and fraction bits. -/
structure FpFmt where
  e : Nat
  f : Nat
  deriving DecidableEq, Repr

def fp64 : FpFmt := ⟨11, 52⟩
def fp32 : FpFmt := ⟨8, 23⟩

def FpFmt.width (t : FpFmt) : Nat := 1 + t.e + t.f
def FpFmt.expMax (t : FpFmt) : Nat := 2 ^ t.e - 1
/-- Exponent of the least significant bit of the smallest subnormal. -/
def FpFmt.emin (t : FpFmt) : Int := 2 - (2 : Int) ^ (t.e - 1) - t.f

/-- A value: not a number, infinity with its sign, or ±m · 2^x. -/
inductive Fp where
  | nan
  | inf (neg : Bool)
  | num (neg : Bool) (m : Nat) (x : Int)
  deriving DecidableEq, Repr

/-- The value of a pattern. -/
def FpFmt.decode (t : FpFmt) (v : Nat) : Fp :=
  let neg := bitAt v (t.e + t.f)
  let ex := field v (t.e + t.f - 1) t.f
  let fr := v % 2 ^ t.f
  if ex = t.expMax then (if fr = 0 then .inf neg else .nan)
  else if ex = 0 then .num neg fr t.emin
  else .num neg (fr + 2 ^ t.f) (t.emin + ex - 1)

def FpFmt.signBit (t : FpFmt) (neg : Bool) : Nat := bit neg * 2 ^ (t.e + t.f)
def FpFmt.infBits (t : FpFmt) (neg : Bool) : Nat := t.signBit neg + t.expMax * 2 ^ t.f
def FpFmt.zeroBits (t : FpFmt) (neg : Bool) : Nat := t.signBit neg

/-- The default quiet NaN (R232). -/
def FpFmt.defaultNan (t : FpFmt) : Nat := t.expMax * 2 ^ t.f + 2 ^ (t.f - 1)

/-- A quiet NaN of open sign and payload. -/
def FpFmt.someNan (t : FpFmt) (operands : List Nat) : Nat :=
  let p := Config.nanPayload (t.e :: operands)
  t.defaultNan + p % 2 ^ (t.f - 1) + t.signBit (bitAt p (t.f - 1))

/-- Bits needed to write a number. -/
def bitLength (n : Nat) : Nat := if n = 0 then 0 else Nat.log2 n + 1

/-- The pattern nearest to ±m · 2^x, ties to even; `more` says that the exact value lies a little above m, less than one unit. A value too large becomes an infinity. -/
def FpFmt.round (t : FpFmt) (neg : Bool) (m : Nat) (x : Int) (more : Bool) : Nat :=
  if m = 0 ∧ !more then t.zeroBits neg
  else
    -- four more bits below m keep the sticky bit apart from the rounding bit
    let m := m * 16 + bit more
    let x := x - 4
    let q := max (x + bitLength m - (t.f + 1)) t.emin
    let r :=
      if q ≤ x then m * 2 ^ (x - q).toNat
      else
        let s := (q - x).toNat
        let k := m / 2 ^ s
        let rest := m % 2 ^ s
        let half := 2 ^ (s - 1)
        if rest > half ∨ (rest = half ∧ k % 2 = 1) then k + 1 else k
    let bits := (q - t.emin).toNat * 2 ^ t.f + r
    if t.expMax * 2 ^ t.f ≤ bits then t.infBits neg else t.signBit neg + bits

def signedM (neg : Bool) (m : Nat) : Int := if neg then -(m : Int) else m

/-- ±ma · 2^xa plus ±mb · 2^xb, rounded once; an exact zero sum of unlike signs is +0. -/
def FpFmt.addNum (t : FpFmt) (na : Bool) (ma : Nat) (xa : Int) (nb : Bool) (mb : Nat) (xb : Int) : Nat :=
  let x := min xa xb
  let s := signedM na (ma * 2 ^ (xa - x).toNat) + signedM nb (mb * 2 ^ (xb - x).toNat)
  if s = 0 then t.zeroBits (na && nb) else t.round (decide (s < 0)) s.natAbs x false

def FpFmt.add (t : FpFmt) (a b : Nat) : Nat :=
  match t.decode a, t.decode b with
  | .nan, _ | _, .nan => t.someNan [0, a, b]
  | .inf s, .inf s' => if s = s' then t.infBits s else t.someNan [0, a, b]
  | .inf s, _ | _, .inf s => t.infBits s
  | .num na ma xa, .num nb mb xb => t.addNum na ma xa nb mb xb

def FpFmt.neg (t : FpFmt) (a : Nat) : Nat := a ^^^ 2 ^ (t.e + t.f)

def FpFmt.sub (t : FpFmt) (a b : Nat) : Nat :=
  match t.decode b with
  | .nan => t.someNan [1, a, b]
  | _ => t.add a (t.neg b)

def FpFmt.mul (t : FpFmt) (a b : Nat) : Nat :=
  match t.decode a, t.decode b with
  | .nan, _ | _, .nan => t.someNan [2, a, b]
  | .inf s, .inf s' => t.infBits (s != s')
  | .inf s, .num s' m _ | .num s' m _, .inf s => if m = 0 then t.someNan [2, a, b] else t.infBits (s != s')
  | .num na ma xa, .num nb mb xb => t.round (na != nb) (ma * mb) (xa + xb) false

def FpFmt.div (t : FpFmt) (a b : Nat) : Nat :=
  match t.decode a, t.decode b with
  | .nan, _ | _, .nan => t.someNan [3, a, b]
  | .inf _, .inf _ => t.someNan [3, a, b]
  | .inf s, .num s' _ _ => t.infBits (s != s')
  | .num s _ _, .inf s' => t.zeroBits (s != s')
  | .num na ma xa, .num nb mb xb =>
    if mb = 0 then (if ma = 0 then t.someNan [3, a, b] else t.infBits (na != nb))
    else
      let k := 2 * t.f + 8
      let n := ma * 2 ^ k
      t.round (na != nb) (n / mb) (xa - xb - k) (n % mb != 0)

/-- d + a · b with one rounding. -/
def FpFmt.fma (t : FpFmt) (d a b : Nat) : Nat :=
  let nan := t.someNan [4, d, a, b]
  match t.decode d, t.decode a, t.decode b with
  | .nan, _, _ | _, .nan, _ | _, _, .nan => nan
  | .inf s, .inf sa, .inf sb => if s = (sa != sb) then t.infBits s else nan
  | .inf s, .inf sa, .num sb m _ | .inf s, .num sb m _, .inf sa => if m ≠ 0 ∧ s = (sa != sb) then t.infBits s else nan
  | .inf s, .num .., .num .. => t.infBits s
  | .num .., .inf sa, .inf sb => t.infBits (sa != sb)
  | .num .., .inf sa, .num sb m _ | .num .., .num sb m _, .inf sa => if m ≠ 0 then t.infBits (sa != sb) else nan
  | .num nd md xd, .num na ma xa, .num nb mb xb => t.addNum nd md xd (na != nb) (ma * mb) (xa + xb)

/-- The integer square root, one bit of the result at a time from the highest. -/
def isqrtFrom : Nat → Nat → Nat → Nat
  | 0, _, r => r
  | k + 1, n, r => isqrtFrom k n (if (r + 2 ^ k) * (r + 2 ^ k) ≤ n then r + 2 ^ k else r)

def FpFmt.sqrt (t : FpFmt) (a : Nat) : Nat :=
  match t.decode a with
  | .nan => t.someNan [5, a]
  | .inf neg => if neg then t.someNan [5, a] else t.infBits false
  | .num neg m x =>
    if m = 0 then t.zeroBits neg
    else if neg then t.someNan [5, a]
    else
      let k := 2 * t.f + 10 + (if (x % 2 = 0) then 0 else 1)
      let n := m * 2 ^ k
      let r := isqrtFrom (bitLength n / 2 + 1) n 0
      t.round false r ((x - k) / 2) (r * r != n)

/-- The order of two values that are no NaN: less. -/
def FpFmt.lt (t : FpFmt) (a b : Nat) : Bool :=
  match t.decode a, t.decode b with
  | .nan, _ | _, .nan => false
  | .inf s, .inf s' => s && !s'
  | .inf s, .num .. => s
  | .num .., .inf s => !s
  | .num na ma xa, .num nb mb xb =>
    let x := min xa xb
    decide (signedM na (ma * 2 ^ (xa - x).toNat) < signedM nb (mb * 2 ^ (xb - x).toNat))

def FpFmt.isNan (t : FpFmt) (a : Nat) : Bool := t.decode a == .nan

/-- Equal values; both zeros are equal. -/
def FpFmt.eq (t : FpFmt) (a b : Nat) : Bool := !t.isNan a && !t.isNan b && !t.lt a b && !t.lt b a
def FpFmt.le (t : FpFmt) (a b : Nat) : Bool := t.lt a b || t.eq a b

def FpFmt.isNeg (t : FpFmt) (a : Nat) : Bool := bitAt a (t.e + t.f)

/-- Below, with −0 below +0 (R232). -/
def FpFmt.below (t : FpFmt) (a b : Nat) : Bool := t.lt a b || (t.eq a b && t.isNeg a && !t.isNeg b)

/-- Minimum and maximum: a NaN gives way to the other operand, two give the default quiet NaN (R232). -/
def FpFmt.min (t : FpFmt) (a b : Nat) : Nat :=
  if t.isNan a then (if t.isNan b then t.defaultNan else b)
  else if t.isNan b then a else if t.below b a then b else a
def FpFmt.max (t : FpFmt) (a b : Nat) : Nat :=
  if t.isNan a then (if t.isNan b then t.defaultNan else b)
  else if t.isNan b then a else if t.below a b then b else a

/-- A signed integer as the nearest value. -/
def FpFmt.ofInt (t : FpFmt) (i : Int) : Nat := t.round (decide (i < 0)) i.natAbs 0 false

/-- Toward zero, saturating at the signed `w`-bit range; a NaN gives 0. -/
def FpFmt.toInt (t : FpFmt) (w a : Nat) : Nat :=
  let lo : Int := -(2 : Int) ^ (w - 1)
  let hi : Int := (2 : Int) ^ (w - 1) - 1
  match t.decode a with
  | .nan => 0
  | .inf neg => ofSigned w (if neg then lo else hi)
  | .num neg m x =>
    let k : Nat := if 0 ≤ x then m * 2 ^ (Nat.min x.toNat 2048) else m / 2 ^ (-x).toNat
    let v := signedM neg k
    ofSigned w (if v < lo then lo else if hi < v then hi else v)

/-- A value in another format. -/
def FpFmt.convert (t u : FpFmt) (a : Nat) : Nat :=
  match t.decode a with
  | .nan => u.someNan [6, a]
  | .inf neg => u.infBits neg
  | .num neg m x => u.round neg m x false

/-- Combines neighbours two by two; a single one passes on (R232). -/
def pairUp {α : Type} (f : α → α → α) : List (Option α) → List (Option α)
  | a :: b :: r => (match a, b with
      | some x, some y => some (f x y)
      | some x, none => some x
      | none, y => y) :: pairUp f r
  | l => l

/-- A pairwise tree over positions; absent ones are omitted. The fuel is the number of levels. -/
def treeFold {α : Type} (f : α → α → α) : Nat → List (Option α) → Option α
  | 0, l => l.headD none
  | n + 1, l => match l with
    | [] => none
    | [a] => a
    | _ => treeFold f n (pairUp f l)

end Sys2Proof.Machine
end

