-- ==== Sys2Proof/Machine/JobWork.lean ====
section
/-!
DEFINITION. What the parts of built-in jobs compute (R230 to R234): a part reads its lines and finds values or patches of
output lines; the home engine combines what the parts found.
-/
namespace Sys2Proof.Machine

/-! Output lines. -/

/-- Bytes of a line that a part writes: their values, a mask of them, and whether one comes from a poisoned line. -/
structure Patch where
  data : Nat
  mask : Nat
  poison : Bool
  deriving DecidableEq, Repr

/-- The mask of a whole line. -/
def wholeLine : Nat := 2 ^ 512 - 1

/-- `size` bytes of a window's element `i`, by line, over earlier ones. -/
def patchElem (w : Window) (i size v : Nat) (poison : Bool) (t : Tbl Patch) : Tbl Patch :=
  let line := w.base + i * size / 64
  let o := 2 ^ (8 * (i * size % 64))
  let m := (2 ^ (8 * size) - 1) * o
  let p := (tfind t line).getD ⟨0, 0, false⟩
  tset t line { data := p.data - (p.data &&& m) + v % 2 ^ (8 * size) * o, mask := p.mask ||| m, poison := p.poison || poison }

/-- Writes patched lines, lowest address first. A line covered in part keeps its other bytes, and its poison. -/
def flushPatches (e j cls : Nat) (t : Tbl Patch) (c : Core) : Core :=
  t.foldl (fun c x =>
    if x.2.mask = wholeLine then engWrite c e j cls x.1 (BitVec.ofNat 512 x.2.data) x.2.poison
    else
      let (c, old, p) := engRead c e cls x.1
      engWrite c e j cls x.1 (BitVec.ofNat 512 (old.toNat - (old.toNat &&& x.2.mask) + x.2.data)) (x.2.poison || p)) c

/-- Makes released parcels live before they are written (R154). Answers whether all are. -/
def liveFor (c : Core) (lines : List Nat) : Core × Bool :=
  ((lines.map (· / 1024)).eraseReps).foldl (fun a p => let (c, ok) := recreateFor a.1 p; (c, a.2 && ok)) (c, true)

/-! Reading. -/

/-- The elements of a line, each of `size` bytes, in order. -/
def elems (l : Line) (size : Nat) : List Nat := (List.range (64 / size)).map (fun i => lineField l (size * i) size)

/-- Reads lines of W0 in order. -/
def overInput {β : Type} (e : Nat) (d : JobDesc) (f : Core → β → Nat → Line → Bool → Core × β) (lines : List Nat) (x : Core × β) : Core × β :=
  lines.foldl (fun x line =>
    let (c, l, p) := streamRead x.1 e 0 d.cls (line - d.w0.base) line
    f c x.2 line l p) x

/-- An element of a window, read by its index. -/
def readElem (c : Core) (e cls : Nat) (w : Window) (i size : Nat) : Core × Nat × Bool :=
  let (c, l, p) := engRead c e cls (w.base + i * size / 64)
  (c, lineField l (i * size % 64) size, p)

/-- What a part has found so far and what it will write. -/
structure Work where
  f : Finding := {}
  out : Tbl Patch := []
  deriving DecidableEq, Repr

/-- COPY. -/
def workCopy (e : Nat) (d : JobDesc) (p : Part) (c : Core) : Core × Work :=
  overInput e d (fun c w line l poison => (c, { w with out := patchElem d.w1 (line - d.w0.base) 64 l.toNat poison w.out })) (p.linesOf d.w0) (c, {})

/-- FILL. -/
def workFill (d : JobDesc) (p : Part) : Work :=
  { out := (p.linesOf d.w1).map (fun line => (line, ⟨leNat ((List.replicate 8 (leBytes 8 d.arg0)).flatten), wholeLine, false⟩)) }

/-- GATHER: an index beyond W1 gives a zero element and is counted. -/
def workGather (e : Nat) (d : JobDesc) (p : Part) (c : Core) : Core × Work :=
  let size := d.arg1 % 256
  overInput e d (fun c w line l poison =>
    if poison then (c, { w with f := { w.f with poison := true } })
    else ((elems l 8).zipIdx (8 * (line - d.w0.base))).foldl (fun (x : Core × Work) (ix : Nat × Nat) =>
      let f := x.2.f
      if d.arg0 ≤ ix.2 then x
      else if 64 * d.w1.len / size ≤ ix.1 then (x.1, ⟨{ f with a := f.a + 1 }, patchElem d.w2 ix.2 size 0 false x.2.out⟩)
      else
        let (c, v, bad) := readElem x.1 e d.cls d.w1 ix.1 size
        (c, ⟨{ f with b := f.b + 1 }, patchElem d.w2 ix.2 size v bad x.2.out⟩)) (c, w)) (p.linesOf d.w0) (c, {})

/-- SCATTER: a part writes the elements that lie in its parcels of W2, in the order of the indices; the home part counts those beyond W2. The value of a poisoned line of W1 poisons the line it goes to (R231, assumption 168). -/
def workScatter (e : Nat) (d : JobDesc) (p : Part) (c : Core) : Core × Work :=
  let size := d.arg1 % 256
  overInput e d (fun c w line l poison =>
    if poison then (c, { w with f := { w.f with poison := true } })
    else ((elems l 8).zipIdx (8 * (line - d.w0.base))).foldl (fun (x : Core × Work) (ix : Nat × Nat) =>
      let f := x.2.f
      if d.arg0 ≤ ix.2 then x
      else if 64 * d.w2.len / size ≤ ix.1 then (x.1, { x.2 with f := { f with a := f.a + bit p.home } })
      else if !p.parcels.contains ((d.w2.base + ix.1 * size / 64) / 1024) then x
      else
        let i := d.w1.base + ix.2 * size / 64
        let (c, l, bad) := streamRead x.1 e 1 d.cls (ix.2 * size / 64) i
        (c, ⟨{ f with b := f.b + 1 }, patchElem d.w2 ix.1 size (lineField l (ix.2 * size % 64) size) bad x.2.out⟩)) (c, w))
    (span d.w0.base ((d.arg0 + 7) / 8)) (c, {})

/-! REDUCE (R232). -/

/-- Combines two values: operation 0 sum, 1 minimum, 2 maximum; type 0 FP64, 1 FP32, 2 INT64, 3 INT32. -/
def combine (op ty a b : Nat) : Nat :=
  if ty < 2 then
    let t := if ty = 0 then fp64 else fp32
    match op with
    | 0 => t.add a b
    | 1 => t.min a b
    | _ => t.max a b
  else
    let n := if ty = 2 then 64 else 32
    match op with
    | 0 => (a + b) % 2 ^ n
    | 1 => if toSigned n b < toSigned n a then b else a
    | _ => if toSigned n a < toSigned n b then b else a

def elemSize (ty : Nat) : Nat := if ty % 2 = 0 then 8 else 4

/-- The pairwise tree of a job over positions. -/
def reduceTree (d : JobDesc) (l : List (Option Nat)) : Option Nat := treeFold (combine (d.arg0 % 4) (field d.arg0 5 4)) 32 l

/-- Values of the parcels of a part: within lines, then over line offsets. -/
def workReduce (e : Nat) (d : JobDesc) (p : Part) (c : Core) : Core × Work :=
  let size := elemSize (field d.arg0 5 4)
  p.parcels.foldl (fun x q =>
    let r := d.w0.inParcel q
    let (c, t) := overInput e d (fun c (t : Tbl Nat × Finding) line l poison =>
      if poison then (c, (t.1, { t.2 with poison := true }))
      else match reduceTree d ((elems l size).map some) with
        | some v => (c, (tset t.1 (line % 1024) v, { t.2 with b := t.2.b + 64 / size }))
        | none => (c, t)) (span r.1 r.2) (x.1, ([], x.2.f))
    match reduceTree d ((List.range 1024).map (tfind t.1)) with
    | some v => (c, { x.2 with f := { t.2 with vals := tset t.2.vals q v } })
    | none => (c, { x.2 with f := t.2 })) (c, ({} : Work))

/-! SCAN, HISTOGRAM, CHECKSUM. -/

/-- An element meets the comparison: 0 EQ, 1 NE, 2 LT, 3 LE, 4 GT, 5 GE; type 0 unsigned, 1 signed, 2 float. -/
def scanHit (d : JobDesc) (x : Nat) : Bool :=
  let size := d.arg1 % 256
  let n := 8 * size
  let r := d.arg0 % 2 ^ n
  let t := if size = 8 then fp64 else fp32
  let ty := field d.arg1 13 12
  let lt := fun (a b : Nat) => match ty with
    | 0 => decide (a < b)
    | 1 => decide (toSigned n a < toSigned n b)
    | _ => t.lt a b
  let eq := if ty = 2 then t.eq x r else x == r
  match field d.arg1 10 8 with
  | 0 => eq
  | 1 => !eq
  | 2 => lt x r
  | 3 => lt x r || eq
  | 4 => lt r x
  | _ => lt r x || eq

/-- SCAN: matching indices, by index; line offsets that were skipped. -/
def workScan (e : Nat) (d : JobDesc) (p : Part) (c : Core) : Core × Work :=
  let size := d.arg1 % 256
  overInput e d (fun c w line l poison =>
    let o := line - d.w0.base
    if poison then (c, { w with f := { w.f with poison := true, skipped := w.f.skipped ++ [o] } })
    else (c, { w with f := { w.f with vals := w.f.vals ++ (((elems l size).zipIdx (64 / size * o)).filter (fun x => scanHit d x.1)).map (fun x => (x.2, x.1)) } })) (p.linesOf d.w0) (c, {})

/-- HISTOGRAM: counts by bin; bin m takes the elements beyond. -/
def workHist (e : Nat) (d : JobDesc) (p : Part) (c : Core) : Core × Work :=
  overInput e d (fun c w _ l poison =>
    if poison then (c, { w with f := { w.f with poison := true } })
    else (c, { w with f := (elems l (d.arg2 % 256)).foldl (fun (f : Finding) x =>
      let k := min (x / 2 ^ (d.arg0 % 64)) d.arg1
      { f with vals := tput 0 f.vals k (tget 0 f.vals k + 1), b := f.b + 1 }) w.f })) (p.linesOf d.w0) (c, {})

/-- CHECKSUM: a register of each parcel, from zero; a poisoned line's bytes count as zero. -/
def workChecksum (e : Nat) (d : JobDesc) (p : Part) (c : Core) : Core × Work :=
  overInput e d (fun c w line l poison =>
    let bs := lineBytes (if poison then 0#512 else l)
    let q := line / 1024
    (c, { w with f := { w.f with vals := tput 0 w.f.vals q (bs.foldl (crcByte 0x82F63B78) (tget 0 w.f.vals q)), poison := w.f.poison || poison } })) (p.linesOf d.w0) (c, {})

/-- A part's own work. ATOMIC-BATCH and KERNEL parts do theirs record by record and instruction by instruction. -/
def partWork (e : Nat) (d : JobDesc) (p : Part) (c : Core) : Core × Work :=
  match d.opcode with
  | 1 => workCopy e d p c
  | 2 => (c, workFill d p)
  | 3 => workGather e d p c
  | 4 => workScatter e d p c
  | 5 => workReduce e d p c
  | 6 => workScan e d p c
  | 7 => workHist e d p c
  | 9 => workChecksum e d p c
  | _ => (c, {})

/-! What the home engine makes of the parts (R233, R238). -/

/-- Values of all parts together. -/
def allVals (q : Job) : Tbl Nat := q.parts.foldl (fun t p => p.finding.vals.foldl (fun t x => tset t x.1 x.2) t) []

/-- The value of a REDUCE; where no element was combined the spec gives none: a free value. -/
def reduceValue (q : Job) (h : Hw) : Nat × Hw :=
  let d := q.desc
  let ty := field d.arg0 5 4
  let vals := allVals q
  let first := d.w0.base / 1024
  let n := (d.w0.base + d.w0.len - 1) / 1024 + 1 - first
  let w := 8 * elemSize ty
  match reduceTree d ((span first n).map (tfind vals)) with
  | some v =>
    let t := if ty = 0 then fp64 else fp32
    (if ty < 2 && d.arg0 % 4 != 0 && t.isNan v then t.defaultNan else v, h)
  | none => let (x, h) := draw h 42; (x % 2 ^ w, h)

/-- CRC-32C over W0 from the registers of its parcels, ascending. -/
def checksumValue (q : Job) : Nat :=
  let d := q.desc
  let vals := allVals q
  let first := d.w0.base / 1024
  let n := (d.w0.base + d.w0.len - 1) / 1024 + 1 - first
  (span first n).foldl (fun s p =>
    ((64 * (d.w0.inParcel p).2).repeat (fun s => crcByte 0x82F63B78 s 0#8) s) ^^^ tget 0 vals p) (2 ^ 32 - 1) ^^^ (2 ^ 32 - 1)

/-- The result slot as a line of its own (R233). -/
def resultLine (d : JobDesc) (r : Nat) : Tbl Patch := if d.w2.len = 0 then [] else [(d.w2.base, ⟨r, wholeLine, false⟩)]

/-- What a job ends with: result slot, whether its output window was too small, what its home engine writes. -/
structure Ending where
  result : Option Nat := none
  full : Bool := false
  out : Tbl Patch := []
  deriving DecidableEq, Repr

def sumA (q : Job) : Nat := (q.parts.map (fun p => p.finding.a)).sum
def sumB (q : Job) : Nat := (q.parts.map (fun p => p.finding.b)).sum

/-- SCAN: the indices that fit; with one too many, the scan ends after the last that fits. -/
def scanEnding (q : Job) : Ending :=
  let d := q.desc
  let per := 64 / (d.arg1 % 256)
  let hits := (allVals q).map Prod.fst
  let cap := 8 * d.w2.len
  let full := decide (cap < hits.length)
  let cut := if full then (hits.getD (cap - 1) 0) + 1 else per * d.w0.len
  let skipped := ((q.parts.map (fun p => p.finding.skipped)).flatten.map (fun o => min per (cut - per * o))).sum
  { result := some (min hits.length cap + (cut - skipped) * 2 ^ 64), full := full,
    out := ((hits.take cap).zipIdx).foldl (fun t x => patchElem d.w2 x.2 8 x.1 false t) [] }

/-- HISTOGRAM: m + 1 counts. -/
def histEnding (q : Job) : Ending :=
  let d := q.desc
  let count := fun k => (q.parts.map (fun p => tget 0 p.finding.vals k)).sum
  { result := some (sumB q + count d.arg1 * 2 ^ 64), out := (List.range (d.arg1 + 1)).foldl (fun t k => patchElem d.w2 k 8 (count k) false t) [] }

/-- The ending of a job all of whose parts have done their work. -/
def jobEnding (q : Job) (h : Hw) : Ending × Hw :=
  let d := q.desc
  match d.opcode with
  | 3 | 4 => ({ result := some (sumA q + sumB q * 2 ^ 64) }, h)
  | 5 =>
    let (v, h) := reduceValue q h
    let r := v + sumB q * 2 ^ 64
    ({ result := some r, out := resultLine d r }, h)
  | 6 => (scanEnding q, h)
  | 7 => (histEnding q, h)
  | 9 =>
    let r := checksumValue q + 64 * d.w0.len * 2 ^ 64
    ({ result := some r, out := resultLine d r }, h)
  | _ => ({}, h)

/-- Status of a job that has run to its end (Table 8.6). -/
def endStatus (q : Job) (full : Bool) : Nat :=
  if full then 0x0B else bit (q.parts.any (fun p => p.finding.poison))

end Sys2Proof.Machine
end

