-- ==== Sys2Proof/Machine/Jobs.lean ====
section
/-!
DEFINITION. Jobs: descriptors (R228, R229), admission (R235, R237, R242), completion (R233, R234), abort (R239, R240), the parts on
their engines (R238, R239), engine resets (R245, R246), time limits (R248, R253).
-/
namespace Sys2Proof.Machine

/-! Descriptors. -/

/-- A window field (Table 8.3). -/
def parseWindow (v : Nat) : Window := { base := field v 30 0, len := field v 62 32, wr := bitAt v 31 }

/-- A job descriptor (Table 8.2); reserved fields are ignored (R6). -/
def parseDesc (bs : List Byte) : JobDesc :=
  let v := leNat bs
  { opcode := field v 7 0, cls := field v 18 16, kernel := field v 29 24, jobId := field v 47 32, cmode := field v 50 48,
    nospec := bitAt v 10, idem := bitAt v 9, recurring := bitAt v 8,
    w0 := parseWindow (field v 127 64), w1 := parseWindow (field v 191 128), w2 := parseWindow (field v 255 192),
    arg0 := field v 319 256, arg1 := field v 383 320, arg2 := field v 447 384, cplLine := field v 478 448 }

/-- Opcodes of Table 8.4. -/
def knownJob (op : Nat) : Bool := (decide (1 ≤ op) && decide (op ≤ 10)) || op == 15

def windowsOf (d : JobDesc) : List Window := [d.w0, d.w1, d.w2]

/-- Two windows share a line. -/
def overlap (a b : Window) : Bool := a.len != 0 && b.len != 0 && decide (a.base < b.base + b.len) && decide (b.base < a.base + a.len)

/-- Windows that a type needs, and the one it needs writable. -/
def needed (d : JobDesc) : Bool :=
  let has := fun (w : Window) => w.len != 0
  match d.opcode with
  | 1 => has d.w0 && has d.w1 && d.w1.wr && d.w0.len == d.w1.len
  | 2 => has d.w1 && d.w1.wr
  | 3 | 4 => has d.w0 && has d.w1 && has d.w2 && d.w2.wr
  | 5 | 9 => has d.w0 && (!has d.w2 || d.w2.wr)
  | 6 | 7 | 8 => has d.w0 && has d.w2 && d.w2.wr
  | _ => true

/-- Arguments lie in their ranges, and windows hold what they make the job touch. -/
def argsFit (d : JobDesc) : Bool :=
  let n := d.arg0
  let e := d.arg1 % 256
  match d.opcode with
  | 3 => decide (1 ≤ n) && decide (n ≤ 2 ^ 31) && [4, 8, 16, 32, 64].contains e && decide (8 * n ≤ 64 * d.w0.len) && decide (n * e ≤ 64 * d.w2.len)
  | 4 => decide (1 ≤ n) && decide (n ≤ 2 ^ 31) && [4, 8, 16, 32, 64].contains e && decide (8 * n ≤ 64 * d.w0.len) && decide (n * e ≤ 64 * d.w1.len)
  | 5 => n % 4 != 3
  | 6 => (e == 4 || e == 8) && decide (field d.arg1 10 8 ≤ 5) && field d.arg1 13 12 != 3
  | 7 => decide (1 ≤ d.arg1) && decide (d.arg1 ≤ 65536) && (d.arg2 % 256 == 4 || d.arg2 % 256 == 8) && decide (8 * (d.arg1 + 1) ≤ 64 * d.w2.len)
  | 8 => decide (16 * d.arg1 ≤ 64 * d.w0.len)
  | _ => true

/-- A descriptor passes the checks of R229. -/
def goodDesc (d : JobDesc) : Bool :=
  let ws := windowsOf d
  let inside := ws.any (fun w => decide (w.base ≤ d.cplLine) && decide (d.cplLine < w.base + w.len))
  let clash := [(d.w0, d.w1), (d.w0, d.w2), (d.w1, d.w2)].any (fun p => overlap p.1 p.2 && (p.1.wr || p.2.wr))
  ws.all (fun w => decide (w.base + w.len ≤ 2 ^ 31)) && needed d && (d.opcode == 10 || !clash) && argsFit d &&
  decide (d.cmode < 4) && !(decide (2 ≤ d.cmode) && inside)

/-! Completion (R233 to R235). -/

/-- Frees a physical slot that no kernel number names and no job is bound to (R242). -/
def freeStore (h : Hw) (slot : Nat) : Hw :=
  if slot < 64 && obj h 0x6103 slot = 0 && (List.range 64).all (fun k => obj h 0x6102 k != slot) && thas h.jobs.store slot then
    setObj (setJobs h { h.jobs with store := tdel h.jobs.store slot }) 0x6104 1 0 (obj h 0x6104 1 + 1)
  else h

/-- The completion as a slot group (R233). -/
def completion (q : Job) (st : Nat) : TxGroup := .jcpl q.desc.jobId st q.bytes q.result

/-- The completion record: header slot, result slot, zeros (R234). -/
def recordLine (q : Job) (st : Nat) : Line :=
  lineOfBytes (fitBytes 16 (groupBytes (completion q st)) ++ leBytes 16 (q.result.getD 0))

/-- A JCPL goes out at its completion (Table 8.2); the reserved modes 4 to 7, which R229 refuses, have one (assumption 50). -/
def sendsJcpl (q : Job) (st : Nat) : Bool := q.desc.cmode != 3 && (q.desc.cmode != 1 || st != 0)

/-- A completion record is written (Table 8.2). -/
def sendsRecord (d : JobDesc) : Bool := d.cmode == 2 || d.cmode == 3

/-- The completion record can be written: its die serves requests, its parcel is live or can be made so. -/
def recordReady (c : Core) (q : Job) : Core × Bool :=
  if !sendsRecord q.desc then (c, true)
  else if !writeUp c.hw q.desc.cls q.desc.cplLine then (c, false)
  else recreateFor c (q.desc.cplLine / 1024)

/-- The completion record is written where one is asked for, after what the read-modify-write unit holds of its line. -/
def writeCompletion (q : Job) (st : Nat) (c : Core) : Core :=
  let d := q.desc
  if sendsRecord d then
    writeHost (rmwBefore c (chOf (pPc (physOf (route c.hw (d.cplLine / 1024)) d.cplLine))) d.cplLine) d.cplLine (recordLine q st) false (some d.cls) c.hw.chans.nextTxn
  else c

/-- A job that has ended completes: record, JCPL, counts; its job slot is free and its kernel unbound; an ABORT that waits for it has its status. -/
def completeJob (j : Nat) (c : Core) : Core :=
  match jobAt c.hw j with
  | some q =>
    match q.status with
    | some st =>
      (writeCompletion q st c).onHw (fun h =>
        let h := setJobs h { h.jobs with jobs := tdel h.jobs.jobs j, aborts := match q.abort with | some a => tset h.jobs.aborts q.port a | none => h.jobs.aborts }
        let h := setObj (bump h 0x6003 q.port) 0x6001 q.port 0 (obj h 0x6001 q.port - 1)
        let h := if st = 5 then bump h 0x6004 q.port else h
        let h := match q.slot with
          | some s => freeStore (setObj h 0x6103 s 0 (obj h 0x6103 s - 1)) s
          | none => h
        if sendsJcpl q st then sendGroup h q.port (completion q st) else h)
    | none => c
  | none => c

/-- The oldest job with an id on a port. -/
def jobNamed (h : Hw) (p id : Nat) : Option Nat := (h.jobs.jobs.find? (fun e => e.2.port == p && e.2.desc.jobId == id)).map Prod.fst

/-- The JCPL can be sent now, or is discarded with its port (R96, R129). -/
def canSend (h : Hw) (p : Nat) (g : TxGroup) : Bool :=
  let q := port h p
  q.down || (linkActive h && q.replay.isEmpty && q.wait.all (fun w => groupKind w.group != 1) && creditsFor h p g && (freeLaneset h p).isSome)

/-- An ended job completes if its record can be written and its JCPL sent now (R235). Answers whether it did. -/
def tryComplete (j : Nat) (q : Job) (c : Core) : Core × Bool :=
  match q.status with
  | some st =>
    if sendsJcpl q st && !canSend c.hw q.port (completion q st) then (c, false)
    else
      let (c, ok) := recordReady c q
      (if ok then completeJob j c else c, ok)
  | none => (c, false)

/-- The oldest ended job with an id completes once its record is written and its JCPL can be sent. -/
def jobComplete (p id : Nat) (c : Core) : Core :=
  match c.hw.jobs.jobs.find? (fun e => e.2.port == p && e.2.desc.jobId == id && e.2.status.isSome) with
  | some (j, q) => if awake c.hw then (tryComplete j q c).1 else c
  | none => c

def execJobComplete (port job : Nat) (s : State) : Host.Outcome State Fault Refusal :=
  runCore (wfJobComplete port job) (jobComplete port job) s

/-! Abort (R239, R240). -/

/-- The target of an abort: the oldest job of a port with an id. -/
def abortTarget (h : Hw) (p id : Nat) : Option (Nat × Job) := (jobNamed h p id).bind (fun j => (jobAt h j).map (fun q => (j, q)))

/-- The status of an abort: OK before the commit point, else ALREADY_COMPLETE, as for a target that has ended already and whose completion is still to be sent (assumption 159). -/
def abortStatus (q : Job) : Nat := if q.committed || q.status.isSome then 6 else 0

/-- An abort stops a target that is before its commit point, and its completion goes out if it can. Answers whether it went. -/
def stopTarget (j : Nat) (q : Job) (c : Core) : Core × Bool :=
  let c := if abortStatus q = 0 then c.onHw (fun h => endJob h j 5 (noResult q)) else c
  match jobAt c.hw j with
  | some q => tryComplete j q c
  | none => (c, true)

/-- What an ABORT descriptor does to its target: the ABORT's status, or none while the target's completion is still to be sent, which goes first. -/
def abort (p id : Nat) (c : Core) : Core × Option Nat :=
  match tfind c.hw.jobs.aborts p, abortTarget c.hw p id with
  | some st, _ => (c, some st)
  | none, none => (c, some 7)
  | none, some (j, q) =>
    let st := q.abort.getD (abortStatus q)
    let (c, gone) := stopTarget j { q with abort := some st } (c.onHw (fun h => onJob h j (fun q => { q with abort := some st })))
    (c, if gone then some st else none)

/-- 0x6006: job id in [15:0], port in [17:16] (R252). The command is not held up by a completion that cannot go out yet. -/
def abortAct (c : Core) (v : Nat) : Act :=
  match abortTarget c.hw (field v 17 16) (v % 65536) with
  | some (j, q) => .done (stopTarget j q c).1 { status := if abortStatus q = 0 then .ok else .alreadyComplete, total := 4 }
  | none => .done c { status := .noSuchJob, total := 4 }

/-! Admission (R235, R237). -/

/-- Parcels of a window with their tracks, by lookups. -/
def windowTracks (w : Window) (h : Hw) : Hw × List (Nat × Nat) :=
  if w.len = 0 then (h, [])
  else (span (w.base / 1024) ((w.base + w.len - 1) / 1024 + 1 - w.base / 1024)).foldl (fun x p =>
    let (h, e) := lookup x.1 p
    (h, x.2 ++ [(p, entTrack e)])) (h, [])

def drivingWindow (d : JobDesc) : Window :=
  match d.opcode with
  | 2 => d.w1
  | 4 => d.w2
  | _ => d.w0

def outputWindow (d : JobDesc) : Window :=
  match d.opcode with
  | 1 | 2 => d.w1
  | 5 | 9 => if d.w2.len = 0 then d.w0 else d.w2
  | _ => d.w2

/-- The track that holds the most lines of a window, the lowest on a tie. -/
def mostLines (w : Window) (ps : List (Nat × Nat)) : Nat :=
  let lines := fun t => ((ps.filter (fun p => p.2 == t)).map (fun p => (w.inParcel p.1).2)).sum
  (List.range 8).foldl (fun b t => if lines b < lines t then t else b) 0

/-- The parts of a job and its home track. A KERNEL job is one part on the track of the first line of W0, or track 0. -/
def partsOf (d : JobDesc) (h : Hw) : Hw × Nat × List Part :=
  if d.opcode = 10 then
    let (h, t) := if d.w0.len = 0 then (h, 0) else let (h, e) := lookup h (d.w0.base / 1024); (h, entTrack e)
    (h, t, [{ track := t, home := true, parcels := [], lines := 0 }])
  else
    let w := drivingWindow d
    let (h, drive) := windowTracks w h
    let (h, out) := windowTracks (outputWindow d) h
    let home := mostLines (outputWindow d) out
    (h, home, ((List.range 8).filter (fun t => t == home || drive.any (fun p => p.2 == t))).map (fun t =>
      let ps := (drive.filter (fun p => p.2 == t)).map Prod.fst
      { track := t, home := t == home, parcels := ps, lines := (ps.map (fun p => (w.inParcel p).2)).sum }))

/-- A recurring job's signature is noted; at the threshold it is reported to co-location (R238). -/
def noteRecurring (h : Hw) (d : JobDesc) (home : Nat) : Hw :=
  if !d.recurring then h
  else
    let s := [d.opcode, d.kernel] ++ ((windowsOf d).map (fun w => [w.base, w.len])).flatten
    let n := ((h.jobs.sigs.find? (fun x => x.sig == s)).map Signature.count).getD 0 + 1
    let sigs := h.jobs.sigs.filter (fun x => x.sig != s) ++ [⟨s, n⟩]
    let sigs := sigs.drop (sigs.length - 64)
    let h := setObj (setJobs h { h.jobs with sigs := sigs }) 0x6060 1 0 sigs.length
    if n = obj h 0x4060 2 then
      let ws := (windowsOf d).filter (fun w => w.len != 0)
      let wanted := ws.map (fun w => (w.base / 1024, (w.base + w.len - 1) / 1024 + 1 - w.base / 1024, home))
      bump (setPlace h { h.place with wanted := h.place.wanted ++ wanted }) 0x6060 2
    else h

/-- Admits a checked descriptor: job slot, kernel binding, windows, parts, places. -/
def admitJob (h : Hw) (p : Nat) (d : JobDesc) : Hw :=
  let j := h.jobs.nextJob
  let h := bump (setObj h 0x6001 p 0 (obj h 0x6001 p + 1)) 0x6002 p
  let slot := if d.opcode = 10 then some (obj h 0x6102 d.kernel) else none
  let h := match slot with | some s => setObj h 0x6103 s 0 (obj h 0x6103 s + 1) | none => h
  let (h, home, parts) := partsOf d h
  let h := setJobs h { h.jobs with nextJob := j + 1, jobs := tset h.jobs.jobs j { port := p, desc := d, admitted := now h, slot := slot, homeTrack := home, parts := parts } }
  (List.range parts.length).foldl (fun h i => placePart h (j, i)) (noteRecurring h d home)

/-- The head descriptor leaves the buffer, with the header slot of its group behind the last of them. -/
def popDesc (h : Hw) (p : Nat) : Hw :=
  let q := port h p
  let rest := q.job.tail
  let hdr := match rest with | x :: _ => x.length == 16 | [] => false
  returnCredits (setPort h p { q with job := if hdr then rest.tail else rest }) p 0 (4 + bit hdr) 0

/-- A descriptor that takes no job slot, as its completion has it: no bytes and no result. -/
def slotless (p : Nat) (d : JobDesc) : Job := { port := p, desc := d, admitted := 0, homeTrack := 0, parts := [] }

/-- Such a descriptor leaves the buffer and is completed as its CMODE asks: record, JCPL, or both (Table 8.2, assumption 50). -/
def answerDesc (p : Nat) (d : JobDesc) (st : Nat) (c : Core) : Core :=
  let q := slotless p d
  (writeCompletion q st (c.onHw (fun h => popDesc h p))).onHw (fun h =>
    let h := setJobs h { h.jobs with aborts := tdel h.jobs.aborts p }
    if sendsJcpl q st then sendGroup h p (completion q st) else h)

/-- It is answered once its record can be written; until then it waits at the head of its buffer. -/
def answerHead (p : Nat) (d : JobDesc) (st : Nat) (c : Core) : Core :=
  let (c, ok) := recordReady c (slotless p d)
  if ok then answerDesc p d st c else c

/-- A refused descriptor is counted (R229). -/
def refuseDesc (p : Nat) (d : JobDesc) (st : Nat) (c : Core) : Core :=
  let (c, ok) := recordReady c (slotless p d)
  if ok then (answerDesc p d st c).onHw (fun h => bump h 0x6005 p) else c

/-- Descriptors are taken from a port's buffer (R235, R250, R253). -/
def takesJobs (h : Hw) : Bool := admitting h && (grey h || flag h 0x6000 2)

/-- Head descriptors with a reserved opcode are answered first: no type of job is theirs. -/
def dropReserved (p : Nat) : Nat → Core → Core
  | 0, c => c
  | n + 1, c =>
    match (port c.hw p).job with
    | b :: _ =>
      let d := parseDesc b
      if b.isEmpty || knownJob d.opcode then c
      else dropReserved p n (if grey c.hw then answerHead p d 0x0A c else refuseDesc p d 3 c)
    | [] => c

/-- Takes the head descriptor of a port if it is of a type. -/
def takeJob (op p : Nat) (c : Core) : Core :=
  if !takesJobs c.hw then c
  else
    let c := dropReserved p (port c.hw p).job.length c
    match (port c.hw p).job with
    | [] => c
    | b :: _ =>
      let d := parseDesc b
      if b.isEmpty || d.opcode != op then c
      else if grey c.hw then answerHead p d 0x0A c
      else if !goodDesc d then refuseDesc p d 2 c
      else if op = 15 then
        match abort p (d.arg0 % 65536) c with
        | (c, some st) => answerHead p d st c
        | (c, none) => c
      else if op = 10 && obj c.hw 0x6102 d.kernel = 0xFF then refuseDesc p d 4 c
      else if 256 ≤ obj c.hw 0x6001 p then c
      else c.onHw (fun h => admitJob (popDesc h p) p d)

def execCopy (port : Nat) (s : State) : Host.Outcome State Fault Refusal := runCore (wfCopy port) (takeJob 1 port) s
def execFill (port : Nat) (s : State) : Host.Outcome State Fault Refusal := runCore (wfFill port) (takeJob 2 port) s
def execGather (port : Nat) (s : State) : Host.Outcome State Fault Refusal := runCore (wfGather port) (takeJob 3 port) s
def execScatter (port : Nat) (s : State) : Host.Outcome State Fault Refusal := runCore (wfScatter port) (takeJob 4 port) s
def execReduce (port : Nat) (s : State) : Host.Outcome State Fault Refusal := runCore (wfReduce port) (takeJob 5 port) s
def execScan (port : Nat) (s : State) : Host.Outcome State Fault Refusal := runCore (wfScan port) (takeJob 6 port) s
def execHistogram (port : Nat) (s : State) : Host.Outcome State Fault Refusal := runCore (wfHistogram port) (takeJob 7 port) s
def execAtomicBatch (port : Nat) (s : State) : Host.Outcome State Fault Refusal := runCore (wfAtomicBatch port) (takeJob 8 port) s
def execChecksum (port : Nat) (s : State) : Host.Outcome State Fault Refusal := runCore (wfChecksum port) (takeJob 9 port) s
def execKernel (port : Nat) (s : State) : Host.Outcome State Fault Refusal := runCore (wfKernel port) (takeJob 10 port) s
def execAbort (port : Nat) (s : State) : Host.Outcome State Fault Refusal := runCore (wfAbort port) (takeJob 15 port) s

/-! Parts on engines (R238, R239). -/

/-- The part of the highest class in a queue, the oldest of those. -/
def nextPart (h : Hw) (q : List (Nat × Nat)) : Option (Nat × Nat) :=
  let cls := fun (r : Nat × Nat) => match jobAt h r.1 with | some j => j.desc.cls | none => 0
  q.foldl (fun b r => match b with
    | none => some r
    | some x => if cls x < cls r || (cls x == cls r && decide (r.1 < x.1)) then some r else some x) none

/-- Fetches a kernel image into instruction memory, in place of the least recently used of four (R242). -/
def loadImage (g : Engine) (slot : Option Nat) : List Nat :=
  match slot with
  | some s =>
    let rest := g.images.filter (· != s)
    (if rest.length < 4 then rest else rest.drop (rest.length - 3)) ++ [s]
  | none => g.images

/-- State in which a kernel's part starts (R255). -/
def startKern (q : Job) : Kern :=
  let d := q.desc
  let regs := [(1, d.arg0), (2, d.arg1), (3, d.arg2), (4, d.w0.len), (5, d.w1.len), (6, d.w2.len), (7, d.jobId + q.port * 2 ^ 16)]
  { s := regs.foldl (fun t r => tput 0 t r.1 r.2) [] }

/-- A free engine starts the next part of its queue. -/
def partStart (e : Nat) (c : Core) : Core :=
  let g := engine c.hw e
  match nextPart c.hw g.queue with
  | some r =>
    match jobAt c.hw r.1 with
    | some q =>
      if !awake c.hw || g.part.isSome || engState c.hw e != 0 || domainState c.hw (engDomain (e / 4)) != 0 then c
      else
        let c := c.onHw (fun h =>
          let h := setEngine h e { images := loadImage g q.slot, idleAt := g.idleAt, queue := g.queue.filter (· != r), part := some r, retired := now h, k := if q.desc.opcode = 10 then startKern q else {} }
          let h := setPart (bump (setEngState h e 1) 0x6012 e) r.1 r.2 (fun p => { p with running := true, issue := p.low })
          placeWaiting h)
        if q.desc.opcode = 8 then issueRecords r.1 r.2 64 c else c
    | none => c
  | none => c

def execPartStart (eng : Nat) (s : State) : Host.Outcome State Fault Refusal := runCore (wfPartStart eng) (partStart eng) s

/-- An engine domain is ON: its engines are candidates, and parts that waited for one are placed (R237). -/
def engineDomainOn (t : Nat) (h : Hw) : Hw :=
  if h.mode != .run || decide (1 < obj h 0x7000 1) then h
  else
    let h := engOn (setDomain h (engDomain t) 0) t
    let h := if grey h then (trackEngines t).foldl (fun h e => if engState h e = 0 then setEngState h e 3 else h) h else h
    placeWaiting h

def execEngineDomainOn (track : Nat) (s : State) : Host.Outcome State Fault Refusal := runHw (wfEngineDomainOn track) (engineDomainOn track) s

/-- Accesses of a class to a track go ahead: its dies serve requests, none of its channels stands under an alert, and the class is below its limit there (R209, R210). -/
def trackTakes (h : Hw) (t cls : Nat) : Bool :=
  dieOn h (2 * t) && dieOn h (2 * t + 1) && (span (8 * t) 8).all (fun ch => (chSt h ch).alert.isNone) && underLimit h t cls

/-- The parcels of a job's windows can be reached: every live one lies on a track that takes the job's accesses. -/
def windowsUp (h : Hw) (d : JobDesc) : Bool :=
  (windowsOf d).all (fun w => w.len == 0 || (span (w.base / 1024) ((w.base + w.len - 1) / 1024 + 1 - w.base / 1024)).all (fun p =>
    let e := route h p
    entReleased e || trackTakes h (entTrack e) d.cls))

/-- The part an engine runs. -/
def running (h : Hw) (e : Nat) : Option (Nat × Nat × Job × Part) :=
  match (engine h e).part with
  | some (j, i) =>
    match jobAt h j with
    | some q => (q.parts[i]?).map (fun p => (j, i, q, p))
    | none => none
  | none => none

/-- Types whose parts send partial results to the home engine. -/
def combines (op : Nat) : Bool := op == 5 || op == 6 || op == 7 || op == 9

/-- What a part has found, with what it finds next. -/
def addFinding (f g : Finding) : Finding :=
  { vals := g.vals.foldl (fun t x => tset t x.1 x.2) f.vals, skipped := f.skipped ++ g.skipped, a := f.a + g.a, b := f.b + g.b, poison := f.poison || g.poison }

/-- The lowest parcel of a REDUCE whose value the home engine still waits for. -/
def lowestAwaited (q : Job) : Nat :=
  (q.parts.filterMap (fun p => (p.parcels.drop p.sent).head?)).foldl min parcels

/-- The parcels of a part that it may start: none more than 16,384 beyond the lowest whose value the home engine waits for (R232). -/
def mayStart (q : Job) (p : Part) : List Nat := (p.parcels.drop p.sent).takeWhile (fun k => decide (k ≤ lowestAwaited q + 16384))

/-- A part of a REDUCE computes the values of the parcels it may start, which go to the home engine; all of them being there, a part that is not the home part is done (R232, R238). -/
def reducePart (e j i : Nat) (q : Job) (p : Part) (c : Core) : Core :=
  let ks := mayStart q p
  let (c, w) := partWork e q.desc { p with parcels := ks } c
  c.onHw (fun h =>
    let h := if ks.isEmpty || p.home then h else ringCarry h (e / 4) q.homeTrack 64
    let h := setPart h j i (fun p => { p with finding := addFinding p.finding w.f, sent := p.sent + ks.length })
    if !p.home && p.sent + ks.length = p.parcels.length then finishPart h (j, i) else h)

/-- A part sends a partial result. One that is not the home part has done its work; its result goes to the home engine as one line over the Ringroad. In a REDUCE the values go as the home engine can keep them (R232, assumption 160). -/
def partialResult (e : Nat) (c : Core) : Core :=
  match running c.hw e with
  | some (j, i, q, p) =>
    if !awake c.hw || !combines q.desc.opcode || !windowsUp c.hw q.desc then c
    else if q.desc.opcode = 5 then reducePart e j i q p c
    else if p.home then c
    else
      let (c, w) := partWork e q.desc p c
      c.onHw (fun h => finishPart (setPart (ringCarry h (e / 4) q.homeTrack 64) j i (fun p => { p with finding := w.f })) (j, i))
  | none => c

def execPartialResult (eng : Nat) (s : State) : Host.Outcome State Fault Refusal := runCore (wfPartialResult eng) (partialResult eng) s

/-- The job's commit point is passed; with all parts done it ends. -/
def ended (h : Hw) (j : Nat) (en : Ending) : Hw :=
  onJob h j (fun q => { q with committed := true, status := some (endStatus q en.full), result := en.result })

/-- A part that writes does its work; the last of them passes the commit point. With no storage for a released parcel it waits. -/
def writePart (e j i : Nat) (q : Job) (p : Part) (c : Core) : Core :=
  let d := q.desc
  let (c, ok) := liveFor c ((partWork e d p c).2.out.map Prod.fst)
  if !ok then c
  else
    let (c, w) := partWork e d p c
    let c := flushPatches e j d.cls w.out c
    c.onHw (fun h =>
      let h := finishPart (setPart h j i (fun p => { p with finding := w.f })) (j, i)
      match jobAt h j with
      | some q => if q.parts.all (fun p => p.finished) then let (en, h) := jobEnding q h; ended h j en else h
      | none => h)

/-- The home part, the last: its own work, or what is left of it, the combination, the final write (R238, R239). -/
def homePart (e j i : Nat) (q : Job) (p : Part) (c : Core) : Core :=
  let p := { p with parcels := p.parcels.drop p.sent }
  if !(q.parts.all (fun p => p.home || p.finished)) || (q.desc.opcode = 5 && mayStart q { p with sent := 0 } != p.parcels) then c
  else
    let (c', w) := partWork e q.desc p c
    let done := fun (q : Job) => { q with parts := q.parts.modify i (fun p => { p with finding := addFinding p.finding w.f }) }
    let (c, ok) := liveFor c ((jobEnding (done q) c'.hw).1.out.map Prod.fst)
    if !ok then c
    else
      let (c, _) := partWork e q.desc p c
      let (en, h) := jobEnding (done q) c.hw
      let c := flushPatches e j q.desc.cls en.out { c with hw := onJob h j done }
      c.onHw (fun h => ended (finishPart h (j, i)) j en)

/-- An ATOMIC-BATCH part is let go on to its last record; the part whose last write completes the job passes the commit point. -/
def batchPart (j i : Nat) (q : Job) (p : Part) (c : Core) : Core :=
  let n := recordCount q.desc p.parcels
  if p.granted || decide (p.issue + 1 < n) then c
  else
    let last := (q.parts.eraseIdx i).all (fun p => p.finished || p.granted)
    let c := c.onHw (fun h => onJob (setPart h j i (fun p => { p with granted := true })) j (fun q => { q with committed := q.committed || last }))
    (issueRecords j i 64 c).onHw (fun h => batchDone h j i)

/-- A kernel at END or ENDP: the held lines of all four units issue together, and the job ends with its status and s1 (R275, R276). -/
def kernelEnd (e j i st : Nat) (q : Job) (c : Core) : Core :=
  let g := engine c.hw e
  let held := (List.range 4).filterMap (fun su => (stream g su).held)
  let (c, ok) := liveFor c (held.map HeldLine.line)
  if !ok || held.any (fun x => !writeUp c.hw q.desc.cls x.line) then c
  else
    let c := held.foldl (fun c x => engWrite c e j q.desc.cls x.line x.data x.poison) c
    c.onHw (fun h => onJob (finishPart (bump h 0x6201 e) (j, i)) j (fun q => { q with committed := true, status := some st, result := some (tget 0 g.k.s 1) }))

/-- The scheduler lets a part go on to its last write. -/
def commitGrant (e : Nat) (c : Core) : Core :=
  match running c.hw e with
  | some (j, i, q, p) =>
    if !awake c.hw then c
    else if q.desc.opcode = 8 then batchPart j i q p c
    else if q.desc.opcode = 10 then
      match (engine c.hw e).asking with
      | some st => kernelEnd e j i st q c
      | none => c
    else if !windowsUp c.hw q.desc then c
    else if combines q.desc.opcode then (if p.home then homePart e j i q p c else c)
    else writePart e j i q p c
  | none => c

def execCommitGrant (eng : Nat) (s : State) : Host.Outcome State Fault Refusal := runCore (wfCommitGrant eng) (commitGrant eng) s

/-! Speculation (R243, R253, R266). -/

/-- The line a built-in part's stream stands before: unit 0 streams W0, unit 1 the values of SCATTER. -/
def builtinAhead (d : JobDesc) (p : Part) (su n : Nat) : Option (Nat × Nat) :=
  let lines := match d.opcode, su with
    | 2, _ => []
    | 4, 0 => span d.w0.base ((d.arg0 + 7) / 8)
    | 4, 1 => span d.w1.base ((d.arg0 * (d.arg1 % 256) + 63) / 64)
    | 8, 0 => (p.linesOf d.w0).drop ((p.issue + 3) / 4)
    | _, 0 => p.linesOf d.w0
    | _, _ => []
  (lines[n]?).map (fun l => (l - (if su = 1 then d.w1.base else d.w0.base), l))

/-- The next line a kernel's stream may read ahead: mode 0, the first of the next `n` offsets of its sequence that is not in the buffer, inside the window (R266). -/
def kernelAhead (d : JobDesc) (s : Stream) (n : Nat) : Option (Nat × Nat) :=
  let w := (windowsOf d).getD s.win {}
  let os := (List.range n).map (fun (k : Nat) => (s.next : Int) + k * s.stride)
  match os.find? (fun o => !s.ahead.any (fun a => (a.offset : Int) == o)) with
  | some o => if s.opened && s.mode == 0 && decide (0 ≤ o) && decide (o < w.len) then some (o.toNat, w.base + o.toNat) else none
  | none => none

def speculativeRead (e su : Nat) (c : Core) : Core :=
  match running c.hw e with
  | some (_, _, q, p) =>
    let s := stream (engine c.hw e) su
    if !awake c.hw || q.desc.nospec || !flag c.hw 0x6030 1 || decide (obj c.hw 0x6030 2 ≤ s.ahead.length) then c
    else match (if q.desc.opcode = 10 then kernelAhead q.desc s (obj c.hw 0x6030 2) else builtinAhead q.desc p su s.ahead.length) with
      | some (o, l) => readAhead c e su q.desc.cls o l
      | none => c
  | none => c

def execSpeculativeRead (eng su : Nat) (s : State) : Host.Outcome State Fault Refusal := runCore (wfSpeculativeRead eng su) (speculativeRead eng su) s

/-! Engine resets (R245, R246). -/

/-- The job may run again from its start (Table 8.4). -/
def idempotent (d : JobDesc) : Bool := if d.opcode = 10 then d.idem else d.opcode != 8

/-- A part starts over. -/
def freshPart (p : Part) : Part :=
  { p with engine := none, running := false, finished := false, granted := false, finding := {}, low := 0, acked := [], issue := 0, sent := 0 }

/-- Places parts of an idempotent job again, unless one of them has reached the limit of 0x6020:02. -/
def replaceParts (h : Hw) (j : Nat) (is : List Nat) : Hw :=
  match jobAt h j with
  | some q =>
    if is.any (fun i => match q.parts[i]? with | some p => decide (obj h 0x6020 2 ≤ p.replaced) | none => false) then endJob h j 8 (noResult q)
    else is.foldl (fun h i =>
      let h := setPart (unplace h (j, i)) j i (fun p => { freshPart p with replaced := p.replaced + 1 })
      placePart (bump h 0x6020 1) (j, i)) h
  | none => h

/-- What a reset does to one job with parts on the engine. The updates of an ATOMIC-BATCH part that are not acknowledged leave the read-modify-write units: the part issues them again (R246). -/
def resetJob (h : Hw) (j : Nat) (is : List Nat) : Hw :=
  match jobAt h j with
  | some q =>
    if q.status.isSome then h
    else if q.desc.opcode = 8 then
      is.foldl (fun h i => placePart (bump (setPart (dropBatch (fun j' i' => j' == j && i' == i) h) j i (fun p => { p with engine := none, running := false })) 0x6020 3) (j, i)) h
    else if q.committed then h
    else if !idempotent q.desc then endJob h j 8 (noResult q)
    else
      let home := is.any (fun i => match q.parts[i]? with | some p => p.home | none => false)
      replaceParts h j (if home then List.range q.parts.length else is)
  | none => h

/-- An engine resets: its part ends, its queue empties, each part has the outcome of its job's type. -/
def engineReset (e : Nat) (h : Hw) : Hw :=
  let g := engine h e
  let rs := g.part.toList ++ g.queue
  let h := rs.foldl unplace h
  let h := setEngState (bump (setEngine h e {}) 0x6013 e) e 4
  ((rs.map Prod.fst).eraseReps).foldl (fun h j => resetJob h j ((rs.filter (fun r => r.1 == j)).map Prod.snd)) h

/-- The engine is powered and in service. -/
def servesParts (h : Hw) (e : Nat) : Bool := awake h && decide (engState h e ≤ 1)

def execEngineFault (eng : Nat) (s : State) : Host.Outcome State Fault Refusal :=
  runHw (wfEngineFault eng) (fun h => only (servesParts h eng) (engineReset eng) h) s

/-- The watchdog: the running part has retired no instruction for 0x6200:08 µs (R278). -/
def execEngineWatchdog (eng : Nat) (s : State) : Host.Outcome State Fault Refusal :=
  runHw (wfEngineWatchdog eng) (fun h => only (servesParts h eng && (engine h eng).part.isSome) (engineReset eng) h) s

/-- 0x6015. -/
def resetEngineAct (c : Core) (e : Nat) : Act := if servesParts c.hw e then actHw c (engineReset e c.hw) else actHw c c.hw .notReady

/-- A reset engine is back: halted in Grey mode or where its self-test failed, gated where its domain is off; else a candidate again. -/
def engineBack (e : Nat) (h : Hw) : Hw :=
  if engState h e != 4 || h.mode != .run then h
  else
    let st := if grey h || engineUnit h e then 3 else if domainState h (engDomain (e / 4)) = 0 then 0 else 2
    placeWaiting (setEngState h e st)

def execEngineBackInService (eng : Nat) (s : State) : Host.Outcome State Fault Refusal := runHw (wfEngineBackInService eng) (engineBack eng) s

/-! Time limits. -/

/-- A job runs longer than a non-zero 0x6000:03 (R253). -/
def jobTimeout (p id : Nat) (h : Hw) : Hw :=
  match jobNamed h p id with
  | some j =>
    match jobAt h j with
    | some q => if obj h 0x6000 3 = 0 || q.committed || q.status.isSome then h else endJob h j 0x0D (noResult q)
    | none => h
  | none => h

def execJobTimeout (port job : Nat) (s : State) : Host.Outcome State Fault Refusal := runHw (wfJobTimeout port job) (jobTimeout port job) s

/-- The older of two jobs: admitted earlier, then the lower port, then the lower job id (R248). -/
def older (h : Hw) (a b : Nat) : Bool :=
  match jobAt h a, jobAt h b with
  | some x, some y =>
    decide (x.admitted < y.admitted) || (x.admitted == y.admitted && (decide (x.port < y.port) || (x.port == y.port && decide (x.desc.jobId < y.desc.jobId))))
  | _, _ => false

/-- A lock request has waited 0x6040:01: the younger of the waiting and the holding job ends with RETRY (R248). -/
def lockWaitTimeout (e : Nat) (h : Hw) : Hw :=
  match (engine h e).wait, (engine h e).part with
  | some (line, _), some (a, _) =>
    match (lockedBy h e line).bind (fun g => (engine h g).part) with
    | some (b, _) =>
      let j := if older h a b then b else a
      match jobAt h j with
      | some q => endJob (bump h 0x6040 2) j 9 (noResult q)
      | none => h
    | none => h
  | _, _ => h

def execLockWaitTimeout (eng : Nat) (s : State) : Host.Outcome State Fault Refusal := runHw (wfLockWaitTimeout eng) (lockWaitTimeout eng) s

end Sys2Proof.Machine
end

