-- ==== Sys2Proof/Machine/KernelDecode.lean ====
section
/-!
DEFINITION. Kernel instruction words (R256 to R259, Tables 9.1, 9.2 and 9.4): one row for each code, and the decoder that reads them.
-/
namespace Sys2Proof.Machine

/-- Instructions of Table 9.4. -/
inductive KOp where
  | nop | stop | endp | trap | fence | milestone | time | jr | jalr
  | add | sub | mul | mulhu | mulhs | divu | divs | remu | rems | and | or | xor | sll | srl | sra | mins | maxs | minu | maxu | mov | popc | clz
  | eq | ne | lts | les | ltu | leu | feq | flt | fle
  | fadd | fsub | fmul | fdiv | fma | fmin | fmax | fsqrt | cvti | cvtf | cvtw
  | bcst | ext | ins | rsum | rmin | rmax | vmov
  | pand | por | pxor | pandn | pnot | pany | pcnt | pfrom | pto | vtag | stag
  | snext | sget | sput | sset | sclose | spos
  | scratchLoad | scratchStore | satom | lock | unlock | unlocka
  | li | lih | vbcstiW | vbcstiD | br | call | sopen
  deriving DecidableEq, Repr

/-- How an instruction uses a field: not at all, as a scalar, vector or predicate register, as a stream unit or a trap code. -/
inductive Use where
  | no | s | v | p | su | nib
  deriving DecidableEq, Repr

/-- The field's value is one the use allows (R258). -/
def Use.ok : Use → Nat → Bool
  | .no, n => n == 0
  | .s, _ => true
  | .v, n => decide (n < 16)
  | .p, n => decide (n < 8)
  | .su, n => decide (n < 4)
  | .nib, n => decide (n < 16)

/-- How an instruction uses the immediate. -/
inductive ImmUse where
  | no | any | nonzero
  deriving DecidableEq, Repr

/-- One code: major opcode, the bits of FN that select it and their value, the uses of the fields. -/
structure KRow where
  maj : Nat
  mask : Nat
  code : Nat
  op : KOp
  rd : Use := .no
  ra : Use := .no
  rb : Use := .no
  imm : ImmUse := .no
  deriving DecidableEq, Repr

/-- Scalar integer operations that take both sources, by code. -/
def aluOps : List (Nat × KOp) :=
  [(0, .add), (1, .sub), (2, .mul), (3, .mulhu), (4, .mulhs), (5, .divu), (6, .divs), (7, .remu), (8, .rems),
   (9, .and), (0xA, .or), (0xB, .xor), (0xC, .sll), (0xD, .srl), (0xE, .sra), (0xF, .mins), (0x10, .maxs), (0x11, .minu), (0x12, .maxu)]

def cmpOps : List (Nat × KOp) := [(0, .eq), (1, .ne), (2, .lts), (3, .les), (4, .ltu), (5, .leu)]
def fcmpOps : List (Nat × KOp) := [(6, .feq), (7, .flt), (8, .fle)]
def fpOps2 : List (Nat × KOp) := [(0, .fadd), (1, .fsub), (2, .fmul), (3, .fdiv), (4, .fma), (5, .fmin), (6, .fmax)]
def fpOps1 : List (Nat × KOp) := [(7, .fsqrt), (8, .cvti), (9, .cvtf)]

def sysRows : List KRow :=
  [{ maj := 0, mask := 127, code := 0, op := .nop }, { maj := 0, mask := 127, code := 1, op := .stop }, { maj := 0, mask := 127, code := 2, op := .endp },
   { maj := 0, mask := 127, code := 3, op := .trap, ra := .nib }, { maj := 0, mask := 127, code := 4, op := .fence },
   { maj := 0, mask := 127, code := 5, op := .milestone }, { maj := 0, mask := 127, code := 6, op := .time, rd := .s },
   { maj := 0, mask := 127, code := 7, op := .jr, ra := .s }, { maj := 0, mask := 127, code := 8, op := .jalr, rd := .s, ra := .s }]

def aluRows : List KRow :=
  aluOps.map (fun x => { maj := 0x01, mask := 127, code := x.1, op := x.2, rd := .s, ra := .s, rb := .s }) ++
  [{ maj := 0x01, mask := 127, code := 0x13, op := .mov, rd := .s, rb := .s }, { maj := 0x01, mask := 127, code := 0x14, op := .popc, rd := .s, ra := .s },
   { maj := 0x01, mask := 127, code := 0x15, op := .clz, rd := .s, ra := .s }] ++
  aluOps.map (fun x => { maj := 0x20, mask := 127, code := x.1, op := x.2, rd := .s, ra := .s, imm := .any }) ++
  [{ maj := 0x20, mask := 127, code := 0x13, op := .mov, rd := .s, imm := .any }, { maj := 0x20, mask := 127, code := 0x14, op := .popc, rd := .s, ra := .s },
   { maj := 0x20, mask := 127, code := 0x15, op := .clz, rd := .s, ra := .s }] ++
  (aluOps.filter (fun x => x.1 < 3 || 9 ≤ x.1)).map (fun x => { maj := 0x04, mask := 63, code := x.1, op := x.2, rd := .v, ra := .v, rb := .v })

def cmpRows : List KRow :=
  (cmpOps ++ fcmpOps).map (fun x => { maj := 0x02, mask := 127, code := x.1, op := x.2, rd := .p, ra := .s, rb := .s }) ++
  cmpOps.map (fun x => { maj := 0x21, mask := 127, code := x.1, op := x.2, rd := .p, ra := .s, imm := .any }) ++
  (cmpOps ++ fcmpOps).map (fun x => { maj := 0x06, mask := 63, code := x.1, op := x.2, rd := .p, ra := .v, rb := .v })

def fpRows : List KRow :=
  fpOps2.map (fun x => { maj := 0x03, mask := 63, code := x.1, op := x.2, rd := .s, ra := .s, rb := .s }) ++
  fpOps1.map (fun x => { maj := 0x03, mask := 63, code := x.1, op := x.2, rd := .s, ra := .s }) ++
  [{ maj := 0x03, mask := 63, code := 0x0A, op := .cvtw, rd := .s, ra := .s }] ++
  fpOps2.map (fun x => { maj := 0x05, mask := 63, code := x.1, op := x.2, rd := .v, ra := .v, rb := .v }) ++
  fpOps1.map (fun x => { maj := 0x05, mask := 63, code := x.1, op := x.2, rd := .v, ra := .v })

def permRows : List KRow :=
  [{ maj := 0x07, mask := 63, code := 0, op := .bcst, rd := .v, ra := .s }, { maj := 0x07, mask := 63, code := 1, op := .ext, rd := .s, ra := .v, rb := .s },
   { maj := 0x07, mask := 63, code := 2, op := .ins, rd := .v, ra := .s, rb := .s }, { maj := 0x07, mask := 31, code := 3, op := .rsum, rd := .s, ra := .v },
   { maj := 0x07, mask := 31, code := 4, op := .rmin, rd := .s, ra := .v }, { maj := 0x07, mask := 31, code := 5, op := .rmax, rd := .s, ra := .v },
   { maj := 0x07, mask := 63, code := 6, op := .vmov, rd := .v, ra := .v }]

def predRows : List KRow :=
  [(0, KOp.pand), (1, .por), (2, .pxor), (3, .pandn)].map (fun x => { maj := 0x08, mask := 127, code := x.1, op := x.2, rd := .p, ra := .p, rb := .p }) ++
  [{ maj := 0x08, mask := 127, code := 4, op := .pnot, rd := .p, ra := .p }, { maj := 0x08, mask := 127, code := 5, op := .pany, rd := .s, ra := .p },
   { maj := 0x08, mask := 127, code := 6, op := .pcnt, rd := .s, ra := .p }, { maj := 0x08, mask := 127, code := 7, op := .pfrom, rd := .p, ra := .s },
   { maj := 0x08, mask := 127, code := 8, op := .pto, rd := .s, ra := .p }, { maj := 0x08, mask := 127, code := 9, op := .vtag, rd := .p, ra := .v },
   { maj := 0x08, mask := 127, code := 10, op := .stag, rd := .p, ra := .s }]

def strmRows : List KRow :=
  [{ maj := 0x09, mask := 31, code := 0, op := .snext, rd := .v, rb := .p }, { maj := 0x09, mask := 31, code := 1, op := .sget, rd := .v, ra := .s, rb := .p },
   { maj := 0x09, mask := 31, code := 2, op := .sput, ra := .v }, { maj := 0x09, mask := 31, code := 3, op := .sset, ra := .v, rb := .s },
   { maj := 0x09, mask := 31, code := 4, op := .sclose }, { maj := 0x09, mask := 31, code := 5, op := .spos, rd := .s }]

/-- Scratch accesses: FN[4] matters to scalar loads alone (Table 9.4). -/
def scrRows : List KRow :=
  (List.range 4).map (fun z => { maj := 0x0A, mask := 111, code := z, op := .scratchLoad, rd := .s, ra := .s, rb := .s }) ++
  [{ maj := 0x0A, mask := 127, code := 4, op := .scratchLoad, rd := .v, ra := .s, rb := .s }] ++
  (List.range 4).map (fun z => { maj := 0x0A, mask := 127, code := 8 + z, op := .scratchStore, rd := .s, ra := .s, rb := .s }) ++
  [{ maj := 0x0A, mask := 127, code := 12, op := .scratchStore, rd := .v, ra := .s, rb := .s }] ++
  (List.range 4).map (fun z => { maj := 0x25, mask := 111, code := z, op := .scratchLoad, rd := .s, ra := .s, imm := .any }) ++
  [{ maj := 0x25, mask := 127, code := 4, op := .scratchLoad, rd := .v, ra := .s, imm := .any }] ++
  (List.range 4).map (fun z => { maj := 0x25, mask := 127, code := 8 + z, op := .scratchStore, rd := .s, ra := .s, imm := .any }) ++
  [{ maj := 0x25, mask := 127, code := 12, op := .scratchStore, rd := .v, ra := .s, imm := .any }]

def atomRows : List KRow :=
  (List.range 5).map (fun z => { maj := 0x0C, mask := 7, code := z, op := .satom, rd := .s, ra := .s, rb := .s }) ++
  [{ maj := 0x0D, mask := 31, code := 0, op := .lock, ra := .s }, { maj := 0x0D, mask := 31, code := 1, op := .unlock, ra := .s },
   { maj := 0x0D, mask := 127, code := 2, op := .unlocka }]

def immRows : List KRow :=
  [{ maj := 0x22, mask := 127, code := 0, op := .li, rd := .s, imm := .any }, { maj := 0x22, mask := 127, code := 1, op := .lih, rd := .s, imm := .any },
   { maj := 0x22, mask := 127, code := 2, op := .vbcstiW, rd := .v, imm := .any }, { maj := 0x22, mask := 127, code := 3, op := .vbcstiD, rd := .v, imm := .any },
   { maj := 0x23, mask := 127, code := 0, op := .br, imm := .any }, { maj := 0x23, mask := 127, code := 1, op := .call, rd := .s, imm := .any }]

/-- SOPEN: windows 0 to 2; the sequential modes take an offset and a stride that is not 0, the random ones neither (R264). -/
def sopenRows : List KRow :=
  [0, 1, 2, 4, 5, 6].map (fun z => { maj := 0x24, mask := 127, code := z, op := .sopen, rd := .su, ra := .s, imm := .nonzero }) ++
  [8, 9, 10, 12, 13, 14].map (fun z => { maj := 0x24, mask := 127, code := z, op := .sopen, rd := .su })

/-- Table 9.4. -/
def kernelRows : List KRow :=
  sysRows ++ aluRows ++ cmpRows ++ fpRows ++ permRows ++ predRows ++ strmRows ++ scrRows ++ atomRows ++ immRows ++ sopenRows

/-- An instruction with its fields (Table 9.1). -/
structure KIns where
  op : KOp
  maj : Nat
  rd : Nat
  ra : Nat
  rb : Nat
  pn : Bool
  pg : Nat
  fn : Nat
  imm : Int
  deriving DecidableEq, Repr

/-- A 64-bit instruction: bit 31 of its first word. -/
def wideWord (w : Nat) : Bool := bitAt w 31

/-- The instruction of a word and its immediate word; none is ILLEGAL (R258). -/
def kdecode (w imm : Nat) : Option KIns :=
  let maj := field w 31 26
  let fn := w % 128
  let rd := field w 25 21
  let ra := field w 20 16
  let rb := field w 15 11
  match kernelRows.find? (fun r => r.maj == maj && (fn &&& r.mask) == r.code) with
  | some r =>
    let immOk := match r.imm with | .no => imm == 0 | .any => true | .nonzero => imm != 0
    if r.rd.ok rd && r.ra.ok ra && r.rb.ok rb && (immOk || !wideWord w) then
      some { op := r.op, maj := maj, rd := rd, ra := ra, rb := rb, pn := bitAt w 10, pg := field w 9 7, fn := fn, imm := toSigned 32 imm }
    else none
  | none => none

/-- What a fetch gives (R256). -/
inductive Fetch where
  | ins (k : KIns)
  | illegal
  | beyond
  deriving DecidableEq, Repr

/-- A word of an image, if the image has it whole. -/
def imageWord (bs : List Byte) (pc : Nat) : Option Nat := if pc + 4 ≤ bs.length then some (leNat ((bs.drop pc).take 4)) else none

/-- Fetches at PC. -/
def kfetch (bs : List Byte) (pc : Nat) : Fetch :=
  match imageWord bs pc with
  | none => .beyond
  | some w =>
    if wideWord w then
      match imageWord bs (pc + 4) with
      | none => .beyond
      | some i => match kdecode w i with | some k => .ins k | none => .illegal
    else match kdecode w 0 with | some k => .ins k | none => .illegal

end Sys2Proof.Machine
end

