-- ==== Sys2Proof/Machine/KernelOps.lean ====
section
/-!
DEFINITION. The frame of a kernel instruction: fetch, guard, poison tags, traps, retirement (R254 to R260, R272 to R276).
-/
namespace Sys2Proof.Machine

/-- What an instruction does: it retires and PC goes on to the next one, it retires and jumps, it traps, or it waits. -/
inductive KRes where
  | next (c : Core)
  | jump (c : Core) (pc : Nat)
  | trap (code : Nat)
  | wait (c : Core)

/-- Where an instruction runs: engine, job and part, the job, the instruction, the kernel's registers before it. -/
structure KCtx where
  e : Nat
  j : Nat
  i : Nat
  q : Job
  x : KIns
  k : Kern
  deriving DecidableEq, Repr

/-! Registers (R254). -/

def Kern.sreg (k : Kern) (r : Nat) : Nat := if r = 0 then 0 else tget 0 k.s r
def Kern.vreg (k : Kern) (r : Nat) : Line := tget 0#512 k.v r
def Kern.preg (k : Kern) (r : Nat) : Nat := if r = 0 then 0xFFFF else tget 0 k.p r
def Kern.staged (k : Kern) (r : Nat) : Bool := r != 0 && tget false k.stag r
def Kern.vtagged (k : Kern) (r : Nat) : Bool := tget false k.vtag r

/-- Writes a scalar register and its tag; s0 ignores it. -/
def Kern.setS (k : Kern) (r v : Nat) (tag : Bool) : Kern :=
  if r = 0 then k else { k with s := tput 0 k.s r (v % 2 ^ 64), stag := tput false k.stag r tag }
def Kern.setV (k : Kern) (r : Nat) (v : Line) (tag : Bool) : Kern := { k with v := tput 0#512 k.v r v, vtag := tput false k.vtag r tag }
/-- Writes a predicate register; p0 ignores it. -/
def Kern.setP (k : Kern) (r v : Nat) : Kern := if r = 0 then k else { k with p := tput 0 k.p r (v % 65536) }

def setKern (e : Nat) (f : Kern → Kern) (c : Core) : Core := c.onHw (fun h => setEngine h e { engine h e with k := f (engine h e).k })

/-! Guards (R260). -/

def KCtx.guard (x : KCtx) : Nat := x.k.preg x.x.pg ^^^ (if x.x.pn then 0xFFFF else 0)

/-- Runs an instruction under bit 0 of its guard; a tagged source traps POISON_USE (R273). -/
def KCtx.scalar (x : KCtx) (c : Core) (srcs vsrcs : List Nat) (f : KRes) : KRes :=
  if !bitAt x.guard 0 then .next c
  else if srcs.any x.k.staged || vsrcs.any x.k.vtagged then .trap 7
  else f

/-- The second operand: RB, or the immediate in the 64-bit forms (R257). -/
def KCtx.opB (x : KCtx) : Nat := if 32 ≤ x.x.maj then ofSigned 64 x.x.imm else x.k.sreg x.x.rb
def KCtx.srcB (x : KCtx) : List Nat := if 32 ≤ x.x.maj then [] else [x.x.rb]

/-- Lanes that the guard enables, for lanes of `w` bits. -/
def KCtx.lanes (x : KCtx) (w : Nat) : List Nat := (List.range (512 / w)).filter (fun i => bitAt x.guard (if w = 64 then 2 * i else i))

/-- Lane `i` of a line. -/
def laneAt (l : Line) (w i : Nat) : Nat := l.toNat / 2 ^ (w * i) % 2 ^ w

/-- A line with some lanes replaced. -/
def putLanes (old : Line) (w : Nat) (on : List Nat) (f : Nat → Nat) : Line :=
  BitVec.ofNat 512 (((List.range (512 / w)).map (fun i => (if on.contains i then f i % 2 ^ w else laneAt old w i) * 2 ^ (w * i))).sum)

/-- Writes enabled lanes of RD. With a lane disabled the tag stays; else the register takes the tag carried (R260, R272). -/
def KCtx.putV (x : KCtx) (w : Nat) (on : List Nat) (tag : Bool) (f : Nat → Nat) (c : Core) : Core :=
  setKern x.e (fun k => k.setV x.x.rd (putLanes (k.vreg x.x.rd) w on f) (if on.length = 512 / w then tag else k.vtagged x.x.rd)) c

/-- Runs a vector instruction in its enabled lanes. -/
def KCtx.vector (x : KCtx) (c : Core) (w : Nat) (srcs vsrcs : List Nat) (f : List Nat → KRes) : KRes :=
  let on := x.lanes w
  if on.isEmpty then .next c
  else if srcs.any x.k.staged || vsrcs.any x.k.vtagged then .trap 7
  else f on

/-- Writes the bits of a predicate that the guard selects. -/
def KCtx.putP (x : KCtx) (g v : Nat) (c : Core) : Core :=
  setKern x.e (fun k => k.setP x.x.rd ((k.preg x.x.rd - (k.preg x.x.rd &&& g)) + (v &&& g))) c

/-- Runs a predicate instruction in the bits of its guard. -/
def KCtx.bits (x : KCtx) (c : Core) (srcs : List Nat) (v : Nat) : KRes :=
  if x.guard = 0 then .next c
  else if srcs.any x.k.staged then .trap 7
  else .next (x.putP x.guard v c)

/-- Writes RD of the scalar file, with no tag. -/
def KCtx.putS (x : KCtx) (v : Nat) (c : Core) : Core := setKern x.e (fun k => k.setS x.x.rd v false) c

/-! Integer lanes. -/

/-- Lane width of FN[6] as VALU, VCMP and VPERM read it. -/
def KCtx.laneW (x : KCtx) : Nat := if bitAt x.x.fn 6 then 64 else 32

/-- RD := RA op RB, scalar of 64 bits or lane by lane (Table 9.3). -/
def intOp (f : (w a b : Nat) → Nat) (x : KCtx) (c : Core) : KRes :=
  if x.x.maj = 4 then
    let w := x.laneW
    x.vector c w [] [x.x.ra, x.x.rb] (fun on => .next (x.putV w on false (fun i => f w (laneAt (x.k.vreg x.x.ra) w i) (laneAt (x.k.vreg x.x.rb) w i)) c))
  else x.scalar c (x.x.ra :: x.srcB) [] (.next (x.putS (f 64 (x.k.sreg x.x.ra) x.opB) c))

/-- A compare to predicate: all ones or all zeros for scalars, each lane's bit or pair of bits for vectors. -/
def cmpOp (f : (w a b : Nat) → Bool) (x : KCtx) (c : Core) : KRes :=
  if x.x.maj = 6 then
    let w := x.laneW
    x.vector c w [] [x.x.ra, x.x.rb] (fun on =>
      let pat := fun (i : Nat) => if w = 64 then 3 * 4 ^ i else 2 ^ i
      let g := (on.map pat).sum
      let v := ((on.filter (fun i => f w (laneAt (x.k.vreg x.x.ra) w i) (laneAt (x.k.vreg x.x.rb) w i))).map pat).sum
      .next (x.putP g v c))
  else x.scalar c (x.x.ra :: x.srcB) [] (.next (setKern x.e (fun k => k.setP x.x.rd (if f 64 (x.k.sreg x.x.ra) x.opB then 0xFFFF else 0)) c))

/-! Floating point. -/

/-- Format of FN[6] as SFP and VFP read it. -/
def KCtx.fmt (x : KCtx) : FpFmt := if bitAt x.x.fn 6 then fp32 else fp64

/-- RD := f(d, a, b) on scalars in the low bits of a register, or lane by lane; `d` is read only by FMA. -/
def fpOp (usesD usesB : Bool) (f : (t : FpFmt) → (d a b : Nat) → Nat) (x : KCtx) (c : Core) : KRes :=
  let t := x.fmt
  let w := t.width
  let srcs := x.x.ra :: (if usesB then [x.x.rb] else []) ++ (if usesD then [x.x.rd] else [])
  if x.x.maj = 5 then
    x.vector c w [] srcs (fun on => .next (x.putV w on false (fun i =>
      f t (laneAt (x.k.vreg x.x.rd) w i) (laneAt (x.k.vreg x.x.ra) w i) (laneAt (x.k.vreg x.x.rb) w i)) c))
  else x.scalar c srcs [] (.next (x.putS (f t (x.k.sreg x.x.rd % 2 ^ w) (x.k.sreg x.x.ra % 2 ^ w) (x.k.sreg x.x.rb % 2 ^ w)) c))

/-- The format of a lane width. -/
def fmtOf (w : Nat) : FpFmt := if w = 64 then fp64 else fp32

/-- A reduction of the enabled lanes of RA as a pairwise tree in lane order, as integers or floats; a result of 32 bits fills the scalar with zeros above (R261, R263, assumption 171). -/
def reduceOp (fi : (w a b : Nat) → Nat) (ff : (t : FpFmt) → (a b : Nat) → Nat) (minmax : Bool) (x : KCtx) (c : Core) : KRes :=
  let w := x.laneW
  let fl := bitAt x.x.fn 5
  let t := fmtOf w
  x.vector c w [] [x.x.ra] (fun on =>
    let ls := (List.range (512 / w)).map (fun i => if on.contains i then some (laneAt (x.k.vreg x.x.ra) w i) else none)
    let v := (treeFold (if fl then ff t else fi w) 5 ls).getD 0
    .next (x.putS (if fl && minmax && t.isNan v then t.defaultNan else v) c))

/-! Streams (R264 to R268). -/

def KCtx.su (x : KCtx) : Nat := field x.x.fn 6 5
def KCtx.window (x : KCtx) (s : Stream) : Window := (windowsOf x.q.desc).getD s.win {}

/-- A line held by one of the part's units. -/
def heldOf (g : Engine) (line : Nat) : Option HeldLine := ((List.range 4).filterMap (fun su => (stream g su).held)).find? (fun x => x.line == line)

/-- Issues held lines of some units (R268). Answers false when a line's storage must be waited for. -/
def issueHeld (x : KCtx) (which : Nat → HeldLine → Bool) (c : Core) : Core × Bool :=
  let hs := (List.range 4).filterMap (fun su => match (stream (engine c.hw x.e) su).held with | some l => if which su l then some (su, l) else none | none => none)
  if hs.any (fun l => !writeUp c.hw x.q.desc.cls l.2.line) then (c, false)
  else
    let (c, ok) := liveFor c (hs.map (fun l => l.2.line))
    if !ok then (c, false)
    else (hs.foldl (fun c l => engWrite (c.onHw (fun h => setStream h x.e l.1 (fun s => { s with held := none }))) x.e x.j x.q.desc.cls l.2.line l.2.data l.2.poison) c, true)

/-- A line read ahead at an offset leaves its buffer unconsumed. -/
def passAhead (h : Hw) (e su offset : Nat) : Hw :=
  let a := (stream (engine h e) su).ahead
  let rest := a.filter (fun l => l.offset != offset)
  if rest.length = a.length then h else setStream (bumpBy h 0x6030 4 0 (a.length - rest.length)) e su (fun s => { s with ahead := rest })

/-- A line of a stream can be read now: the engine holds it or has read it ahead, or its access may go ahead. -/
def streamUp (x : KCtx) (su offset line : Nat) (h : Hw) : Bool :=
  (heldOf (engine h x.e) line).isSome || (stream (engine h x.e) su).ahead.any (fun a => a.offset == offset && a.line == line) || engUp h x.q.desc.cls line

/-- Reads a line of a stream: a held one as it is held (R267). -/
def kernelRead (x : KCtx) (su offset line : Nat) (c : Core) : Core × Line × Bool :=
  match heldOf (engine c.hw x.e) line with
  | some l => (c.onHw (fun h => passAhead h x.e su offset), l.data, l.poison)
  | none => streamRead c x.e su x.q.desc.cls offset line

/-! Traps and ends. -/

/-- A trap ends the part and its job (R274, R275). -/
def kernelTrap (e j : Nat) (q : Job) (pc code : Nat) (h : Hw) : Hw :=
  let s1 := (engine h e).k.sreg 1
  let h := setObj (setObj (setObj (bump h 0x6200 2) 0x6200 3 0 code) 0x6200 4 0 (pc % 2 ^ 32)) 0x6200 5 0 q.desc.kernel
  let h := if code = 7 then bump h 0x6200 6 else h
  let h := if code = 10 then bump h 0x6040 3 else h
  endJob h j 0x0C (some (s1 + pc % 2 ^ 32 * 2 ^ 64 + code * 2 ^ 96))

/-- The kernel part that an engine runs, and what it fetches next. None while it runs none, asks for the commit grant, or the stack does not run. -/
def kernelAt (h : Hw) (e : Nat) : Option (Nat × Nat × Job × Fetch) :=
  match running h e with
  | some (j, i, q, _) =>
    if !awake h || q.desc.opcode != 10 || (engine h e).asking.isSome then none
    else some (j, i, q, kfetch (tget [] h.jobs.store (q.slot.getD 64)) (engine h e).k.pc)
  | none => none

/-- An instruction retires. -/
def retire (e pc : Nat) (c : Core) : Core :=
  c.onHw (fun h => bump (setEngine h e { engine h e with k := { (engine h e).k with pc := pc % 2 ^ 64 }, retired := now h, wait := none }) 0x6201 e)

/-- Runs the next instruction of an engine if it is `op`; `body` is what it does. -/
def kstep (op : KOp) (body : KCtx → Core → KRes) (e : Nat) (c : Core) : Core :=
  match kernelAt c.hw e with
  | some (j, i, q, .ins x) =>
    if x.op != op then c
    else
      let k := (engine c.hw e).k
      match body { e := e, j := j, i := i, q := q, x := x, k := k } c with
      | .next c => retire e (k.pc + (if 32 ≤ x.maj then 8 else 4)) c
      | .jump c pc => retire e pc c
      | .trap code => c.onHw (kernelTrap e j q k.pc code)
      | .wait c => c
  | _ => c

end Sys2Proof.Machine
end

