-- ==== Sys2Proof/Machine/Kernel.lean ====
section
/-!
DEFINITION. Kernel instructions (R261 to R271): each runs when it is what the engine named fetches next; otherwise nothing
happens (assumption 6).
-/
namespace Sys2Proof.Machine

/-! SYS. -/

def execKNop (eng : Nat) (s : State) : Host.Outcome State Fault Refusal :=
  runCore (wfKNop eng) (kstep .nop (fun _ c => .next c) eng) s

/-- An ending instruction asks for the commit grant (R276). -/
def askEnd (st : Nat) (x : KCtx) (c : Core) : KRes :=
  x.scalar c [] [] (.wait (c.onHw (fun h => setEngine h x.e { engine h x.e with asking := some st })))

def execKEnd (eng : Nat) (s : State) : Host.Outcome State Fault Refusal := runCore (wfKEnd eng) (kstep .stop (askEnd 0) eng) s
def execKEndp (eng : Nat) (s : State) : Host.Outcome State Fault Refusal := runCore (wfKEndp eng) (kstep .endp (askEnd 1) eng) s

def execKTrap (eng : Nat) (s : State) : Host.Outcome State Fault Refusal :=
  runCore (wfKTrap eng) (kstep .trap (fun x c => x.scalar c [] [] (.trap (0x10 + x.x.ra % 16))) eng) s

/-- Every write of a part is visible as soon as it is issued: FENCE has nothing to wait for. -/
def execKFence (eng : Nat) (s : State) : Host.Outcome State Fault Refusal :=
  runCore (wfKFence eng) (kstep .fence (fun _ c => .next c) eng) s

/-- MILESTONE: an event that finds the trigger not armed, or not enabled for engines, counts in 0x6200:07 (R396). -/
def kernelMilestone (x : KCtx) (c : Core) : KRes :=
  x.scalar c [] [] (.next (c.onHw (fun h =>
    let idle := obj h 0x9000 2 != 1 || !bitAt (obj h 0x9000 3) 3
    let h := milestone h 4 x.e
    if idle then bump h 0x6200 7 else h)))

def execKMilestone (eng : Nat) (s : State) : Host.Outcome State Fault Refusal :=
  runCore (wfKMilestone eng) (kstep .milestone kernelMilestone eng) s

def execKTime (eng : Nat) (s : State) : Host.Outcome State Fault Refusal :=
  runCore (wfKTime eng) (kstep .time (fun x c => x.scalar c [] [] (.next (x.putS (now c.hw) c))) eng) s

/-- PC is a multiple of 4 (R256): a register's low two bits are dropped (assumption 54). -/
def wordPc (v : Nat) : Nat := v / 4 * 4

def execKJr (eng : Nat) (s : State) : Host.Outcome State Fault Refusal :=
  runCore (wfKJr eng) (kstep .jr (fun x c => x.scalar c [x.x.ra] [] (.jump c (wordPc (x.k.sreg x.x.ra)))) eng) s

/-- JALR first sets RD, then jumps to what RA holds. -/
def execKJalr (eng : Nat) (s : State) : Host.Outcome State Fault Refusal :=
  runCore (wfKJalr eng) (kstep .jalr (fun x c => x.scalar c [x.x.ra] []
    (.jump (x.putS (x.k.pc + 4) c) (wordPc ((x.k.setS x.x.rd (x.k.pc + 4) false).sreg x.x.ra)))) eng) s

/-! Integer arithmetic (R262). -/

def execKAdd (eng : Nat) (s : State) : Host.Outcome State Fault Refusal :=
  runCore (wfKAdd eng) (kstep .add (intOp (fun _ a b => a + b)) eng) s
def execKSub (eng : Nat) (s : State) : Host.Outcome State Fault Refusal :=
  runCore (wfKSub eng) (kstep .sub (intOp (fun w a b => a + 2 ^ w - b)) eng) s
def execKMul (eng : Nat) (s : State) : Host.Outcome State Fault Refusal :=
  runCore (wfKMul eng) (kstep .mul (intOp (fun w a b => a * b % 2 ^ w)) eng) s
def execKMulhu (eng : Nat) (s : State) : Host.Outcome State Fault Refusal :=
  runCore (wfKMulhu eng) (kstep .mulhu (intOp (fun w a b => a * b / 2 ^ w)) eng) s
def execKMulhs (eng : Nat) (s : State) : Host.Outcome State Fault Refusal :=
  runCore (wfKMulhs eng) (kstep .mulhs (intOp (fun w a b => ofSigned w (Int.fdiv (toSigned w a * toSigned w b) ((2 : Int) ^ w)))) eng) s
def execKDivu (eng : Nat) (s : State) : Host.Outcome State Fault Refusal :=
  runCore (wfKDivu eng) (kstep .divu (intOp (fun w a b => if b = 0 then 2 ^ w - 1 else a / b)) eng) s
def execKDivs (eng : Nat) (s : State) : Host.Outcome State Fault Refusal :=
  runCore (wfKDivs eng) (kstep .divs (intOp (fun w a b => if b = 0 then 2 ^ w - 1 else ofSigned w (Int.tdiv (toSigned w a) (toSigned w b)))) eng) s
def execKRemu (eng : Nat) (s : State) : Host.Outcome State Fault Refusal :=
  runCore (wfKRemu eng) (kstep .remu (intOp (fun _ a b => if b = 0 then a else a % b)) eng) s
def execKRems (eng : Nat) (s : State) : Host.Outcome State Fault Refusal :=
  runCore (wfKRems eng) (kstep .rems (intOp (fun w a b => if b = 0 then a else ofSigned w (Int.tmod (toSigned w a) (toSigned w b)))) eng) s
def execKAnd (eng : Nat) (s : State) : Host.Outcome State Fault Refusal :=
  runCore (wfKAnd eng) (kstep .and (intOp (fun _ a b => a &&& b)) eng) s
def execKOr (eng : Nat) (s : State) : Host.Outcome State Fault Refusal :=
  runCore (wfKOr eng) (kstep .or (intOp (fun _ a b => a ||| b)) eng) s
def execKXor (eng : Nat) (s : State) : Host.Outcome State Fault Refusal :=
  runCore (wfKXor eng) (kstep .xor (intOp (fun _ a b => a ^^^ b)) eng) s

/-- A shift count: b[5:0], of a lane of 32 bits too, where 32 and more shift every bit out. -/
def shiftBy (b : Nat) : Nat := b % 64

def execKSll (eng : Nat) (s : State) : Host.Outcome State Fault Refusal :=
  runCore (wfKSll eng) (kstep .sll (intOp (fun _ a b => a * 2 ^ shiftBy b)) eng) s
def execKSrl (eng : Nat) (s : State) : Host.Outcome State Fault Refusal :=
  runCore (wfKSrl eng) (kstep .srl (intOp (fun _ a b => a / 2 ^ shiftBy b)) eng) s
def execKSra (eng : Nat) (s : State) : Host.Outcome State Fault Refusal :=
  runCore (wfKSra eng) (kstep .sra (intOp (fun w a b => ofSigned w (Int.fdiv (toSigned w a) ((2 : Int) ^ shiftBy b)))) eng) s
def execKMins (eng : Nat) (s : State) : Host.Outcome State Fault Refusal :=
  runCore (wfKMins eng) (kstep .mins (intOp (fun w a b => if toSigned w b < toSigned w a then b else a)) eng) s
def execKMaxs (eng : Nat) (s : State) : Host.Outcome State Fault Refusal :=
  runCore (wfKMaxs eng) (kstep .maxs (intOp (fun w a b => if toSigned w a < toSigned w b then b else a)) eng) s
def execKMinu (eng : Nat) (s : State) : Host.Outcome State Fault Refusal :=
  runCore (wfKMinu eng) (kstep .minu (intOp (fun _ a b => min a b)) eng) s
def execKMaxu (eng : Nat) (s : State) : Host.Outcome State Fault Refusal :=
  runCore (wfKMaxu eng) (kstep .maxu (intOp (fun _ a b => max a b)) eng) s

def execKMov (eng : Nat) (s : State) : Host.Outcome State Fault Refusal :=
  runCore (wfKMov eng) (kstep .mov (fun x c => x.scalar c x.srcB [] (.next (x.putS x.opB c))) eng) s
/-- Bits set. -/
def popCount (n v : Nat) : Nat := ((List.range n).filter (bitAt v)).length
def execKPopc (eng : Nat) (s : State) : Host.Outcome State Fault Refusal :=
  runCore (wfKPopc eng) (kstep .popc (fun x c => x.scalar c [x.x.ra] [] (.next (x.putS (popCount 64 (x.k.sreg x.x.ra)) c))) eng) s
def execKClz (eng : Nat) (s : State) : Host.Outcome State Fault Refusal :=
  runCore (wfKClz eng) (kstep .clz (fun x c => x.scalar c [x.x.ra] [] (.next (x.putS (64 - bitLength (x.k.sreg x.x.ra)) c))) eng) s

/-! Compares. -/

def execKEq (eng : Nat) (s : State) : Host.Outcome State Fault Refusal := runCore (wfKEq eng) (kstep .eq (cmpOp (fun _ a b => a == b)) eng) s
def execKNe (eng : Nat) (s : State) : Host.Outcome State Fault Refusal := runCore (wfKNe eng) (kstep .ne (cmpOp (fun _ a b => a != b)) eng) s
def execKLts (eng : Nat) (s : State) : Host.Outcome State Fault Refusal :=
  runCore (wfKLts eng) (kstep .lts (cmpOp (fun w a b => decide (toSigned w a < toSigned w b))) eng) s
def execKLes (eng : Nat) (s : State) : Host.Outcome State Fault Refusal :=
  runCore (wfKLes eng) (kstep .les (cmpOp (fun w a b => decide (toSigned w a ≤ toSigned w b))) eng) s
def execKLtu (eng : Nat) (s : State) : Host.Outcome State Fault Refusal := runCore (wfKLtu eng) (kstep .ltu (cmpOp (fun _ a b => decide (a < b))) eng) s
def execKLeu (eng : Nat) (s : State) : Host.Outcome State Fault Refusal := runCore (wfKLeu eng) (kstep .leu (cmpOp (fun _ a b => decide (a ≤ b))) eng) s
def execKFeq (eng : Nat) (s : State) : Host.Outcome State Fault Refusal := runCore (wfKFeq eng) (kstep .feq (cmpOp (fun w a b => (fmtOf w).eq a b)) eng) s
def execKFlt (eng : Nat) (s : State) : Host.Outcome State Fault Refusal := runCore (wfKFlt eng) (kstep .flt (cmpOp (fun w a b => (fmtOf w).lt a b)) eng) s
def execKFle (eng : Nat) (s : State) : Host.Outcome State Fault Refusal := runCore (wfKFle eng) (kstep .fle (cmpOp (fun w a b => (fmtOf w).le a b)) eng) s

/-! Floating point (R263). -/

def execKFadd (eng : Nat) (s : State) : Host.Outcome State Fault Refusal := runCore (wfKFadd eng) (kstep .fadd (fpOp false true (fun t _ a b => t.add a b)) eng) s
def execKFsub (eng : Nat) (s : State) : Host.Outcome State Fault Refusal := runCore (wfKFsub eng) (kstep .fsub (fpOp false true (fun t _ a b => t.sub a b)) eng) s
def execKFmul (eng : Nat) (s : State) : Host.Outcome State Fault Refusal := runCore (wfKFmul eng) (kstep .fmul (fpOp false true (fun t _ a b => t.mul a b)) eng) s
def execKFdiv (eng : Nat) (s : State) : Host.Outcome State Fault Refusal := runCore (wfKFdiv eng) (kstep .fdiv (fpOp false true (fun t _ a b => t.div a b)) eng) s
def execKFma (eng : Nat) (s : State) : Host.Outcome State Fault Refusal := runCore (wfKFma eng) (kstep .fma (fpOp true true (fun t d a b => t.fma d a b)) eng) s
def execKFmin (eng : Nat) (s : State) : Host.Outcome State Fault Refusal := runCore (wfKFmin eng) (kstep .fmin (fpOp false true (fun t _ a b => t.min a b)) eng) s
def execKFmax (eng : Nat) (s : State) : Host.Outcome State Fault Refusal := runCore (wfKFmax eng) (kstep .fmax (fpOp false true (fun t _ a b => t.max a b)) eng) s
def execKFsqrt (eng : Nat) (s : State) : Host.Outcome State Fault Refusal := runCore (wfKFsqrt eng) (kstep .fsqrt (fpOp false false (fun t _ a _ => t.sqrt a)) eng) s
/-- A scalar integer is as wide as its format (R261, assumption 170). -/
def execKCvti (eng : Nat) (s : State) : Host.Outcome State Fault Refusal :=
  runCore (wfKCvti eng) (kstep .cvti (fpOp false false (fun t _ a _ => t.ofInt (toSigned t.width a))) eng) s
/-- The integer saturates to the format's width, and fills the scalar with zeros above (R261, assumption 170). -/
def execKCvtf (eng : Nat) (s : State) : Host.Outcome State Fault Refusal :=
  runCore (wfKCvtf eng) (kstep .cvtf (fpOp false false (fun t _ a _ => t.toInt t.width a)) eng) s
/-- FN[6] gives the result format. -/
def execKCvtw (eng : Nat) (s : State) : Host.Outcome State Fault Refusal :=
  runCore (wfKCvtw eng) (kstep .cvtw (fun x c => x.scalar c [x.x.ra] []
    (.next (x.putS (if bitAt x.x.fn 6 then fp64.convert fp32 (x.k.sreg x.x.ra) else fp32.convert fp64 (x.k.sreg x.x.ra % 2 ^ 32)) c))) eng) s

/-! VPERM. -/

def execKBcst (eng : Nat) (s : State) : Host.Outcome State Fault Refusal :=
  runCore (wfKBcst eng) (kstep .bcst (fun x c => x.vector c x.laneW [x.x.ra] [] (fun on => .next (x.putV x.laneW on false (fun _ => x.k.sreg x.x.ra) c))) eng) s

/-- EXT runs in the lane that s[RB] names. A lane number that no lane has gives an open value (assumption 56). -/
def kernelExt (x : KCtx) (c : Core) : KRes :=
  let w := x.laneW
  x.vector c w [x.x.rb] [x.x.ra] (fun on =>
    let n := x.k.sreg x.x.rb
    if 512 / w ≤ n then
      let (v, h) := draw c.hw 43
      .next (x.putS (v % 2 ^ w) { c with hw := h })
    else if on.contains n then .next (x.putS (laneAt (x.k.vreg x.x.ra) w n) c)
    else .next c)

def execKExt (eng : Nat) (s : State) : Host.Outcome State Fault Refusal := runCore (wfKExt eng) (kstep .ext kernelExt eng) s

/-- INS writes the lane that s[RB] names; the others and the tag stay. With a number that no lane has the register's value is open (assumption 56). -/
def kernelIns (x : KCtx) (c : Core) : KRes :=
  let w := x.laneW
  x.vector c w [x.x.ra, x.x.rb] [] (fun on =>
    let n := x.k.sreg x.x.rb
    if 512 / w ≤ n then
      let (v, h) := draw c.hw 44
      .next (setKern x.e (fun k => k.setV x.x.rd (BitVec.ofNat 512 v) (k.vtagged x.x.rd)) { c with hw := h })
    else if on.contains n then .next (x.putV w [n] false (fun _ => x.k.sreg x.x.ra) c)
    else .next c)

def execKIns (eng : Nat) (s : State) : Host.Outcome State Fault Refusal := runCore (wfKIns eng) (kstep .ins kernelIns eng) s

def execKRsum (eng : Nat) (s : State) : Host.Outcome State Fault Refusal :=
  runCore (wfKRsum eng) (kstep .rsum (reduceOp (fun w a b => (a + b) % 2 ^ w) (fun t a b => t.add a b) false) eng) s
def execKRmin (eng : Nat) (s : State) : Host.Outcome State Fault Refusal :=
  runCore (wfKRmin eng) (kstep .rmin (reduceOp (fun w a b => if toSigned w b < toSigned w a then b else a) (fun t a b => t.min a b) true) eng) s
def execKRmax (eng : Nat) (s : State) : Host.Outcome State Fault Refusal :=
  runCore (wfKRmax eng) (kstep .rmax (reduceOp (fun w a b => if toSigned w a < toSigned w b then b else a) (fun t a b => t.max a b) true) eng) s

/-- The vector MOV carries the tag and may read a tagged source (R273). -/
def execKVmov (eng : Nat) (s : State) : Host.Outcome State Fault Refusal :=
  runCore (wfKVmov eng) (kstep .vmov (fun x c => x.vector c x.laneW [] [] (fun on =>
    .next (x.putV x.laneW on (x.k.vtagged x.x.ra) (fun i => laneAt (x.k.vreg x.x.ra) x.laneW i) c))) eng) s

/-! PRED. -/

def execKPand (eng : Nat) (s : State) : Host.Outcome State Fault Refusal :=
  runCore (wfKPand eng) (kstep .pand (fun x c => x.bits c [] (x.k.preg x.x.ra &&& x.k.preg x.x.rb)) eng) s
def execKPor (eng : Nat) (s : State) : Host.Outcome State Fault Refusal :=
  runCore (wfKPor eng) (kstep .por (fun x c => x.bits c [] (x.k.preg x.x.ra ||| x.k.preg x.x.rb)) eng) s
def execKPxor (eng : Nat) (s : State) : Host.Outcome State Fault Refusal :=
  runCore (wfKPxor eng) (kstep .pxor (fun x c => x.bits c [] (x.k.preg x.x.ra ^^^ x.k.preg x.x.rb)) eng) s
def execKPandn (eng : Nat) (s : State) : Host.Outcome State Fault Refusal :=
  runCore (wfKPandn eng) (kstep .pandn (fun x c => x.bits c [] (x.k.preg x.x.ra &&& (0xFFFF ^^^ x.k.preg x.x.rb))) eng) s
def execKPnot (eng : Nat) (s : State) : Host.Outcome State Fault Refusal :=
  runCore (wfKPnot eng) (kstep .pnot (fun x c => x.bits c [] (0xFFFF ^^^ x.k.preg x.x.ra)) eng) s
def execKPany (eng : Nat) (s : State) : Host.Outcome State Fault Refusal :=
  runCore (wfKPany eng) (kstep .pany (fun x c => x.scalar c [] [] (.next (x.putS (bit (x.k.preg x.x.ra != 0)) c))) eng) s
def execKPcnt (eng : Nat) (s : State) : Host.Outcome State Fault Refusal :=
  runCore (wfKPcnt eng) (kstep .pcnt (fun x c => x.scalar c [] [] (.next (x.putS (popCount 16 (x.k.preg x.x.ra)) c))) eng) s
def execKPfrom (eng : Nat) (s : State) : Host.Outcome State Fault Refusal :=
  runCore (wfKPfrom eng) (kstep .pfrom (fun x c => x.bits c [x.x.ra] (x.k.sreg x.x.ra % 65536)) eng) s
def execKPto (eng : Nat) (s : State) : Host.Outcome State Fault Refusal :=
  runCore (wfKPto eng) (kstep .pto (fun x c => x.scalar c [] [] (.next (x.putS (x.k.preg x.x.ra) c))) eng) s
def execKVtag (eng : Nat) (s : State) : Host.Outcome State Fault Refusal :=
  runCore (wfKVtag eng) (kstep .vtag (fun x c => x.bits c [] (if x.k.vtagged x.x.ra then 0xFFFF else 0)) eng) s
def execKStag (eng : Nat) (s : State) : Host.Outcome State Fault Refusal :=
  runCore (wfKStag eng) (kstep .stag (fun x c => x.bits c [] (if x.k.staged x.x.ra then 0xFFFF else 0)) eng) s

/-! Streams (R264 to R268). -/

/-- A line read into v[RD] with its poison as tag and in p[RB] (R272). -/
def KCtx.receive (x : KCtx) (d : Line) (p : Bool) (c : Core) : Core :=
  setKern x.e (fun k => (k.setV x.x.rd d p).setP x.x.rb (if p then 0xFFFF else 0)) c

/-- Runs an access to an open unit in one of some modes at an offset: STREAM_STATE, WINDOW_RANGE (R265). -/
def KCtx.access (x : KCtx) (c : Core) (modes : List Nat) (offset : Stream → Nat) (f : Stream → (o line : Nat) → KRes) : KRes :=
  let s := stream (engine c.hw x.e) x.su
  let w := x.window s
  if !s.opened || !modes.contains s.mode then .trap 6
  else if w.len ≤ offset s then .trap 3
  else f s (offset s) (w.base + offset s)

/-- The next offset after a sequential access. -/
def stepOffset (s : Stream) : Nat := ofSigned 64 ((s.next : Int) + s.stride)

def kernelSnext (x : KCtx) (c : Core) : KRes :=
  x.scalar c [] [] (x.access c [0] (fun s => s.next) (fun s o line =>
    if !streamUp x x.su o line c.hw then .wait c
    else
      let (c, d, p) := kernelRead x x.su o line c
      .next (x.receive d p (c.onHw (fun h => setStream h x.e x.su (fun t => { t with next := stepOffset s }))))))

def execKSnext (eng : Nat) (s : State) : Host.Outcome State Fault Refusal := runCore (wfKSnext eng) (kstep .snext kernelSnext eng) s

def kernelSget (x : KCtx) (c : Core) : KRes :=
  x.scalar c [x.x.ra] [] (x.access c [2, 3] (fun _ => x.k.sreg x.x.ra) (fun _ o line =>
    if !streamUp x x.su o line c.hw then .wait c
    else
      let (c, d, p) := kernelRead x x.su o line c
      .next (x.receive d p c)))

def execKSget (eng : Nat) (s : State) : Host.Outcome State Fault Refusal := runCore (wfKSget eng) (kstep .sget kernelSget eng) s

/-- SPUT issues the line the unit holds and holds the new one; a copy of the new line that another unit holds is older, and is issued too (R267, R268, assumption 158). -/
def kernelSput (x : KCtx) (c : Core) : KRes :=
  x.scalar c [] [] (x.access c [1] (fun s => s.next) (fun s _ line =>
    match issueHeld x (fun su l => su == x.su || l.line == line) c with
    | (c, false) => .wait c
    | (c, true) => .next (c.onHw (fun h => setStream (dropAhead h x.e line) x.e x.su (fun t =>
        { t with next := stepOffset s, held := some ⟨line, x.k.vreg x.x.ra, x.k.vtagged x.x.ra⟩ })))))

def execKSput (eng : Nat) (s : State) : Host.Outcome State Fault Refusal := runCore (wfKSput eng) (kstep .sput kernelSput eng) s

/-- SSET issues its line at once, behind a copy of it that a unit holds (R267, R268, assumption 158). -/
def kernelSset (x : KCtx) (c : Core) : KRes :=
  x.scalar c [x.x.rb] [] (x.access c [3] (fun _ => x.k.sreg x.x.rb) (fun _ _ line =>
    match issueHeld x (fun _ l => l.line == line) c with
    | (c, false) => .wait c
    | (c, true) =>
      if !writeUp c.hw x.q.desc.cls line then .wait c
      else match recreateFor c (line / 1024) with
        | (c, false) => .wait c
        | (c, true) => .next (engWrite c x.e x.j x.q.desc.cls line (x.k.vreg x.x.ra) (x.k.vtagged x.x.ra))))

def execKSset (eng : Nat) (s : State) : Host.Outcome State Fault Refusal := runCore (wfKSset eng) (kstep .sset kernelSset eng) s

/-- Closes a unit: what it read ahead is discarded and counted, the line it holds stays. -/
def closeStream (e su : Nat) (h : Hw) : Hw :=
  let h := bumpBy h 0x6030 4 0 (stream (engine h e) su).ahead.length
  setStream h e su (fun s => { held := s.held })

def execKSclose (eng : Nat) (s : State) : Host.Outcome State Fault Refusal :=
  runCore (wfKSclose eng) (kstep .sclose (fun x c => x.scalar c [] []
    (if (stream (engine c.hw x.e) x.su).opened then .next (c.onHw (closeStream x.e x.su)) else .trap 6)) eng) s

/-- SPOS: a unit in a random mode has no next offset: an open value (assumption 57). -/
def kernelSpos (x : KCtx) (c : Core) : KRes :=
  let s := stream (engine c.hw x.e) x.su
  x.scalar c [] [] (
    if !s.opened then .trap 6
    else if s.mode < 2 then .next (x.putS s.next c)
    else let (v, h) := draw c.hw 45; .next (x.putS v { c with hw := h }))

def execKSpos (eng : Nat) (s : State) : Host.Outcome State Fault Refusal := runCore (wfKSpos eng) (kstep .spos kernelSpos eng) s

/-- SOPEN: what the unit held is issued, what it read ahead discarded. -/
def kernelSopen (x : KCtx) (c : Core) : KRes :=
  let win := x.x.fn % 4
  let mode := field x.x.fn 3 2
  let w := (windowsOf x.q.desc).getD win {}
  x.scalar c (if mode < 2 then [x.x.ra] else []) [] (
    if w.len = 0 then .trap 4
    else if mode % 2 = 1 && !w.wr then .trap 5
    else match issueHeld x (fun su _ => su == x.x.rd) c with
      | (c, false) => .wait c
      | (c, true) => .next (c.onHw (fun h => setStream (closeStream x.e x.x.rd h) x.e x.x.rd (fun _ =>
          { opened := true, win := win, mode := mode, next := if mode < 2 then x.k.sreg x.x.ra else 0, stride := if mode < 2 then x.x.imm else 0 }))))

def execKSopen (eng : Nat) (s : State) : Host.Outcome State Fault Refusal := runCore (wfKSopen eng) (kstep .sopen kernelSopen eng) s

/-! Scratch (R271). -/

/-- Bytes of an access: 1, 2, 4, 8, or 64 for a line. -/
def scratchSize (fn : Nat) : Nat := if fn % 8 = 4 then 64 else 2 ^ (fn % 8)

def KCtx.address (x : KCtx) : Nat := (x.k.sreg x.x.ra + x.opB) % 2 ^ 64

/-- Checks an access: SCRATCH_RANGE, ALIGN. -/
def KCtx.scratch (x : KCtx) (f : (a n : Nat) → KRes) : KRes :=
  let a := x.address
  let n := scratchSize x.x.fn
  if 524288 < a + n then .trap 8 else if a % n != 0 then .trap 9 else f a n

def kernelLoad (x : KCtx) (c : Core) : KRes :=
  x.scalar c (x.x.ra :: x.srcB) [] (x.scratch (fun a n =>
    let v := leNat ((span a n).map (fun i => tget 0#8 x.k.scratch i))
    let tag := tget false x.k.scratchPoison (a / 64)
    .next (setKern x.e (fun k =>
      if n = 64 then k.setV x.x.rd (BitVec.ofNat 512 v) tag
      else k.setS x.x.rd (if bitAt x.x.fn 4 then ofSigned 64 (toSigned (8 * n) v) else v) tag) c)))

def execKScratchLoad (eng : Nat) (s : State) : Host.Outcome State Fault Refusal := runCore (wfKScratchLoad eng) (kstep .scratchLoad kernelLoad eng) s

/-- A line store sets or clears the block's poison; a scalar store leaves it. -/
def kernelStore (x : KCtx) (c : Core) : KRes :=
  let line := decide (scratchSize x.x.fn = 64)
  x.scalar c (x.x.ra :: x.srcB ++ (if line then [] else [x.x.rd])) [] (x.scratch (fun a n =>
    let v := if line then (x.k.vreg x.x.rd).toNat else x.k.sreg x.x.rd
    .next (setKern x.e (fun k =>
      { k with scratch := ((span a n).zip (leBytes n v)).foldl (fun t b => tput 0#8 t b.1 b.2) k.scratch
               scratchPoison := if line then tput false k.scratchPoison (a / 64) (k.vtagged x.x.rd) else k.scratchPoison }) c)))

def execKScratchStore (eng : Nat) (s : State) : Host.Outcome State Fault Refusal := runCore (wfKScratchStore eng) (kstep .scratchStore kernelStore eng) s

/-! Atomics and locks (R247, R248, R269, R270). -/

/-- Waits for a lock, from now if it has not begun to. -/
def waitLock (x : KCtx) (line : Nat) (c : Core) : KRes :=
  .wait (c.onHw (fun h => setEngine h x.e { engine h x.e with wait := match (engine h x.e).wait with
    | some w => if w.1 = line then some w else some (line, now h)
    | none => some (line, now h) }))

/-- SATOM: the part's held copy of the line goes first; the unit takes the line's updates in order of arrival. -/
def kernelSatom (x : KCtx) (c : Core) : KRes :=
  let wide := bitAt x.x.fn 4
  let size := if wide then 8 else 4
  let op := x.x.fn % 8
  let i := x.k.sreg x.x.ra
  let (a, b) := if op = 4 then (x.k.sreg x.x.rd, x.k.sreg x.x.rb) else (x.k.sreg x.x.rb, 0)
  x.scalar c ([x.x.ra, x.x.rb] ++ (if op = 4 then [x.x.rd] else [])) [] (x.access c [3] (fun _ => i * size / 64) (fun _ _ line =>
    match issueHeld x (fun _ l => l.line == line) c with
    | (c, false) => .wait c
    | (c, true) =>
      if (lockedBy c.hw x.e line).isSome then waitLock x line c
      else if !engUp c.hw x.q.desc.cls line then .wait c
      else
        let c := rmwBefore c (chOf (pPc (physOf (route c.hw (line / 1024)) line))) line
        match rmwLine c line (i * size % 64 / 4) wide op a b (bitAt x.x.fn 3) (some x.q.desc.cls) c.hw.chans.nextTxn with
        | (c, false, _) => .wait c
        | (c, true, old) =>
          let c := c.onHw (fun h =>
            let h := ringCarry (countLines h (entTrack (route h (line / 1024))) x.q.desc.cls 1) (x.e / 4) (entTrack (route h (line / 1024))) 64
            addBytes (dropAhead h x.e line) x.j (if old.isSome then 64 else 0))
          .next (setKern x.e (fun k => k.setS x.x.rd (old.getD 0) old.isNone) c)))

def execKSatom (eng : Nat) (s : State) : Host.Outcome State Fault Refusal := runCore (wfKSatom eng) (kstep .satom kernelSatom eng) s

/-- The order of locks: stack-wide channel, then line address. -/
def lockKey (h : Hw) (line : Nat) : Nat := chOf (pPc (physOf (route h (line / 1024)) line)) * 2 ^ 31 + line

def kernelLock (x : KCtx) (c : Core) : KRes :=
  x.scalar c [x.x.ra] [] (x.access c [0, 1, 2, 3] (fun _ => x.k.sreg x.x.ra) (fun _ _ line =>
    let g := engine c.hw x.e
    let key := lockKey c.hw line
    if g.locks.any (fun k => lockLine k == line) then .next c
    else if g.locks.any (fun k => decide (key < k)) then .trap 10
    else if 16 ≤ g.locks.length then .trap 11
    else match issueHeld x (fun _ l => l.line == line) c with
      | (c, false) => .wait c
      | (c, true) => if (lockedBy c.hw x.e line).isSome then waitLock x line c else .next (c.onHw (fun h => setEngine h x.e { engine h x.e with locks := (engine h x.e).locks ++ [key] }))))

def execKLock (eng : Nat) (s : State) : Host.Outcome State Fault Refusal := runCore (wfKLock eng) (kstep .lock kernelLock eng) s

def kernelUnlock (x : KCtx) (c : Core) : KRes :=
  x.scalar c [x.x.ra] [] (x.access c [0, 1, 2, 3] (fun _ => x.k.sreg x.x.ra) (fun _ _ line =>
    .next (c.onHw (fun h => setEngine h x.e { engine h x.e with locks := (engine h x.e).locks.filter (fun k => lockLine k != line) }))))

def execKUnlock (eng : Nat) (s : State) : Host.Outcome State Fault Refusal := runCore (wfKUnlock eng) (kstep .unlock kernelUnlock eng) s

def execKUnlocka (eng : Nat) (s : State) : Host.Outcome State Fault Refusal :=
  runCore (wfKUnlocka eng) (kstep .unlocka (fun x c => x.scalar c [] [] (.next (c.onHw (fun h => setEngine h x.e { engine h x.e with locks := [] })))) eng) s

/-! Immediates and branches. -/

def execKLi (eng : Nat) (s : State) : Host.Outcome State Fault Refusal :=
  runCore (wfKLi eng) (kstep .li (fun x c => x.scalar c [] [] (.next (x.putS (ofSigned 64 x.x.imm) c))) eng) s

/-- LIH writes the upper half and keeps the lower: it reads its register. -/
def execKLih (eng : Nat) (s : State) : Host.Outcome State Fault Refusal :=
  runCore (wfKLih eng) (kstep .lih (fun x c => x.scalar c [x.x.rd] [] (.next (x.putS (x.k.sreg x.x.rd % 2 ^ 32 + ofSigned 32 x.x.imm * 2 ^ 32) c))) eng) s

def execKVbcstiW (eng : Nat) (s : State) : Host.Outcome State Fault Refusal :=
  runCore (wfKVbcstiW eng) (kstep .vbcstiW (fun x c => x.vector c 32 [] [] (fun on => .next (x.putV 32 on false (fun _ => ofSigned 32 x.x.imm) c))) eng) s
def execKVbcstiD (eng : Nat) (s : State) : Host.Outcome State Fault Refusal :=
  runCore (wfKVbcstiD eng) (kstep .vbcstiD (fun x c => x.vector c 64 [] [] (fun on => .next (x.putV 64 on false (fun _ => ofSigned 64 x.x.imm) c))) eng) s

/-- The target of a PC-relative branch. -/
def branchTo (x : KCtx) : Nat := ofSigned 64 ((x.k.pc : Int) + 4 * x.x.imm)

def execKBr (eng : Nat) (s : State) : Host.Outcome State Fault Refusal :=
  runCore (wfKBr eng) (kstep .br (fun x c => x.scalar c [] [] (.jump c (branchTo x))) eng) s
def execKCall (eng : Nat) (s : State) : Host.Outcome State Fault Refusal :=
  runCore (wfKCall eng) (kstep .call (fun x c => x.scalar c [] [] (.jump (x.putS (x.k.pc + 8) c) (branchTo x))) eng) s

/-! Fetches that trap (R256, R258). -/

/-- The word at PC is no instruction, whatever its guard: ILLEGAL. -/
def kernelIllegal (e : Nat) (h : Hw) : Hw :=
  match kernelAt h e with
  | some (j, _, q, .illegal) => kernelTrap e j q (engine h e).k.pc 1 h
  | _ => h

def execKIllegal (eng : Nat) (s : State) : Host.Outcome State Fault Refusal := runHw (wfKIllegal eng) (kernelIllegal eng) s

/-- PC lies at or beyond the image's length: PC_RANGE. -/
def kernelPcRange (e : Nat) (h : Hw) : Hw :=
  match kernelAt h e with
  | some (j, _, q, .beyond) => kernelTrap e j q (engine h e).k.pc 2 h
  | _ => h

def execKPcRange (eng : Nat) (s : State) : Host.Outcome State Fault Refusal := runHw (wfKPcRange eng) (kernelPcRange eng) s

end Sys2Proof.Machine
end

