-- ==== Sys2Proof/Machine/KernelStore.lean ====
section
/-!
DEFINITION. The kernel store (R241, R242): loads, activation, retirement. Each path has a load of its own (assumption 51).
-/
namespace Sys2Proof.Machine

def setLoad (h : Hw) (p : Nat) (l : Option (Nat × Nat × List Byte)) : Hw :=
  setJobs h { h.jobs with loads := match l with | some x => tset h.jobs.loads p x | none => tdel h.jobs.loads p }

/-- Kernel loads are refused with NOT_READY in Grey mode, which this answer names rather than R377's (assumption 161), and where the store's codec failed its self-test (R250, R297). -/
def loadsBarred (h : Hw) : Bool := grey h || storeUnit h

/-- A path's load begins or ends: its next segment repeats none of before (R367). -/
def forgetSegment (h : Hw) (p : Nat) : Hw := { h with dict := { h.dict with segments := tdel h.dict.segments (segKey 0x6100 2 p) } }

/-- The load of a path ends and its reserved slot is free again. -/
def dropLoad (h : Hw) (p : Nat) : Hw :=
  if thas h.jobs.loads p then setObj (forgetSegment (setLoad h p none) p) 0x6104 1 0 (obj h 0x6104 1 + 1) else h

/-- 0x6100:03 reserves the lowest free slot for the kernel number of 0x6100:01; a load that the path had begun is dropped (assumption 51). -/
def beginLoadAct (c : Core) (p : Nat) : Act :=
  if loadsBarred c.hw then actHw c c.hw .notReady
  else
    let h := dropLoad c.hw p
    match (List.range 64).find? (fun s => !thas h.jobs.store s && h.jobs.loads.all (fun l => l.2.1 != s)) with
    | some s => actHw c (setObj (forgetSegment (setLoad h p (some (s, obj h 0x6100 1 p, []))) p) 0x6104 1 0 (obj h 0x6104 1 - 1))
    | none => actHw c h .notReady

/-- 0x6100:02 sets the bytes of the image received so far; an image beyond the slot is refused at its activation. -/
def writeLoad (h : Hw) (p : Nat) (bs : List Byte) : Option Hw :=
  if loadsBarred h then none
  else match tfind h.jobs.loads p with
    | some (s, k, _) => some (setLoad h p (some (s, k, bs)))
    | none => none

/-- 0x6100:04 checks the image and makes it the active version of its kernel number. -/
def activateAct (c : Core) (p v : Nat) : Act :=
  let h := c.hw
  if loadsBarred h then actHw c h .notReady
  else match tfind h.jobs.loads p with
    | none => actHw c h .notReady
    | some (s, k, bs) =>
      if crc32c bs != v || 16384 < bs.length then actHw c (dropLoad h p) .badValue
      else
        let old := obj h 0x6102 k
        let h := forgetSegment (setLoad h p none) p
        let h := setJobs h { h.jobs with store := tset h.jobs.store s bs }
        actHw c (freeStore (setObj (bump h 0x6101 k) 0x6102 k 0 s) old)

/-- 0x6105 retires a kernel number; its slot is freed once no job is bound to it. -/
def retireAct (c : Core) (k : Nat) : Act :=
  let h := c.hw
  let old := obj h 0x6102 k
  actHw c (freeStore (setObj (setObj h 0x6102 k 0 0xFF) 0x6101 k 0 0) old)

end Sys2Proof.Machine
end

