-- ==== Sys2Proof/Machine/Session.lean ====
section
/-!
DEFINITION. The configuration session (R379 to R381): BEGIN LOADING, DISCARD, COMMIT with the checks that join more than one
object (R48, R105, R168, R200, R203, R350), what a COMMIT sets going, and the session's timeout.
-/
namespace Sys2Proof.Machine

/-- 0x1010:02: the path owns the session. Before step 11 of power-up it is answered NOT_READY (R443). -/
def beginLoadingAct (c : Core) (p : Nat) : Act :=
  let h := c.hw
  if h.mode == .powerUp then actHw c h .notReady
  else
    let old := obj h 0x1010 1
    let h := closeSession { h with dict := { h.dict with prior := old } } 1
    actHw c (setObj h 0x1010 5 0 (p + 1))

/-- 0x1010:04. -/
def discardAct (c : Core) : Act := actHw c (dropSession c.hw)

/-! Checks of a COMMIT. -/

/-- The value about to be in force. -/
def nextVal (h : Hw) (idx sub : Nat) (unit : Nat := 0) : Nat := shadowVal h 0 idx sub unit

/-- The STRING or BLOB value about to be in force. -/
def nextBlob (h : Hw) (idx sub : Nat) : List Byte := (tfind h.dict.blobShadows (idx * 256 + sub)).getD (blob h idx sub)

/-- The lowest-numbered upstream lane whose active tap set fails the mask about to be committed, with its failing point (R48). -/
def maskConflict (h : Hw) : Option (Nat × Nat) :=
  let mask := (span 1 16).map (fun n => (n, nextVal h 0x2010 n))
  (List.range 144).findSome? (fun ln => (failingPoint (activeTaps h ln) (laneRate h) mask).map (fun n => (ln, n)))

/-- The first class, from QC0 upward, at which the shares exceed 100 % (R203). -/
def overShare (h : Hw) : Option Nat :=
  (List.range 8).find? (fun c => decide (100 < ((List.range (c + 1)).map (fun k => nextVal h 0x3403 k)).sum))

/-- A word names a slot that can be retired. -/
def retirable (h : Hw) (w : Nat × Nat) : Bool :=
  decide (w.2 < 266240) && (match slotState h w.1 w.2 with | .system => false | _ => true)

/-- The first object in index order at which a COMMIT fails: the status, the object, and the state with what the check records. -/
def commitFailure (h : Hw) : Option (Status × Nat × Nat × Hw) :=
  let list := nextBlob h 0x4050 3
  match maskConflict h with
  | some (ln, n) => some (.maskConflict, 0x2010, n, setObj (setObj (setObj h 0x2011 1 0 3) 0x2011 2 0 ln) 0x2011 3 0 n)
  | none =>
    if nextVal h 0x2220 2 ≤ nextVal h 0x2220 1 then some (.badValue, 0x2220, 2, h)
    else match overShare h with
      | some c => some (.badValue, 0x3403, c, h)
      | none =>
        if list.length % 4 != 0 then some (.badLength, 0x4050, 3, h)
        else if !(retiredWords list).all (retirable h) then some (.badValue, 0x4050, 3, h)
        else if nextVal h 0x5000 2 ≤ nextVal h 0x5000 3 then some (.badValue, 0x5000, 3, h)
        else if nextVal h 0x7820 1 ≤ nextVal h 0x7820 3 then some (.badValue, 0x7820, 3, h)
        else none

/-! What a COMMIT sets going. -/

/-- A new patrol period keeps each pass's position (R295). -/
def newPeriod (h : Hw) (old : Nat) : Hw :=
  let new := obj h 0x9900 1
  if new = old then h
  else (List.range 128).foldl (fun h pc => setPc h pc { pcSt h pc with passStart := now h - (now h - (pcSt h pc).passStart) * new / old }) h

/-- The debug domain follows 0x7030:05, its gating within its budget (Table 11.2, R308). -/
def followDebug (h : Hw) : Hw := if h.mode == .run then gateDomain h 7 (if flag h 0x7030 5 then 0 else 2) else h

/-- The first COMMIT: group addresses count, the stack is ready (R29, R442). -/
def noteFirst (h : Hw) : Hw :=
  if h.boot.firstCommit then h
  else
    let h := setObj { h with boot := { h.boot with firstCommit := true } } 0xC000 5 0 (now h / 1000)
    if obj h 0xC000 1 = 9 then setObj h 0xC000 1 0 10 else h

/-- Restore items that this session received (R447): bits 1 to 3 of 0xC011:01. -/
def noteRestored (h : Hw) (wrote : Nat → Nat → Bool) (list : Bool) : Hw :=
  setObj h 0xC011 1 0 (obj h 0xC011 1 ||| (2 * bit (wrote 0x7840 0x7840) + 4 * bit list + 8 * bit (wrote 0x3401 0x3404)))

/-- Every shadow becomes the value in force at one instant; the mechanisms that follow a value are told (R381, R204, R221). -/
def commitEffect (h : Hw) : Hw :=
  let shadows := h.dict.shadows
  let changed := shadows.filter (fun e => tget (regDefault e.1) h.regs e.1 != e.2)
  let lists := h.dict.blobShadows
  let runs (t : Tbl Nat) (lo hi : Nat) : Bool := t.any (fun e => decide (lo ≤ e.1 / 2 ^ 20) && decide (e.1 / 2 ^ 20 ≤ hi))
  let period := obj h 0x9900 1
  let h := changed.foldl (fun h e => { h with regs := tput (regDefault e.1) h.regs e.1 e.2 }) h
  let h := lists.foldl (fun h e => { h with blobs := tput [] h.blobs e.1 e.2 }) h
  let h := bump (closeSession h 2) 0x1010 7
  let h := noteRestored (noteFirst h) (runs shadows) (thas lists 0x405003)
  let h := newPeriod (loopInUse h) period
  let h := if runs changed 0x7030 0x7030 then followDebug h else h
  let h := if runs changed 0x7840 0x7840 then (List.range 16).foldl checkWear h else h
  let h := if runs changed 0x3020 0x3020 then (List.range 4).foldl reclassPort h else h
  let h := if runs changed 0x3401 0x3403 || runs changed 0x3420 0x3420 || runs changed 0x5010 0x5010 then runModels h true else h
  let h := (List.range 64).foldl (fun h k => evalUrgency h (k / 8) (k % 8)) h
  retireListed (showAdaptAll h)

/-- Tracks whose gear in use is faster than the limit now in force begin to change, one at a time (R191, R201). -/
def limitGears (c : Core) : Core :=
  (List.range 8).foldl (fun c t => if gear c.hw t < obj c.hw 0x5010 2 t then gearStart t c else c) c

/-- 0x1010:03. -/
def commitAct (c : Core) : Act :=
  match commitFailure c.hw with
  | some (st, idx, sub, h) => .done { c with hw := setObj h 0x1010 8 0 (idx * 256 + sub) } { status := st, index := some idx, sub := some sub, total := 4 }
  | none => .done (limitGears (c.onHw commitEffect)) { status := .ok, total := 4 }

/-- The owner sends nothing for the time of 0x1010:06 (R380). -/
def loadingAbandoned (h : Hw) : Hw :=
  if obj h 0x1010 1 = 1 then raise (bump (dropSession h) 0x1010 9) Src.loadingAbandoned else h

def execLoadingAbandoned (s : State) : Host.Outcome State Fault Refusal := runHw true loadingAbandoned s

end Sys2Proof.Machine
end

