-- ==== Sys2Proof/Machine/Dictionary.lean ====
section
/-!
DEFINITION. One operation of the dictionary on a path (R364 to R377): the checks of Table 13.10 in order, reads, writes,
commands, and the answers. Every row that names a dictionary operation executes it through `serve`.
-/
namespace Sys2Proof.Machine

/-- What the analogue parts add to an operation: bits that fail a burn (R417), bits and errors that a checker counted since its last report (R87). -/
structure Extra where
  failing : Nat := 0
  bits : Nat := 0
  errors : Nat := 0

/-! Checks. -/

/-- Objects whose value is written in segments. -/
def segmented (idx sub : Nat) : Bool := match rowAt idx sub with | some r => r.ty == .str || r.ty == .blob | none => false

/-- Row 1 of Table 13.10, OFFSET included (R364, R367). -/
def malformed (b : OpBody) : Bool :=
  !(decide (1 ≤ b.op) && decide (b.op ≤ 5)) || !b.reserved || decide (1 < b.flags) ||
  (b.flags == 1 && b.op != 1 && b.op != 5) ||
  !(match b.op with | 5 => within b.count 1 240 | 4 => decide (b.count ≤ 15) | _ => b.count == 0) ||
  (b.offset != 0 && !((b.op == 1 || b.op == 2) && segmented b.index b.sub))

/-- SHADOW is set. -/
def wantsShadow (b : OpBody) : Bool := b.flags == 1

/-- Row 9: RWL outside LOADING or by a path that does not own the session, SHADOW outside LOADING, the session's own commands (R379 to R381). -/
def wrongState (h : Hw) (p : Nat) (r : ObjRow) (op sub : Nat) (shadow : Bool) : Bool :=
  let loading := obj h 0x1010 1 == 1
  let owner := loading && obj h 0x1010 5 == p + 1
  (shadow && !loading) || (op == 2 && r.acc == .rwl && !owner) ||
  (op == 3 && r.idx == 0x1010 && (if sub = 2 then loading else !owner))

/-- Limits of a command's value: those that its chapter states, and for 0x2221 and 0x2233 the values that name a position or a pattern (assumption 141). -/
def cmdOk (p idx sub v : Nat) : Bool :=
  match idx, sub with
  | 0x2221, _ => decide (v ≤ 8)
  | 0x2233, _ => decide (v ≤ 2)
  | 0x9B00, 4 => decide (v ≤ 0x0F)
  | 0x9B00, 5 => decide (v ≤ 63)
  | 0x9B00, 6 => decide (v ≤ 63)
  | 0xA004, 2 => decide (v ≤ 1023)
  | 0xA004, 3 => decide (v ≤ 7)
  | 0xB300, 1 => decide (v ≤ 15)
  | 0xC010, 1 => decide (v ≤ 1) && (v == 0 || p == 0)
  | _, _ => true

/-- The first member that refuses a value, by its selector (R25). -/
def refusingMember (h : Hw) (p : Nat) (r : ObjRow) (sub sel v : Nat) : Option Nat :=
  ((selMembers sel r.depth).find? (fun u => !setOk h p r sub u v)).map (unitSel r.depth)

/-- Rows 3 to 11 of Table 13.10: the answer of an operation that is refused. -/
def refusal (h : Hw) (p : Nat) (b : OpBody) : Option Answer :=
  let no := fun (s : Status) => some ({ status := s, total := fixedTotal b } : Answer)
  if b.op = 4 then (if selDepth b.selector = 7 then no .badSelector else none)
  else match rightsCheck h p b.op b.index b.sub b.selector, rowAt b.index b.sub with
    | some s, _ => no s
    | none, none => no .noSuchObject
    | none, some r =>
      if wrongState h p r b.op b.sub (wantsShadow b) then no .wrongState
      else if b.op = 3 then
        if 4 < b.data.length then no .badLength
        else if !cmdOk p b.index b.sub (leNat b.data) then no .badValue
        else none
      else if b.op = 2 && !segmented b.index b.sub then
        if b.data.length != r.size then no .badLength
        else match refusingMember h p r b.sub b.selector (leNat b.data) with
          | some sel => some { status := .badValue, total := r.size, selector := some sel }
          | none => none
      else none

/-! Reads. -/

/-- Value of a fixed-size object; the read of a checker's counter latches both (R87), that of a fuse word powers OTP (R306). -/
def readObj (x : Extra) (h : Hw) (p : Nat) (r : ObjRow) (sub sel : Nat) (shadow : Bool) : Nat × Hw :=
  if r.idx = 0x2231 ∨ r.idx = 0x2232 then readChecker (countChecker h sub x.bits x.errors) r.idx sub
  else (readAt h p r sub sel shadow, powerOtp h p r.idx sub)

/-- The bytes of a STRING or BLOB and the selector to return with them; none while it cannot be read. -/
def readBytes (c : Core) (p : Nat) (r : ObjRow) (sub sel : Nat) (shadow : Bool) : Option (List Byte × Option Nat) :=
  if r.idx = 0x9020 then (snapAt c.hw p sel).map (fun v => (v.1, some v.2))
  else if shadow && r.acc == .rwl then some (nextBlob c.hw r.idx sub, none)
  else (readBlob c p r.idx sub ((selMembers sel r.depth).headD 0)).map (fun v => (v, none))

/-- GET (R366, R367). -/
def getAct (x : Extra) (c : Core) (p : Nat) (b : OpBody) : Act :=
  match rowAt b.index b.sub with
  | none => .done c { status := .noSuchObject }
  | some r =>
    if segmented b.index b.sub then
      match readBytes c p r b.sub b.selector (wantsShadow b) with
      | some (v, sel) =>
        let part := (v.drop b.offset).take 240
        .done (if b.index = 0xB200 then debugAccess c (obj c.hw 0xB200 1 p) 2 else c.onHw (fun h => powerOtp h p b.index b.sub)) { status := .ok, count := bit !part.isEmpty, total := v.length, selector := sel, data := part }
      | none => .done c { status := .notReady }
    else
      let (v, h) := readObj x c.hw p r b.sub b.selector (wantsShadow b)
      .done { c with hw := h } { status := .ok, count := 1, total := r.size, data := leBytes r.size v }

/-- LIST (R366, R368); TOTAL is the size of an entry. -/
def listAct (c : Core) (b : OpBody) : Act :=
  let rows := listFrom b.index b.sub (if b.count = 0 then 15 else b.count)
  .done c { status := .ok, count := rows.length, total := 16, data := (rows.map listEntry).flatten }

/-- The values of a BLOCK-GET from a subindex on, until one that ends it (R366). -/
def blockRead (x : Extra) (p : Nat) (b : OpBody) : Nat → Nat → Hw → List Byte → Nat × Hw × List Byte
  | 0, _, h, bs => (0, h, bs)
  | n + 1, sub, h, bs =>
    match refusal h p { b with sub := sub }, rowAt b.index sub with
    | none, some r =>
      if segmented b.index sub || decide (240 < bs.length + r.size) then (0, h, bs)
      else
        let (v, h) := readObj x h p r sub b.selector (wantsShadow b)
        let (k, h, bs) := blockRead x p b n (sub + 1) h (bs ++ leBytes r.size v)
        (k + 1, h, bs)
    | _, _ => (0, h, bs)

/-- A GET of an object would be answered NOT_READY: a STRING or BLOB that cannot be read now. -/
def unreadable (c : Core) (p : Nat) (b : OpBody) : Bool :=
  segmented b.index b.sub && (match rowAt b.index b.sub with | some r => (readBytes c p r b.sub b.selector (wantsShadow b)).isNone | none => false)

/-- BLOCK-GET; with no value it takes the status of a GET of its first subindex (R366). -/
def blockAct (x : Extra) (c : Core) (p : Nat) (b : OpBody) : Act :=
  let (k, h, bs) := blockRead x p b b.count b.sub c.hw []
  .done { c with hw := h } { status := if unreadable c p b then .notReady else .ok, count := k, total := fixedTotal b, data := bs }

/-! Writes. -/

/-- What a segment makes of a value (R367): none if refused, no new value if it repeats the last one. -/
def segment (h : Hw) (key max : Nat) (cur : List Byte) (off : Nat) (bs : List Byte) : Option (Option (List Byte)) :=
  if off != 0 && tfind h.dict.segments key == some (off, bs.length) then some none
  else
    let v := if off = 0 then bs else cur ++ bs
    if (off != 0 && off != cur.length) || decide (max < v.length) then none else some (some v)

/-- The value a segment adds to: what was received so far, or the shadow (R367). -/
def segmentBase (h : Hw) (p idx sub : Nat) : List Byte :=
  match idx with
  | 0x4050 => nextBlob h idx sub
  | 0x6100 => loadBytes h p
  | 0xA020 => h.test.overrideIn
  | 0xB000 => h.test.reportIn
  | 0xB200 => List.replicate 72 0#8
  | _ => blob h idx sub

/-- Largest size of a value; the image of 0x6100:02 is judged when it is activated (R241). -/
def segmentMax (r : ObjRow) : Nat := if r.idx = 0x6100 then 2 ^ 32 else r.size

/-- A retired-slot list with its reserved bits [9:0] of each word zero (R6, R168). -/
def cleanList (v : List Byte) : List Byte := v.zipIdx.map (fun e => if e.2 % 4 = 0 then 0#8 else if e.2 % 4 = 1 then e.1 &&& 0xFC#8 else e.1)

/-- Puts a new value in place; none where it cannot be written now. -/
def putBytes (c : Core) (p idx sub : Nat) (v : List Byte) : Option Core :=
  let h := c.hw
  match idx with
  | 0x4050 => some { c with hw := { h with dict := { h.dict with blobShadows := tset h.dict.blobShadows (idx * 256 + sub) (cleanList v) } } }
  | 0x6100 => (writeLoad h p v).map (fun h => { c with hw := h })
  | 0xA020 => some { c with hw := overrideRecord (setTest h { h.test with overrideIn := v }) v }
  | 0xB000 => if h.test.window then some { c with hw := reportBytes h v } else none
  | 0xB200 => if debugReady h (obj h 0xB200 1 p) then some (debugWrite (debugAccess c (obj h 0xB200 1 p) 3) (obj h 0xB200 1 p) v) else none
  | _ => some { c with hw := setBlob h idx sub v }

/-- SET of a STRING or BLOB. The debug line takes its 72 bytes at once. -/
def setBytesAct (c : Core) (p : Nat) (r : ObjRow) (b : OpBody) : Act :=
  let cur := segmentBase c.hw p b.index b.sub
  let key := segKey b.index b.sub p
  let ans := fun (s : Status) (n : Nat) => ({ status := s, total := n } : Answer)
  if b.index = 0xB200 ∧ b.data.length ≠ 72 then .done c (ans .badLength 72)
  else match segment c.hw key (segmentMax r) cur b.offset b.data with
    | none => .done c (ans .badLength cur.length)
    | some none => .done c (ans .ok cur.length)
    | some (some v) =>
      match putBytes c p b.index b.sub v with
      | some c => .done (c.onHw (fun h => { h with dict := { h.dict with segments := tset h.dict.segments key (b.offset, b.data.length) } })) (ans .ok v.length)
      | none => .done c (ans .notReady cur.length)

/-- Writes one member: the shadow of an RWL object, else the value in force (R375, R379). A new checker pattern starts the lane's checker afresh (R87). -/
def putVal (h : Hw) (p : Nat) (r : ObjRow) (sub v unit : Nat) : Hw :=
  let u := unitFor h p r.idx sub unit
  if r.acc = .rwl then { h with dict := { h.dict with shadows := tset h.dict.shadows (regKey r.idx sub u) v } }
  else
    let h := setObj h r.idx sub u v
    if r.idx = 0x2230 then setLane h sub { lane h sub with checkerSync := false } else h

/-- SET (R25, R366). With the rails about to go nothing is written any more (R451). -/
def setAct (c : Core) (p : Nat) (b : OpBody) : Act :=
  match rowAt b.index b.sub with
  | none => .done c { status := .noSuchObject }
  | some r =>
    if c.hw.mode == .off then .done c { status := .notReady, total := fixedTotal b }
    else if segmented b.index b.sub then setBytesAct c p r b
    else
      let v := leNat b.data
      .done (c.onHw (fun h => (selMembers b.selector r.depth).foldl (fun h u => putVal h p r b.sub v u) h)) { status := .ok, total := r.size }

/-! Commands. -/

/-- The action of a CMD object: `p` is the path whose selectors apply, `w` the path that waits for it. -/
def cmdAct (x : Extra) (c : Core) (p w : Nat) (b : OpBody) : Act :=
  let v := leNat b.data
  let src := obj c.hw 0x8000 1 p
  match b.index, b.sub with
  | 0x1010, 2 => beginLoadingAct c p
  | 0x1010, 3 => commitAct c
  | 0x1010, 4 => discardAct c
  | 0x1110, 3 => arrayResetAct c w (selMembers b.selector 2)
  | 0x2200, 6 => retrainAct c
  | 0x2221, ls => repairAct c ls v
  | 0x2233, ls => patternAct c w ls v
  | 0x2234, ln => clearCheckerAct c ln
  | 0x4001, 4 => pinAct c p v true
  | 0x4001, 5 => pinAct c p v false
  | 0x6006, 1 => abortAct c v
  | 0x6015, e => resetEngineAct c e
  | 0x6100, 3 => beginLoadAct c p
  | 0x6100, 4 => activateAct c p v
  | 0x6105, k => retireAct c k
  | 0x7000, 3 => sleepRequest c w
  | 0x8000, 9 => forceAct c src
  | 0x8000, 10 => clearAct c src
  | 0x8000, 11 => clearCountAct c src
  | 0x8001, 4 => clearAllAct c
  | 0x8012, 4 => emptyFirstLastAct c
  | 0x8300, 2 => enterGreyAct c
  | 0x8300, 3 => resumeAct c
  | 0x9000, 1 => armAct c
  | 0x9000, 8 => triggerAct c
  | 0x9B00, 3 => injectLineAct c p
  | 0x9B00, 4 => injectFlitAct c v
  | 0x9B00, 5 => injectWriteAct c v
  | 0x9B00, 6 => injectParityAct c v
  | 0x9B00, 8 => injectReplyAct c
  | 0x9B00, 9 => injectRouteAct c v
  | 0xA004, 2 => burnAct x.failing c p v
  | 0xA004, 3 => finaliseAct c v
  | 0xA020, 3 => applyAct c w
  | 0xA040, 1 => lifecycleAct c v
  | 0xB000, 3 => proceedAct c
  | 0xB010, 1 => bistAct c w
  | 0xB300, 1 => arrayTestAct c w v
  | 0xC010, 1 => shutdownAct c w v
  | _, _ => actHw c c.hw .notWritable

/-- An operation past the checks that precede its record: refused, or executed. -/
def execute (x : Extra) (c : Core) (p w : Nat) (b : OpBody) : Act :=
  match refusal c.hw p b with
  | some a => .done c a
  | none =>
    match b.op with
    | 2 => setAct c p b
    | 3 => if c.hw.mode == .off then actHw c c.hw .notReady else cmdAct x c p w b
    | 4 => listAct c b
    | 5 => blockAct x c p b
    | _ => getAct x c p b

/-! Paths. -/

/-- An operation that matches the record of its path (R372). -/
def matchesRecord (r : OpRecord) (b : OpBody) : Bool :=
  r.op == b.op && r.tag == b.tag && r.index == b.index && r.sub == b.sub && r.selector == b.selector && r.offset == b.offset

/-- The recorded answer of an operation sent again. -/
def recorded (h : Hw) (p : Nat) (b : OpBody) : Option (List Byte) :=
  match (path h p).record with
  | some r => if matchesRecord r b then some r.answer else none
  | none => none

/-- A path that waits for nothing: that of frames to a group address or to 63, which are never answered (R30). -/
def noPath : Nat := 5

/-- Serves an operation on a path; `replies` is false for a frame to a group address or to 63. -/
def serve (x : Extra) (p : Nat) (replies : Bool) (b : OpBody) (c : Core) : Core :=
  let say := fun (s : Status) => c.onHw (fun h => answerNow h p b { status := s, total := fixedTotal b } replies)
  if c.hw.faults.restarting then say .retry
  else if malformed b then say .badOperation
  else if (path c.hw p).pending.isSome then
    if replies then (say .busy).onHw (fun h => bump h 0x1040 11) else c
  else match (if replies then recorded c.hw p b else none) with
    | some body => c.onHw (fun h => sendAnswer (bump h 0x1040 9) p body)
    | none =>
      match execute x c p (if replies then p else noPath) b with
      | .done c a => c.onHw (fun h => if replies then answerNow h p b a true else noteStatus h p a.status)
      | .wait c => c.onHw (fun h => answerPending h p b replies)
      | .later c a => c.onHw (fun h => if replies then finishOp (answerPending h p b true) p a else noteStatus h p a.status)

/-! In-band operations. -/

/-- The header of an operation body (Table 13.6). -/
def parseBody (bs : List Byte) : OpBody :=
  let f := fun (at_ n : Nat) => leNat ((bs.drop at_).take n)
  { op := f 0 1, flags := f 1 1, tag := f 2 2, index := f 4 2, sub := f 6 1, count := f 7 1, selector := f 8 2,
    offset := f 12 4, reserved := f 10 2 == 0, data := bs.drop 16 }

/-- The dictionary takes operations from the MGT buffers. -/
def mgtTaken (h : Hw) : Bool := (h.mode == .run && obj h 0x7000 1 != 2 && obj h 0x7000 1 != 4) || h.mode == .stopping

/-- An OK of a sleep request waits to be sent in-band: it is the first MGT answer after the wake (R319). -/
def sleepAnswerDue (h : Hw) : Bool :=
  (span 1 4).any (fun p => match (path h p).pending with
    | some q => q.body.names 3 0x7000 3 && (match q.final with | some f => f.getD 1 0#8 == 0#8 | none => false)
    | none => false)

/-- The operation at the head of a port's MGT buffer, one at a time on its path (R371); its credits return (R128). -/
def serveMgt (x : Extra) (mine : OpBody → Bool) (n : Nat) (c : Core) : Core :=
  match (port c.hw n).mgt with
  | [] => c
  | body :: rest =>
    let b := parseBody body
    if !mgtTaken c.hw || !mine b || (path c.hw (n + 1)).pending.isSome || sleepAnswerDue c.hw then c
    else serve x (n + 1) true b (c.onHw (fun h => returnCredits (setPort h n { port h n with mgt := rest }) n 0 0 (mgtSlots body)))

/-! Operations over Ouvend. -/

/-- The front end hears the bus: up from step 5 of power-up on, in every power state but those without it (R311, R441, R443, R451). -/
def ovbHears (h : Hw) : Bool := aoOn h && (h.mode != .off || obj h 0xC010 2 == 4)

/-- DEST is the strap address. -/
def toStrap (h : Hw) (dest : Nat) : Bool := h.boot.strap != 0 && dest == h.boot.strap

/-- DEST is 63, or a group address once there was a COMMIT (R29, R360). -/
def toGroup (h : Hw) (dest : Nat) : Bool :=
  dest == 63 || (h.boot.firstCommit && dest != 0 && (span 1 4).any (fun n => obj h 0x1120 n == dest))

/-- Asleep or waking, or the front end already stopped for sleep: the AO receiver holds one OPERATION (R321). -/
def asleep (h : Hw) : Bool :=
  h.mode == .run && (obj h 0x7000 1 == 2 || obj h 0x7000 1 == 4 || (obj h 0x7000 1 == 3 && domainState h 3 != 0))

/-- The held frame, PENDING if it calls for a reply; a further one is discarded and counted. -/
def holdFrame (dest : Nat) (self : Bool) (b : OpBody) (h : Hw) : Hw :=
  if h.dict.heldFrame.isSome then bump h 0x7010 9
  else if (path h 0).pending.isSome then (if self then bump (answerNow h 0 b { status := .busy, total := fixedTotal b } true) 0x1040 11 else h)
  else answerPending { h with dict := { h.dict with heldFrame := some (dest, b) } } 0 b self

/-- Objects that the AO receiver still answers while tripped (R339). -/
def tripReadable (b : OpBody) : Bool := b.op == 1 && [0x7800, 0x7801, 0x7811, 0x7880].contains b.index

/-- A frame to a group address or to 63 (R30, R383). -/
def serveGroup (x : Extra) (b : OpBody) (c : Core) : Core :=
  if b.op == 1 || b.op == 4 || b.op == 5 then c.onHw (fun h => bump h 0x1120 6)
  else if b.op == 2 && b.index == 0x1030 && b.sub == 1 then c.onHw (fun h => bump h 0x1040 3)
  else serve x 0 false b c

/-- An OPERATION that the stack has received with a valid CRC: it may wake the stack or end a sleep request; a second sleep request has no effect on the first (R319, R320). -/
def serveOuvend (x : Extra) (dest : Nat) (b : OpBody) (c : Core) : Core :=
  let self := toStrap c.hw dest
  if !ovbHears c.hw || !(self || toGroup c.hw dest) then c
  else
    let c := c.onHw (fun h =>
      let h := bump (frameEnd h) 0x1040 1
      setPath h 0 { path h 0 with lastTag := b.tag, held := none })
    if c.hw.mode == .trip || c.hw.mode == .dramOff then
      if !self then c
      else if tripReadable b then serve x 0 true b c
      else c.onHw (fun h => reply (noteStatus h 0 .notReady) 2 (answerBody b { status := .notReady, total := fixedTotal b }))
    else
      let c := if b.names 3 0x7000 3 && c.hw.power.sleep.isSome then c else c.onHw (wakeEvent 3 dest)
      if asleep c.hw then c.onHw (holdFrame dest self b)
      else if self then serve x 0 true b c
      else serveGroup x b c

/-- An operation of a row: an Ouvend OPERATION, or the head of a port's MGT buffer if it is one of the row's. -/
def dictOp (x : Extra) (mine : OpBody → Bool) (src : OpSource) (c : Core) : Core :=
  match src with
  | .ouvend dest b => if mine b then serveOuvend x dest b c else c
  | .mgt n => serveMgt x mine n c

end Sys2Proof.Machine
end

