-- ==== Sys2Proof/Machine/Ouvend.lean ====
section
/-!
DEFINITION. The dictionary's rows: one meaning for each operation and each command object, all served by `dictOp`; the Ouvend
receiver (R357 to R362), POLL, final answers (R370) and the end of a wake (R321, R322).
-/
namespace Sys2Proof.Machine

/-! Operations on any object (R366). -/

def execGet (src : OpSource) (s : State) : Host.Outcome State Fault Refusal := runCore (wfGet src) (dictOp {} OpBody.isGet src) s

/-- SET, and a CMD of an object that has no action. -/
def setRow (b : OpBody) : Bool :=
  b.op == 2 || (b.op == 3 && (match rowAt b.index b.sub with | some r => r.acc != .cmd | none => true))

def execSet (src : OpSource) (s : State) : Host.Outcome State Fault Refusal := runCore (wfSet src) (dictOp {} setRow src) s
def execList (src : OpSource) (s : State) : Host.Outcome State Fault Refusal := runCore (wfList src) (dictOp {} (OpBody.does 4) src) s
def execBlockGet (src : OpSource) (s : State) : Host.Outcome State Fault Refusal := runCore (wfBlockGet src) (dictOp {} (OpBody.does 5) src) s

/-! Operations on one object. -/

/-- A read of a checker's counter; `bits` and `errors` are what the checker has counted since it last told (R87). -/
def execCheckerCounterRead (src : OpSource) (bits errors : Nat) (s : State) : Host.Outcome State Fault Refusal :=
  runCore (wfCheckerCounterRead src bits errors) (dictOp { bits := bits, errors := errors } OpBody.readsChecker src) s

/-- A burn; `failing` are the bits that still fail at the strict reference after the last pulse (R417). -/
def execBurnWord (src : OpSource) (failing : Nat) (s : State) : Host.Outcome State Fault Refusal :=
  runCore (wfBurnWord src failing) (dictOp { failing := failing } (OpBody.names 3 0xA004 2) src) s

def execShutdown (src : OpSource) (s : State) : Host.Outcome State Fault Refusal := runCore (wfShutdown src) (dictOp {} (OpBody.names 3 0xC010 1) src) s
def execRetrainLink (src : OpSource) (s : State) : Host.Outcome State Fault Refusal := runCore (wfRetrainLink src) (dictOp {} (OpBody.names 3 0x2200 6) src) s
def execPatternTest (src : OpSource) (s : State) : Host.Outcome State Fault Refusal := runCore (wfPatternTest src) (dictOp {} (OpBody.namesRun 3 0x2233 0x00 0x17) src) s
def execRepairRequest (src : OpSource) (s : State) : Host.Outcome State Fault Refusal := runCore (wfRepairRequest src) (dictOp {} (OpBody.namesRun 3 0x2221 0x00 0x17) src) s
def execClearCheckerCounters (src : OpSource) (s : State) : Host.Outcome State Fault Refusal := runCore (wfClearCheckerCounters src) (dictOp {} (OpBody.namesRun 3 0x2234 0x00 0xD7) src) s
def execPin (src : OpSource) (s : State) : Host.Outcome State Fault Refusal := runCore (wfPin src) (dictOp {} (OpBody.names 3 0x4001 4) src) s
def execUnpin (src : OpSource) (s : State) : Host.Outcome State Fault Refusal := runCore (wfUnpin src) (dictOp {} (OpBody.names 3 0x4001 5) src) s
def execArrayReset (src : OpSource) (s : State) : Host.Outcome State Fault Refusal := runCore (wfArrayReset src) (dictOp {} (OpBody.names 3 0x1110 3) src) s
def execInjectStoredLine (src : OpSource) (s : State) : Host.Outcome State Fault Refusal := runCore (wfInjectStoredLine src) (dictOp {} (OpBody.names 3 0x9B00 3) src) s
def execInjectFlitCrc (src : OpSource) (s : State) : Host.Outcome State Fault Refusal := runCore (wfInjectFlitCrc src) (dictOp {} (OpBody.names 3 0x9B00 4) src) s
def execInjectWriteCrc (src : OpSource) (s : State) : Host.Outcome State Fault Refusal := runCore (wfInjectWriteCrc src) (dictOp {} (OpBody.names 3 0x9B00 5) src) s
def execInjectCommandParity (src : OpSource) (s : State) : Host.Outcome State Fault Refusal := runCore (wfInjectCommandParity src) (dictOp {} (OpBody.names 3 0x9B00 6) src) s
def execInjectOuvendCrc (src : OpSource) (s : State) : Host.Outcome State Fault Refusal := runCore (wfInjectOuvendCrc src) (dictOp {} (OpBody.names 3 0x9B00 8) src) s
def execInjectRouteEntry (src : OpSource) (s : State) : Host.Outcome State Fault Refusal := runCore (wfInjectRouteEntry src) (dictOp {} (OpBody.names 3 0x9B00 9) src) s
def execAbortJob (src : OpSource) (s : State) : Host.Outcome State Fault Refusal := runCore (wfAbortJob src) (dictOp {} (OpBody.names 3 0x6006 1) src) s
def execResetEngine (src : OpSource) (s : State) : Host.Outcome State Fault Refusal := runCore (wfResetEngine src) (dictOp {} (OpBody.namesRun 3 0x6015 0x00 0x1F) src) s
def execBeginKernelLoad (src : OpSource) (s : State) : Host.Outcome State Fault Refusal := runCore (wfBeginKernelLoad src) (dictOp {} (OpBody.names 3 0x6100 3) src) s
def execKernelImageAppend (src : OpSource) (s : State) : Host.Outcome State Fault Refusal := runCore (wfKernelImageAppend src) (dictOp {} (OpBody.names 2 0x6100 2) src) s
def execActivateKernel (src : OpSource) (s : State) : Host.Outcome State Fault Refusal := runCore (wfActivateKernel src) (dictOp {} (OpBody.names 3 0x6100 4) src) s
def execRetireKernel (src : OpSource) (s : State) : Host.Outcome State Fault Refusal := runCore (wfRetireKernel src) (dictOp {} (OpBody.namesRun 3 0x6105 0x00 0x3F) src) s
def execSleepRequest (src : OpSource) (s : State) : Host.Outcome State Fault Refusal := runCore (wfSleepRequest src) (dictOp {} (OpBody.names 3 0x7000 3) src) s
def execBeginLoading (src : OpSource) (s : State) : Host.Outcome State Fault Refusal := runCore (wfBeginLoading src) (dictOp {} (OpBody.names 3 0x1010 2) src) s
def execCommit (src : OpSource) (s : State) : Host.Outcome State Fault Refusal := runCore (wfCommit src) (dictOp {} (OpBody.names 3 0x1010 3) src) s
def execDiscard (src : OpSource) (s : State) : Host.Outcome State Fault Refusal := runCore (wfDiscard src) (dictOp {} (OpBody.names 3 0x1010 4) src) s
def execForce (src : OpSource) (s : State) : Host.Outcome State Fault Refusal := runCore (wfForce src) (dictOp {} (OpBody.names 3 0x8000 9) src) s
def execClear (src : OpSource) (s : State) : Host.Outcome State Fault Refusal := runCore (wfClear src) (dictOp {} (OpBody.names 3 0x8000 10) src) s
def execClearOccurrences (src : OpSource) (s : State) : Host.Outcome State Fault Refusal := runCore (wfClearOccurrences src) (dictOp {} (OpBody.names 3 0x8000 11) src) s
def execClearAllInactive (src : OpSource) (s : State) : Host.Outcome State Fault Refusal := runCore (wfClearAllInactive src) (dictOp {} (OpBody.names 3 0x8001 4) src) s
def execEmptyFirstAndLastFault (src : OpSource) (s : State) : Host.Outcome State Fault Refusal := runCore (wfEmptyFirstAndLastFault src) (dictOp {} (OpBody.names 3 0x8012 4) src) s
def execEnterGreyMode (src : OpSource) (s : State) : Host.Outcome State Fault Refusal := runCore (wfEnterGreyMode src) (dictOp {} (OpBody.names 3 0x8300 2) src) s
def execResume (src : OpSource) (s : State) : Host.Outcome State Fault Refusal := runCore (wfResume src) (dictOp {} (OpBody.names 3 0x8300 3) src) s
def execArm (src : OpSource) (s : State) : Host.Outcome State Fault Refusal := runCore (wfArm src) (dictOp {} (OpBody.names 3 0x9000 1) src) s
def execTrigger (src : OpSource) (s : State) : Host.Outcome State Fault Refusal := runCore (wfTrigger src) (dictOp {} (OpBody.names 3 0x9000 8) src) s
def execSnapshotRead (src : OpSource) (s : State) : Host.Outcome State Fault Refusal := runCore (wfSnapshotRead src) (dictOp {} (OpBody.names 1 0x9020 2) src) s
def execFuseWordRead (src : OpSource) (s : State) : Host.Outcome State Fault Refusal := runCore (wfFuseWordRead src) (dictOp {} (OpBody.names 1 0xA003 2) src) s
def execFuseWordStrictRead (src : OpSource) (s : State) : Host.Outcome State Fault Refusal := runCore (wfFuseWordStrictRead src) (dictOp {} (OpBody.names 1 0xA003 3) src) s
def execFinaliseRegion (src : OpSource) (s : State) : Host.Outcome State Fault Refusal := runCore (wfFinaliseRegion src) (dictOp {} (OpBody.names 3 0xA004 3) src) s
def execCalibrationOverride (src : OpSource) (s : State) : Host.Outcome State Fault Refusal := runCore (wfCalibrationOverride src) (dictOp {} (OpBody.names 2 0xA020 4) src) s
def execApplyCalibration (src : OpSource) (s : State) : Host.Outcome State Fault Refusal := runCore (wfApplyCalibration src) (dictOp {} (OpBody.names 3 0xA020 3) src) s
def execLifecycleTransition (src : OpSource) (s : State) : Host.Outcome State Fault Refusal := runCore (wfLifecycleTransition src) (dictOp {} (OpBody.names 3 0xA040 1) src) s
def execInterconnectReportWrite (src : OpSource) (s : State) : Host.Outcome State Fault Refusal := runCore (wfInterconnectReportWrite src) (dictOp {} (OpBody.names 2 0xB000 1) src) s
def execProceedWithoutReport (src : OpSource) (s : State) : Host.Outcome State Fault Refusal := runCore (wfProceedWithoutReport src) (dictOp {} (OpBody.names 3 0xB000 3) src) s
def execRunShutdownBist (src : OpSource) (s : State) : Host.Outcome State Fault Refusal := runCore (wfRunShutdownBist src) (dictOp {} (OpBody.names 3 0xB010 1) src) s
def execDebugLineRead (src : OpSource) (s : State) : Host.Outcome State Fault Refusal := runCore (wfDebugLineRead src) (dictOp {} (OpBody.names 1 0xB200 2) src) s
def execDebugLineWrite (src : OpSource) (s : State) : Host.Outcome State Fault Refusal := runCore (wfDebugLineWrite src) (dictOp {} (OpBody.names 2 0xB200 2) src) s
def execArrayTest (src : OpSource) (s : State) : Host.Outcome State Fault Refusal := runCore (wfArrayTest src) (dictOp {} (OpBody.names 3 0xB300 1) src) s

/-! Answers that come later. -/

/-- The final answer of a PENDING operation; an in-band one waits for the link (R319, R370). -/
def execFinalAnswer (path : Nat) (s : State) : Host.Outcome State Fault Refusal :=
  runHw (wfFinalAnswer path) (fun h => only (path = 0 || mgtTaken h) (finalAnswer path) h) s

/-- The STATUS payload (Table 13.5). -/
def statusPayload (h : Hw) : List Byte :=
  let q := path h 0
  let flags := bit (errLow h) + 2 * bit h.therm.tripLow + 4 * bit (grey h) + 8 * bit q.held.isSome + 16 * bit q.pending.isSome + 32 * obj h 0x1010 1
  leBytes 1 (obj h 0x7000 1) ++ leBytes 1 flags ++ leBytes 2 q.lastTag ++ leBytes 4 (obj h 0x8011 1) ++ leBytes 8 (now h)

/-- A POLL: a held final answer, again at every POLL, or STATUS; no reply but at the strap address (R361). -/
def poll (dest : Nat) (h : Hw) : Hw :=
  if !ovbHears h || !(toStrap h dest || toGroup h dest) then h
  else
    let h := bump (frameEnd h) 0x1040 1
    if !toStrap h dest then h
    else match (path h 0).held with
      | some body => reply h 2 body
      | none => reply h 4 (statusPayload h)

def execPoll (dest : Nat) (s : State) : Host.Outcome State Fault Refusal := runHw (wfPoll dest) (poll dest) s

/-- The frame held while the stack was asleep executes; what it answers is the final answer of the PENDING operation (R321). -/
def serveHeld (c : Core) : Core :=
  match c.hw.dict.heldFrame with
  | none => c
  | some (dest, b) =>
    let c := c.onHw (fun h => { h with dict := { h.dict with heldFrame := none } })
    if toStrap c.hw dest then
      let done := fun (c : Core) (a : Answer) => c.onHw (fun h => finishOp h 0 a)
      if malformed b then done c { status := .badOperation, total := fixedTotal b }
      else match recorded c.hw 0 b with
        | some body => c.onHw (fun h => setPath (bump h 0x1040 9) 0 { path h 0 with pending := some { body := b, final := some body, recorded := false } })
        | none =>
          match execute {} c 0 0 b with
          | .done c a => done c a
          | .wait c => c
          | .later c a => done c a
    else serveGroup {} b c

/-- A frame still held once a rollback has made the stack ACTIVE: it executes with the next tick of AO (R321, assumption 165). -/
def heldDue (h : Hw) : Bool := h.mode == .run && h.dict.heldFrame.isSome && !asleep h && h.power.sleep.isNone

/-- A wake ends in ACTIVE (R322); `canaries` are the banks' canaries as read. -/
def execWakeComplete (lost : List (Nat × Nat × BitVec 576)) (s : State) : Host.Outcome State Fault Refusal :=
  runCore (wfWakeComplete lost) (fun c => if c.hw.mode == .run && obj c.hw 0x7000 1 == 4 then serveHeld (c.onHw (wakeDone lost)) else c) s

/-! The receiver. -/

/-- The detector fires on a run whose first 16 bits have an amplitude and whose bits 8 to 23 a mean one; `delimiter` tells whether a start delimiter follows inside the window (R358, R359). -/
def detect (amplitude : Nat) (delimiter : Bool) (reference : Nat) (h : Hw) : Hw :=
  let start := fun (h : Hw) => { h with dict := { h.dict with search := !delimiter, reception := if delimiter then some reference else none } }
  match h.dict.reception with
  | some ref => if 2 * ref ≤ amplitude then start (bump h 0x1040 5) else h
  | none => start (if h.dict.search then bump h 0x1040 6 else h)

def execPreambleDetect (amplitude : Nat) (delimiter : Bool) (s : State) (reference : Nat := amplitude) : Host.Outcome State Fault Refusal :=
  runHw (wfPreambleDetect amplitude delimiter reference) (fun h => only (ovbHears h) (detect amplitude delimiter reference) h) s

/-- The search window closes without a start delimiter. -/
def windowCloses (h : Hw) : Hw := if h.dict.search then frameEnd (bump h 0x1040 4) else h

def execFalseDetection (s : State) : Host.Outcome State Fault Refusal := runHw true (fun h => only (ovbHears h) windowCloses h) s

/-- The CRC of a frame as received, header, payload and CRC, is valid (R356). -/
def frameCrcOk (f : List Byte) : Bool := decide (8 ≤ f.length) && leBytes 4 (crc32 (f.take (f.length - 4))) == f.drop (f.length - 4)

/-- A frame addressed to the stack that R357 discards, by its header word. -/
def frameBad (h : Hw) (w : Nat) : Bool :=
  let dest := field w 5 0
  let type := field w 15 12
  let len := field w 24 16
  field w 11 6 != 0 || decide (256 < len) ||
  match type with
  | 1 => decide (len < 16)
  | 3 => len != 0
  | 5 => len != 8 || toStrap h dest || dest != 63
  | _ => true

/-- A frame that fails its CRC, breaks a rule, or carries the stack's own address as its sender (R357, R362). Any other frame is no error, and nothing happens. -/
def frameError (f : List Byte) (h : Hw) : Hw :=
  let h := frameEnd h
  let w := leNat (f.take 4)
  if !frameCrcOk f then bump h 0x1040 2
  else
    let h := if h.boot.strap != 0 && field w 11 6 == h.boot.strap then bump (raise h Src.ouvendAddressClash) 0x1040 7 else h
    if (toStrap h (field w 5 0) || toGroup h (field w 5 0)) && frameBad h w then bump h 0x1040 3 else h

def execOuvendFrameError (frame : List Byte) (s : State) : Host.Outcome State Fault Refusal :=
  runHw (wfOuvendFrameError frame) (fun h => only (ovbHears h) (frameError frame) h) s

end Sys2Proof.Machine
end

