-- ==== Sys2Proof/Machine/Dispatch.lean ====
section
/-!
DEFINITION. One arm per command: which meaning executes it.
-/
namespace Sys2Proof.Machine

/-- Executes one command on everything but the queue. -/
def exec (i : Instr) (s : State) : Host.Outcome State Fault Refusal :=
  match i with
  | .resetNRelease strap failed => Sys2Proof.Machine.execResetNRelease strap failed s
  | .endOfPowerUp found => Sys2Proof.Machine.execEndOfPowerUp found s
  | .resetNLow => Sys2Proof.Machine.execResetNLow s
  | .pwrOkFall => Sys2Proof.Machine.execPwrOkFall s
  | .shutdown src => Sys2Proof.Machine.execShutdown src s
  | .shutdownReady => Sys2Proof.Machine.execShutdownReady s
  | .terminationSense up dn => Sys2Proof.Machine.execTerminationSense up dn s
  | .hello ls rates rate => Sys2Proof.Machine.execHello ls rates rate s
  | .setPreset ls pos preset => Sys2Proof.Machine.execSetPreset ls pos preset s
  | .setTaps ls pos cm2 cm1 c0 cp1 cp2 => Sys2Proof.Machine.execSetTaps ls pos cm2 cm1 c0 cp1 cp2 s
  | .reply ls pos status => Sys2Proof.Machine.execReply ls pos status s
  | .done ls mask => Sys2Proof.Machine.execDone ls mask s
  | .patternTimeout ls => Sys2Proof.Machine.execPatternTimeout s ls
  | .pilotLock lane freq snr => Sys2Proof.Machine.execPilotLock lane freq snr s
  | .codewordDecode ls frames decoded iters => Sys2Proof.Machine.execCodewordDecode ls frames decoded iters s
  | .lanesetLocked ls => Sys2Proof.Machine.execLanesetLocked ls s
  | .lockTimeout ls => Sys2Proof.Machine.execLockTimeout s ls
  | .capabilityBlock carrier block => Sys2Proof.Machine.execCapabilityBlock carrier block s
  | .exchangeTimeout ls => Sys2Proof.Machine.execExchangeTimeout s ls
  | .linkDownPauseEnd => Sys2Proof.Machine.execLinkDownPauseEnd s
  | .retrainLink src => Sys2Proof.Machine.execRetrainLink src s
  | .laneLockLost lane => Sys2Proof.Machine.execLaneLockLost lane s
  | .lanePairingFailure lane => Sys2Proof.Machine.execLanePairingFailure lane s
  | .laneWindowEnd lane => Sys2Proof.Machine.execLaneWindowEnd lane s
  | .wakeLockTimeout lane => Sys2Proof.Machine.execWakeLockTimeout lane s
  | .adcCalibration lane cal => Sys2Proof.Machine.execAdcCalibration s lane cal
  | .driftHoldEnd lane => Sys2Proof.Machine.execDriftHoldEnd lane s
  | .backgroundRetrainComplete ls trained => Sys2Proof.Machine.execBackgroundRetrainComplete ls trained s
  | .repairReq ls stripe pos => Sys2Proof.Machine.execRepairReq ls stripe pos s
  | .mirrorOn ls stripe pos count => Sys2Proof.Machine.execMirrorOn ls stripe pos count s
  | .spareTrained ls trained => Sys2Proof.Machine.execSpareTrained ls trained s
  | .switch ls stripe pos count => Sys2Proof.Machine.execSwitch ls stripe pos count s
  | .spareSwitchOver ls => Sys2Proof.Machine.execSpareSwitchOver ls s
  | .repairDone ls stripe pos => Sys2Proof.Machine.execRepairDone ls stripe pos s
  | .lanesetWithdrawal ls failed => Sys2Proof.Machine.execLanesetWithdrawal ls failed s
  | .train ls msg => Sys2Proof.Machine.execTrain ls msg s
  | .rejoin ls => Sys2Proof.Machine.execRejoin ls s
  | .testStart ls pattern => Sys2Proof.Machine.execTestStart ls pattern s
  | .testEnd ls => Sys2Proof.Machine.execTestEnd ls s
  | .refuse ls => Sys2Proof.Machine.execRefuse ls s
  | .patternTest src => Sys2Proof.Machine.execPatternTest src s
  | .repairRequest src => Sys2Proof.Machine.execRepairRequest src s
  | .clearCheckerCounters src => Sys2Proof.Machine.execClearCheckerCounters src s
  | .checkerCounterRead src bits errors => Sys2Proof.Machine.execCheckerCounterRead src bits errors s
  | .checkerSync lane => Sys2Proof.Machine.execCheckerSync lane s
  | .checkerSyncLoss lane bits errors => Sys2Proof.Machine.execCheckerSyncLoss lane bits errors s
  | .lanesetWake ls => Sys2Proof.Machine.execLanesetWake ls s
  | .wakeDetectorFire lane run last => Sys2Proof.Machine.execWakeDetectorFire lane s run last
  | .acquisitionWindowClose lane => Sys2Proof.Machine.execAcquisitionWindowClose lane s
  | .wakeWordRecognised lane signs last => Sys2Proof.Machine.execWakeWordRecognised lane s signs last
  | .wakeAckTimeout ls => Sys2Proof.Machine.execWakeAckTimeout ls s
  | .flitReceive ls given updates began => Sys2Proof.Machine.execFlitReceive ls given updates began s
  | .replayReq ls last => Sys2Proof.Machine.execReplayReq ls last s
  | .replayReqRepeat ls => Sys2Proof.Machine.execReplayReqRepeat ls s
  | .repeatedReplayWithdrawal ls => Sys2Proof.Machine.execRepeatedReplayWithdrawal ls s
  | .quietIdleEnter ls => Sys2Proof.Machine.execQuietIdleEnter ls s
  | .quietIdleExit ls => Sys2Proof.Machine.execQuietIdleExit ls s
  | .lanesetPark ls => Sys2Proof.Machine.execLanesetPark ls s
  | .parkFlitsSend ls => Sys2Proof.Machine.execParkFlitsSend ls s
  | .parkFlit ls => Sys2Proof.Machine.execParkFlit ls s
  | .rdRequest port => Sys2Proof.Machine.execRdRequest port s
  | .wrRequest port => Sys2Proof.Machine.execWrRequest port s
  | .wrcRequest port => Sys2Proof.Machine.execWrcRequest port s
  | .atom port => Sys2Proof.Machine.execAtom port s
  | .rmwAtomic ch => Sys2Proof.Machine.execRmwAtomic ch s
  | .fence port => Sys2Proof.Machine.execFence port s
  | .fenceComplete port => Sys2Proof.Machine.execFenceComplete port s
  | .release port => Sys2Proof.Machine.execRelease port s
  | .readResponse pc => Sys2Proof.Machine.execReadResponse pc s
  | .shareWindowEnd => Sys2Proof.Machine.execShareWindowEnd s
  | .admissionQueueRelease track cls => Sys2Proof.Machine.execAdmissionQueueRelease track cls s
  | .arbiterDecision pc => Sys2Proof.Machine.execArbiterDecision pc s
  | .grantCut pc => Sys2Proof.Machine.execGrantCut pc s
  | .writeQueueEntry pc => Sys2Proof.Machine.execWriteQueueEntry pc s
  | .writeDrain pc => Sys2Proof.Machine.execWriteDrain pc s
  | .routeTableRebuildComplete => Sys2Proof.Machine.execRouteTableRebuildComplete s
  | .journalRecordApply => Sys2Proof.Machine.execJournalRecordApply s
  | .slotZeroing track => Sys2Proof.Machine.execSlotZeroing track s
  | .parcelRecreateResume => Sys2Proof.Machine.execParcelRecreateResume s
  | .warmUpEnd => Sys2Proof.Machine.execWarmUpEnd s
  | .heatEpoch => Sys2Proof.Machine.execHeatEpoch s
  | .moveStart => Sys2Proof.Machine.execMoveStart s
  | .moveCopyDone parcel replayed => Sys2Proof.Machine.execMoveCopyDone parcel s replayed
  | .moveRecopyPass parcel replayed => Sys2Proof.Machine.execMoveRecopyPass parcel s replayed
  | .moveSwap parcel replayed => Sys2Proof.Machine.execMoveSwap parcel s replayed
  | .moveProgressTimeout parcel => Sys2Proof.Machine.execMoveProgressTimeout parcel s
  | .trackGate track => Sys2Proof.Machine.execTrackGate track s
  | .trackUnpark track => Sys2Proof.Machine.execTrackUnpark track s
  | .trackUnparkComplete track => Sys2Proof.Machine.execTrackUnparkComplete track s
  | .pin src => Sys2Proof.Machine.execPin src s
  | .unpin src => Sys2Proof.Machine.execUnpin src s
  | .arrayReset src => Sys2Proof.Machine.execArrayReset src s
  | .arrayResetComplete die eyes => Sys2Proof.Machine.execArrayResetComplete die s eyes
  | .act pc bank row bad => Sys2Proof.Machine.execAct pc bank row bad s
  | .pre pc bank bad => Sys2Proof.Machine.execPre pc bank bad s
  | .prea pc bad => Sys2Proof.Machine.execPrea pc bad s
  | .refpb pc bad => Sys2Proof.Machine.execRefpb pc bad s
  | .trr pc bank row bad => Sys2Proof.Machine.execTrr pc bank row bad s
  | .sre pc bad => Sys2Proof.Machine.execSre pc bad s
  | .srx pc bad => Sys2Proof.Machine.execSrx pc bad s
  | .mrw pc reg value bad => Sys2Proof.Machine.execMrw pc reg value bad s
  | .resync ch => Sys2Proof.Machine.execResync ch s
  | .rd pc bank col noise bad => Sys2Proof.Machine.execRd pc bank col noise bad s
  | .wr pc bank col bad noise => Sys2Proof.Machine.execWr pc bank col bad noise s
  | .rda pc bank col noise bad => Sys2Proof.Machine.execRda pc bank col noise bad s
  | .wra pc bank col bad noise => Sys2Proof.Machine.execWra pc bank col bad noise s
  | .trainCommand pc bad => Sys2Proof.Machine.execTrainCommand pc bad s
  | .alert ch again => Sys2Proof.Machine.execAlert ch again s
  | .retryBufferRelease ch => Sys2Proof.Machine.execRetryBufferRelease ch s
  | .replayLimit ch eyes again => Sys2Proof.Machine.execReplayLimit ch eyes s again
  | .rowIdleClose pc bank => Sys2Proof.Machine.execRowIdleClose pc bank s
  | .refreshDue pc => Sys2Proof.Machine.execRefreshDue pc s
  | .trrEscalation pc => Sys2Proof.Machine.execTrrEscalation pc s
  | .retrainingWindow ch eyes => Sys2Proof.Machine.execRetrainingWindow ch eyes s
  | .retrainingWindowEscalation ch => Sys2Proof.Machine.execRetrainingWindowEscalation ch s
  | .gearChange track => Sys2Proof.Machine.execGearChange track s
  | .gearChangeComplete track eyes => Sys2Proof.Machine.execGearChangeComplete track s eyes
  | .selfRefreshRateStep die step => Sys2Proof.Machine.execSelfRefreshRateStep die step s
  | .priorityScrubLine pc => Sys2Proof.Machine.execPriorityScrubLine pc s
  | .writeBack ch => Sys2Proof.Machine.execWriteBack ch s
  | .patrolScrubRow pc upsets => Sys2Proof.Machine.execPatrolScrubRow pc upsets s
  | .hardErrorCheck pc noise => Sys2Proof.Machine.execHardErrorCheck pc noise s
  | .scrubLate pc => Sys2Proof.Machine.execScrubLate pc s
  | .injectStoredLine src => Sys2Proof.Machine.execInjectStoredLine src s
  | .injectFlitCrc src => Sys2Proof.Machine.execInjectFlitCrc src s
  | .injectWriteCrc src => Sys2Proof.Machine.execInjectWriteCrc src s
  | .injectCommandParity src => Sys2Proof.Machine.execInjectCommandParity src s
  | .injectOuvendCrc src => Sys2Proof.Machine.execInjectOuvendCrc src s
  | .injectRouteEntry src => Sys2Proof.Machine.execInjectRouteEntry src s
  | .copy port => Sys2Proof.Machine.execCopy port s
  | .fill port => Sys2Proof.Machine.execFill port s
  | .gather port => Sys2Proof.Machine.execGather port s
  | .scatter port => Sys2Proof.Machine.execScatter port s
  | .reduce port => Sys2Proof.Machine.execReduce port s
  | .scan port => Sys2Proof.Machine.execScan port s
  | .histogram port => Sys2Proof.Machine.execHistogram port s
  | .atomicBatch port => Sys2Proof.Machine.execAtomicBatch port s
  | .checksum port => Sys2Proof.Machine.execChecksum port s
  | .kernel port => Sys2Proof.Machine.execKernel port s
  | .abort port => Sys2Proof.Machine.execAbort port s
  | .abortJob src => Sys2Proof.Machine.execAbortJob src s
  | .partStart eng => Sys2Proof.Machine.execPartStart eng s
  | .engineDomainOn track => Sys2Proof.Machine.execEngineDomainOn track s
  | .partialResult eng => Sys2Proof.Machine.execPartialResult eng s
  | .commitGrant eng => Sys2Proof.Machine.execCommitGrant eng s
  | .jobComplete port job => Sys2Proof.Machine.execJobComplete port job s
  | .speculativeRead eng su => Sys2Proof.Machine.execSpeculativeRead eng su s
  | .engineFault eng => Sys2Proof.Machine.execEngineFault eng s
  | .resetEngine src => Sys2Proof.Machine.execResetEngine src s
  | .engineWatchdog eng => Sys2Proof.Machine.execEngineWatchdog eng s
  | .jobTimeout port job => Sys2Proof.Machine.execJobTimeout port job s
  | .beginKernelLoad src => Sys2Proof.Machine.execBeginKernelLoad src s
  | .kernelImageAppend src => Sys2Proof.Machine.execKernelImageAppend src s
  | .activateKernel src => Sys2Proof.Machine.execActivateKernel src s
  | .retireKernel src => Sys2Proof.Machine.execRetireKernel src s
  | .kNop eng => Sys2Proof.Machine.execKNop eng s
  | .kEnd eng => Sys2Proof.Machine.execKEnd eng s
  | .kEndp eng => Sys2Proof.Machine.execKEndp eng s
  | .kTrap eng => Sys2Proof.Machine.execKTrap eng s
  | .kFence eng => Sys2Proof.Machine.execKFence eng s
  | .kMilestone eng => Sys2Proof.Machine.execKMilestone eng s
  | .kTime eng => Sys2Proof.Machine.execKTime eng s
  | .kJr eng => Sys2Proof.Machine.execKJr eng s
  | .kJalr eng => Sys2Proof.Machine.execKJalr eng s
  | .kAdd eng => Sys2Proof.Machine.execKAdd eng s
  | .kSub eng => Sys2Proof.Machine.execKSub eng s
  | .kMul eng => Sys2Proof.Machine.execKMul eng s
  | .kMulhu eng => Sys2Proof.Machine.execKMulhu eng s
  | .kMulhs eng => Sys2Proof.Machine.execKMulhs eng s
  | .kDivu eng => Sys2Proof.Machine.execKDivu eng s
  | .kDivs eng => Sys2Proof.Machine.execKDivs eng s
  | .kRemu eng => Sys2Proof.Machine.execKRemu eng s
  | .kRems eng => Sys2Proof.Machine.execKRems eng s
  | .kAnd eng => Sys2Proof.Machine.execKAnd eng s
  | .kOr eng => Sys2Proof.Machine.execKOr eng s
  | .kXor eng => Sys2Proof.Machine.execKXor eng s
  | .kSll eng => Sys2Proof.Machine.execKSll eng s
  | .kSrl eng => Sys2Proof.Machine.execKSrl eng s
  | .kSra eng => Sys2Proof.Machine.execKSra eng s
  | .kMins eng => Sys2Proof.Machine.execKMins eng s
  | .kMaxs eng => Sys2Proof.Machine.execKMaxs eng s
  | .kMinu eng => Sys2Proof.Machine.execKMinu eng s
  | .kMaxu eng => Sys2Proof.Machine.execKMaxu eng s
  | .kMov eng => Sys2Proof.Machine.execKMov eng s
  | .kPopc eng => Sys2Proof.Machine.execKPopc eng s
  | .kClz eng => Sys2Proof.Machine.execKClz eng s
  | .kEq eng => Sys2Proof.Machine.execKEq eng s
  | .kNe eng => Sys2Proof.Machine.execKNe eng s
  | .kLts eng => Sys2Proof.Machine.execKLts eng s
  | .kLes eng => Sys2Proof.Machine.execKLes eng s
  | .kLtu eng => Sys2Proof.Machine.execKLtu eng s
  | .kLeu eng => Sys2Proof.Machine.execKLeu eng s
  | .kFeq eng => Sys2Proof.Machine.execKFeq eng s
  | .kFlt eng => Sys2Proof.Machine.execKFlt eng s
  | .kFle eng => Sys2Proof.Machine.execKFle eng s
  | .kFadd eng => Sys2Proof.Machine.execKFadd eng s
  | .kFsub eng => Sys2Proof.Machine.execKFsub eng s
  | .kFmul eng => Sys2Proof.Machine.execKFmul eng s
  | .kFdiv eng => Sys2Proof.Machine.execKFdiv eng s
  | .kFma eng => Sys2Proof.Machine.execKFma eng s
  | .kFmin eng => Sys2Proof.Machine.execKFmin eng s
  | .kFmax eng => Sys2Proof.Machine.execKFmax eng s
  | .kFsqrt eng => Sys2Proof.Machine.execKFsqrt eng s
  | .kCvti eng => Sys2Proof.Machine.execKCvti eng s
  | .kCvtf eng => Sys2Proof.Machine.execKCvtf eng s
  | .kCvtw eng => Sys2Proof.Machine.execKCvtw eng s
  | .kBcst eng => Sys2Proof.Machine.execKBcst eng s
  | .kExt eng => Sys2Proof.Machine.execKExt eng s
  | .kIns eng => Sys2Proof.Machine.execKIns eng s
  | .kRsum eng => Sys2Proof.Machine.execKRsum eng s
  | .kRmin eng => Sys2Proof.Machine.execKRmin eng s
  | .kRmax eng => Sys2Proof.Machine.execKRmax eng s
  | .kVmov eng => Sys2Proof.Machine.execKVmov eng s
  | .kPand eng => Sys2Proof.Machine.execKPand eng s
  | .kPor eng => Sys2Proof.Machine.execKPor eng s
  | .kPxor eng => Sys2Proof.Machine.execKPxor eng s
  | .kPandn eng => Sys2Proof.Machine.execKPandn eng s
  | .kPnot eng => Sys2Proof.Machine.execKPnot eng s
  | .kPany eng => Sys2Proof.Machine.execKPany eng s
  | .kPcnt eng => Sys2Proof.Machine.execKPcnt eng s
  | .kPfrom eng => Sys2Proof.Machine.execKPfrom eng s
  | .kPto eng => Sys2Proof.Machine.execKPto eng s
  | .kVtag eng => Sys2Proof.Machine.execKVtag eng s
  | .kStag eng => Sys2Proof.Machine.execKStag eng s
  | .kSnext eng => Sys2Proof.Machine.execKSnext eng s
  | .kSget eng => Sys2Proof.Machine.execKSget eng s
  | .kSput eng => Sys2Proof.Machine.execKSput eng s
  | .kSset eng => Sys2Proof.Machine.execKSset eng s
  | .kSclose eng => Sys2Proof.Machine.execKSclose eng s
  | .kSpos eng => Sys2Proof.Machine.execKSpos eng s
  | .kScratchLoad eng => Sys2Proof.Machine.execKScratchLoad eng s
  | .kScratchStore eng => Sys2Proof.Machine.execKScratchStore eng s
  | .kSatom eng => Sys2Proof.Machine.execKSatom eng s
  | .kLock eng => Sys2Proof.Machine.execKLock eng s
  | .kUnlock eng => Sys2Proof.Machine.execKUnlock eng s
  | .kUnlocka eng => Sys2Proof.Machine.execKUnlocka eng s
  | .kLi eng => Sys2Proof.Machine.execKLi eng s
  | .kLih eng => Sys2Proof.Machine.execKLih eng s
  | .kVbcstiW eng => Sys2Proof.Machine.execKVbcstiW eng s
  | .kVbcstiD eng => Sys2Proof.Machine.execKVbcstiD eng s
  | .kBr eng => Sys2Proof.Machine.execKBr eng s
  | .kCall eng => Sys2Proof.Machine.execKCall eng s
  | .kSopen eng => Sys2Proof.Machine.execKSopen eng s
  | .regulatorFault rail track => Sys2Proof.Machine.execRegulatorFault rail track s
  | .clockCheck locked inRange offset => Sys2Proof.Machine.execClockCheck locked inRange offset s
  | .xckStop => Sys2Proof.Machine.execXckStop s
  | .xckResume => Sys2Proof.Machine.execXckResume s
  | .idleEntry => Sys2Proof.Machine.execIdleEntry s
  | .engineGate track => Sys2Proof.Machine.execEngineGate track s
  | .gatingBudgetTick => Sys2Proof.Machine.execGatingBudgetTick s
  | .idleLanesetPark => Sys2Proof.Machine.execIdleLanesetPark s
  | .unparkCall => Sys2Proof.Machine.execUnparkCall s
  | .powerMeasurement watts volts vddqc vpp => Sys2Proof.Machine.execPowerMeasurement watts volts vddqc vpp s
  | .sleepRequest src => Sys2Proof.Machine.execSleepRequest src s
  | .automaticSleep => Sys2Proof.Machine.execAutomaticSleep s
  | .sleepVoteTimeout block => Sys2Proof.Machine.execSleepVoteTimeout block s
  | .sleepStopStep sreFails => Sys2Proof.Machine.execSleepStopStep s sreFails
  | .sleepLinkParkTimeout => Sys2Proof.Machine.execSleepLinkParkTimeout s
  | .wake0 high => Sys2Proof.Machine.execWake0 high s
  | .wake1 high => Sys2Proof.Machine.execWake1 high s
  | .wakeComplete lost => Sys2Proof.Machine.execWakeComplete lost s
  | .sensorSample sensors => Sys2Proof.Machine.execSensorSample sensors s
  | .sensorFailed sensor => Sys2Proof.Machine.execSensorFailed sensor s
  | .distrustEvaluation => Sys2Proof.Machine.execDistrustEvaluation s
  | .distrustArm => Sys2Proof.Machine.execDistrustArm s
  | .gearCeilingStep track => Sys2Proof.Machine.execGearCeilingStep track s
  | .coolantWarm slice => Sys2Proof.Machine.execCoolantWarm slice s
  | .tripComparator sensor => Sys2Proof.Machine.execTripComparator sensor s
  | .secondStageTrip sensor => Sys2Proof.Machine.execSecondStageTrip sensor s
  | .dramMonitorWindow sensors => Sys2Proof.Machine.execDramMonitorWindow sensors s
  | .tripRestart eyes => Sys2Proof.Machine.execTripRestart s eyes
  | .preambleDetect amplitude delimiter reference => Sys2Proof.Machine.execPreambleDetect amplitude delimiter s reference
  | .falseDetection => Sys2Proof.Machine.execFalseDetection s
  | .ouvendFrameError frame => Sys2Proof.Machine.execOuvendFrameError frame s
  | .poll dest => Sys2Proof.Machine.execPoll dest s
  | .beacon time => Sys2Proof.Machine.execBeacon time s
  | .get src => Sys2Proof.Machine.execGet src s
  | .set src => Sys2Proof.Machine.execSet src s
  | .list src => Sys2Proof.Machine.execList src s
  | .blockGet src => Sys2Proof.Machine.execBlockGet src s
  | .finalAnswer path => Sys2Proof.Machine.execFinalAnswer path s
  | .beginLoading src => Sys2Proof.Machine.execBeginLoading src s
  | .commit src => Sys2Proof.Machine.execCommit src s
  | .discard src => Sys2Proof.Machine.execDiscard src s
  | .loadingAbandoned => Sys2Proof.Machine.execLoadingAbandoned s
  | .force src => Sys2Proof.Machine.execForce src s
  | .clear src => Sys2Proof.Machine.execClear src s
  | .clearOccurrences src => Sys2Proof.Machine.execClearOccurrences src s
  | .clearAllInactive src => Sys2Proof.Machine.execClearAllInactive src s
  | .emptyFirstAndLastFault src => Sys2Proof.Machine.execEmptyFirstAndLastFault src s
  | .enterGreyMode src => Sys2Proof.Machine.execEnterGreyMode src s
  | .resume src => Sys2Proof.Machine.execResume src s
  | .arm src => Sys2Proof.Machine.execArm src s
  | .trigger src => Sys2Proof.Machine.execTrigger src s
  | .milestoneBallEdge => Sys2Proof.Machine.execMilestoneBallEdge s
  | .milestoneRelease => Sys2Proof.Machine.execMilestoneRelease s
  | .snapshotRead src => Sys2Proof.Machine.execSnapshotRead src s
  | .stewardMismatch => Sys2Proof.Machine.execStewardMismatch s
  | .stewardWatchdog => Sys2Proof.Machine.execStewardWatchdog s
  | .stewardRestartComplete => Sys2Proof.Machine.execStewardRestartComplete s
  | .fuseWordRead src => Sys2Proof.Machine.execFuseWordRead src s
  | .fuseWordStrictRead src => Sys2Proof.Machine.execFuseWordStrictRead src s
  | .burnWord src failing => Sys2Proof.Machine.execBurnWord src failing s
  | .finaliseRegion src => Sys2Proof.Machine.execFinaliseRegion src s
  | .calibrationOverride src => Sys2Proof.Machine.execCalibrationOverride src s
  | .applyCalibration src => Sys2Proof.Machine.execApplyCalibration src s
  | .calibrationQuiescentPoint => Sys2Proof.Machine.execCalibrationQuiescentPoint s
  | .applyTimeout => Sys2Proof.Machine.execApplyTimeout s
  | .lifecycleTransition src => Sys2Proof.Machine.execLifecycleTransition src s
  | .interconnectReportWrite src => Sys2Proof.Machine.execInterconnectReportWrite src s
  | .proceedWithoutReport src => Sys2Proof.Machine.execProceedWithoutReport src s
  | .reportWindowTimeout => Sys2Proof.Machine.execReportWindowTimeout s
  | .runShutdownBist src => Sys2Proof.Machine.execRunShutdownBist src s
  | .bistComplete found lanes layers => Sys2Proof.Machine.execBistComplete found lanes layers s
  | .debugLineRead src => Sys2Proof.Machine.execDebugLineRead src s
  | .debugLineWrite src => Sys2Proof.Machine.execDebugLineWrite src s
  | .arrayTest src => Sys2Proof.Machine.execArrayTest src s
  | .arrayTestComplete failing => Sys2Proof.Machine.execArrayTestComplete failing s
  | .tapReset => Sys2Proof.Machine.execTapReset s
  | .extest cells => Sys2Proof.Machine.execExtest cells s
  | .idcode => Sys2Proof.Machine.execIdcode s
  | .samplePreload cells => Sys2Proof.Machine.execSamplePreload cells s
  | .clamp cells => Sys2Proof.Machine.execClamp cells s
  | .highz => Sys2Proof.Machine.execHighz s
  | .internalScan code => Sys2Proof.Machine.execInternalScan code s
  | .bypass code => Sys2Proof.Machine.execBypass code s
  | .lockWaitTimeout eng => Sys2Proof.Machine.execLockWaitTimeout eng s
  | .engineBackInService eng => Sys2Proof.Machine.execEngineBackInService eng s
  | .doneSend ls mask seeds trained markers => Sys2Proof.Machine.execDoneSend ls mask seeds trained s markers
  | .kIllegal eng => Sys2Proof.Machine.execKIllegal eng s
  | .kPcRange eng => Sys2Proof.Machine.execKPcRange eng s
  | .lossOfRails => Sys2Proof.Machine.execLossOfRails s

end Sys2Proof.Machine
end

