-- ==== Sys2Proof/Machine/Tick.lean ====
section
/-!
DEFINITION. What the clock does by itself: the stack time counter advances (R401, R402), and the schedule of a patrol scrub that
is paused waits (R295). One tick is one XCK cycle, or one cycle of the ring oscillator while XCK is stopped.
-/
namespace Sys2Proof.Machine

/-- The ring oscillator's period as last measured against XCK, in 1/256 ns: 40 ns nominal, with the offset of 0x7060:03 in 0.01 ppm (R310). -/
def ringPeriod (h : Hw) : Nat := (10240 * (100000000 + toSigned 32 (obj h 0x7060 3)) / 100000000).toNat

/-- One tick of the counter. -/
def Clock.tick (k : Clock) (ring : Option Nat) : Clock :=
  match ring with
  | some p => { k with now := k.now + (k.frac + p) / 256, frac := (k.frac + p) % 256 }
  | none =>
    if k.slew = 0 then { k with now := k.now + 20, slow := false }
    else if 0 < k.slew then { k with now := k.now + 21, slew := k.slew - 1 }
    else if k.slow then { k with now := k.now + 10, slew := min 0 (k.slew + 10) }
    else { k with now := k.now + 19, slew := k.slew + 1 }

/-- Passes that are paused start later by the time that went by. -/
def pausePatrol (h : Hw) (dt : Nat) : Hw :=
  (List.range 128).foldl (fun h pc => if patrolRuns h pc then h else setPc h pc { pcSt h pc with passStart := (pcSt h pc).passStart + dt }) h

/-- A tick; with RESET_N low nothing counts (R440). -/
def tick (h : Hw) : Hw :=
  if h.mode == .held then h
  else
    let k := h.clock.tick (if h.power.xckStopped then some (ringPeriod h) else none)
    pausePatrol { h with clock := k } (k.now - h.clock.now)

end Sys2Proof.Machine
end

