-- ==== Sys2Proof/Machine/Wire.lean ====
section
/-!
DEFINITION. What the lanes of an upstream laneset carry: steadily in each state of Table 3.2, and for each output of the stack
symbol by symbol (R36 to R40, R66 to R68, R73 to R78, R81 to R83, R92, R99); and the Ouvend pair half-cell by half-cell (R351, R354).
-/
namespace Sys2Proof.Machine

/-- What the lanes of an upstream laneset carry while the stack sends nothing else. -/
inductive Carry where
  | electricalIdle
  /-- Training frames; the back channel repeats a message until the state changes, or carries bytes of zero (R75, R77, R78). -/
  | training (message : Option BcMsg)
  /-- Flits of one content without end; in EXCHANGE a sync flit as every eighth one, if so marked (R81, R82, R83). -/
  | flits (c : FlitContent) (eighthSync : Bool)
  /-- Pilots and a level of zero (R40, R135). -/
  | quiet
  /-- A test pattern, unframed and without pilots: 1 PRBS13, 2 PRBS31 (R88). -/
  | pattern (n : Nat)
  deriving DecidableEq, Repr

/-- HELLO goes out on the back-channel lanes until the host's is received; the other lanes stay electrically idle until then (R78). -/
def carriesPattern (h : Hw) (ls : Nat) : Carry :=
  if h.link.up.rate.isSome then .training none
  else if ls % 2 = 0 then .training (some (.hello (ratesOf h) h.link.up.proposed)) else .electricalIdle

/-- What an upstream laneset carries in the state it is in. A laneset out of service is electrically idle (assumption 133). -/
def carries (h : Hw) (ls : Nat) : Carry :=
  let l := laneset h ls
  let own := (match blockCarrier h ls with | some k => k == ls | none => false)
  if l.test ≠ 0 then .pattern l.test
  else match l.wd with
    | some w => if w.phase = .pattern then .training none else .flits .sync false
    | none =>
      if lsState h ls ≠ 0 then .electricalIdle
      else match linkState h with
        | 1 => carriesPattern h ls
        | 2 => .flits .sync false
        | 3 => if own then .flits (.capability (capBlock h (16 + ls / 2) (if h.link.up.echoed then field (h.link.up.hostWide.getD 0) 38 37 else 3))) (!(laneset h (16 + ls / 2)).capSeen) else .flits .sync false
        | 4 => if l.quiet then .quiet else .flits (.idle []) false
        | _ => .electricalIdle

/-- The lane frame of each position for one codeword of a laneset: a stripe lane's share on its position, the same share on a spare that mirrors it, pilots alone on an idle spare (R92); nothing on a position that is not used. Transmitters neither invert nor reorder (R84). -/
def codewordFrames (h : Hw) (ls : Nat) (even : Bool) (w : Nat) : List (List Int) :=
  let l := laneset h ls
  (List.range 9).map (fun i =>
    let share := fun (s : Nat) => shareFrame even (flag h 0x2205 (laneOf ls i)) w s
    match l.map.findIdx? (· == i), l.mirror with
    | some s, _ => share s
    | none, some m => if m.spare = i then share m.stripe else if l.spare == some i then quietFrame even else []
    | none, none => if l.spare == some i then quietFrame even else [])

/-- The levels of each position for a flit: an even frame and an odd one, for its two codewords (R39, R65 to R68). -/
def flitSymbols (h : Hw) (ls : Nat) (bytes : List Byte) (scr : Nat) : List (List Int) :=
  List.zipWith (· ++ ·) (codewordFrames h ls true (sentCodeword ls scr (flitInfo bytes 0)))
    (codewordFrames h ls false (sentCodeword ls (scr + 2048) (flitInfo bytes 1)))

/-- PATTERN has not yet an attempt rate: only the back-channel lanes are driven (R78). -/
def opening (h : Hw) : Bool := obj h 0x2200 2 == 1 && h.link.up.rate.isNone

/-- The levels that an output puts on the nine positions of its laneset; an Ouvend frame or an electrical idle puts none. -/
def outSymbols (h : Hw) : Out → List (List Int)
  | .flit ls c seq ack bad scr => flitSymbols h ls (flitBytes c seq ack bad) scr
  | .backChannel ls pos target m =>
    (List.range 9).map (fun i => if i ≠ pos && opening h then [] else if i = pos then (bcFrames i target m).flatten else (List.replicate 8 (trainingFrame i false 0)).flatten) |>.take (if ls < 16 then 9 else 0)
  | .wake _ => List.replicate 9 wakeSymbols
  | _ => []

/-! The Ouvend pair. -/

/-- The pair for half a bit-time; undriven, its terminations hold it at zero (R351). -/
inductive HalfCell where
  | positive
  | negative
  | undriven
  deriving DecidableEq, Repr

/-- A 1 is positive, then negative; a 0 the other way round. -/
def bitCells (b : Bool) : List HalfCell := if b then [.positive, .negative] else [.negative, .positive]

/-- A byte, bit 0 first. -/
def byteCells (x : Byte) : List HalfCell := ((List.range 8).map (fun i => bitCells (x.getLsbD i))).flatten

/-- A frame: the preamble, the start delimiter, then header, payload and CRC without a gap (R354). -/
def frameCells (frame : List Byte) : List HalfCell :=
  ((List.range 32).map (fun i => bitCells (i % 2 == 0))).flatten ++
  [.positive, .positive, .positive, .negative, .negative, .negative, .positive, .negative] ++ (frame.map byteCells).flatten

/-- What the stack puts on the pair while a command executes: its frames one after another, and nothing between them. -/
def pairCells (h : Hw) : List HalfCell :=
  (h.out.map (fun o => match o with | .ouvend f => frameCells f ++ [.undriven] | _ => [])).flatten

/-- The pair at half-cell `n` from the first that the stack drives: undriven before and after what it sends. -/
def pairAt (h : Hw) (n : Nat) : HalfCell := (pairCells h).getD n .undriven

end Sys2Proof.Machine
end

