-- ==== Sys2Proof/Safety.lean ====
section
/-!
DEFINITION. The terms in which claims about the stack are written: the state a command leaves, where a command's frame ends,
what a dictionary operation finds on its path, and what a kernel instruction finds at its engine's program counter.
-/
namespace Sys2Proof.Machine

/-- The state after a command that leaves the rest of the stack as `h` and touches no stored line: other blocks have settled. -/
def after (s : State) (h : Hw) : State := { s with hw := settle h }

/-- What a command that touches stored lines works on. -/
def coreOf (s : State) : Core := { hw := begin s.hw, dram := s.dram, stores := [] }

/-- The state after such a command. -/
def afterCore (s : State) (c : Core) : State := { s with dram := runStores s.dram c.stores, hw := settle c.hw }

/-- Nothing is set going in other blocks, and neither IDLE nor a call for laneset parking can end: settling changes nothing. -/
def Calm (h : Hw) : Prop := h.react = {} ∧ ¬(h.mode = .run ∧ idleCall h = true)

/-- A request of one parcel that a port offers is taken: no earlier one of its class waits in an old queue, and its class is under its limit with none queued, or its queue has a free place (R204, R210). -/
def RoomForRequest (h : Hw) (p label line : Nat) : Prop :=
  let e := lookup h (line / 1024)
  let t := entTrack e.2
  let c := classOf e.1 p label
  reclassWaits e.1 t p c = false ∧ ((queuedOf e.1 t c = none ∧ underLimit e.1 t c = true) ∨ (clsSt e.1 t c).queue.length < 256)

/-- What a dictionary operation finds: from source `src` the operation `b` reaches path `p` with an answer of its own, and the checks
begin on `h`. Over Ouvend it is addressed to the strap address, the bus is heard, the stack is neither tripped nor asleep, and the
frame has been a wake event, but for a sleep request while one runs; in-band it is the head of the port's MGT buffer, with its credits
returned, and no OK of a sleep request waits to be sent. -/
def Served (s : State) (src : OpSource) (p : Nat) (b : OpBody) (h : Hw) : Prop :=
  match src with
  | .ouvend dest body =>
    body = b ∧ p = 0 ∧ ovbHears s.hw = true ∧ toStrap s.hw dest = true ∧ s.hw.mode ≠ .trip ∧ s.hw.mode ≠ .dramOff ∧ asleep h = false ∧
    h = (let h := bump (frameEnd (begin s.hw)) 0x1040 1
         let h := setPath h 0 { path h 0 with lastTag := b.tag, held := none }
         if b.op = 3 ∧ b.index = 0x7000 ∧ b.sub = 3 ∧ s.hw.power.sleep.isSome = true then h else wakeEvent 3 dest h)
  | .mgt n =>
    ∃ body rest, (port s.hw n).mgt = body :: rest ∧ parseBody body = b ∧ mgtTaken s.hw = true ∧ sleepAnswerDue s.hw = false ∧ (path s.hw (n + 1)).pending = none ∧ p = n + 1 ∧
      h = returnCredits (setPort (begin s.hw) n { port s.hw n with mgt := rest }) n 0 0 (mgtSlots body)

/-- Nothing precedes the checks of Table 13.10: no steward restart, a well-formed operation, a path that waits for nothing and holds
no record of this operation. -/
def Fresh (h : Hw) (p : Nat) (b : OpBody) : Prop :=
  h.faults.restarting = false ∧ malformed b = false ∧ (path h p).pending = none ∧ recorded h p b = none

/-- An operation that is executed. -/
def Takes (s : State) (src : OpSource) (p : Nat) (b : OpBody) (h : Hw) : Prop :=
  Served s src p b h ∧ Fresh h p b ∧ refusal h p b = none

/-- The answer of a command that did what it does. -/
def okAnswer : Answer := { status := .ok, total := 4 }

/-- The state after an operation that left everything else as `h` and is answered `a` on its path. -/
def Answered (s : State) (p : Nat) (b : OpBody) (a : Answer) (h : Hw) : State := after s (answerNow h p b a true)

/-- The same with the answer PENDING; the action goes on. -/
def Waiting (s : State) (p : Nat) (b : OpBody) (h : Hw) : State := after s (answerPending h p b true)

/-- The same with the answer PENDING and the final answer `a` to come when the action's time is over. -/
def AnsweredLater (s : State) (p : Nat) (b : OpBody) (a : Answer) (h : Hw) : State := after s (finishOp (answerPending h p b true) p a)

/-! Kernel instructions. -/

/-- The context's instruction is what its engine fetches next, with the kernel's registers before it (R256). -/
def Fetches (s : State) (c : KCtx) : Prop := kernelAt s.hw c.e = some (c.j, c.i, c.q, .ins c.x) ∧ c.k = (engine s.hw c.e).k

/-- The state after an instruction that left everything else as `d` and retired: PC goes on by its length. -/
def Retires (s : State) (c : KCtx) (d : Core) : State := afterCore s (retire c.e (c.k.pc + (if 32 ≤ c.x.maj then 8 else 4)) d)

/-- The same for one that changes the kernel's registers and scratch alone. -/
def Writes (s : State) (c : KCtx) (f : Kern → Kern) : State := Retires s c (setKern c.e f (coreOf s))

/-- The state after a trap. -/
def Traps (s : State) (c : KCtx) (code : Nat) : State := afterCore s ((coreOf s).onHw (kernelTrap c.e c.j c.q c.k.pc code))

/-- Bit 0 of the guard is set and none of the scalar sources carries a tag. -/
def Runs (c : KCtx) (srcs : List Nat) : Prop := bitAt c.guard 0 = true ∧ srcs.any c.k.staged = false

/-- A lane is enabled and none of the sources carries a tag. -/
def RunsLanes (c : KCtx) (w : Nat) (srcs vsrcs : List Nat) : Prop := c.lanes w ≠ [] ∧ srcs.any c.k.staged = false ∧ vsrcs.any c.k.vtagged = false

/-- Enabled lanes of a register take values; with every lane enabled it loses its tag, else the tag stays. -/
def lanesOf (c : KCtx) (w : Nat) (f : Nat → Nat) (k : Kern) : Kern :=
  k.setV c.x.rd (putLanes (k.vreg c.x.rd) w (c.lanes w) f) (if (c.lanes w).length = 512 / w then false else k.vtagged c.x.rd)

/-- RD takes f(RA, RB or the immediate) on 64 bits, or lane by lane in major opcode 4. -/
def IntegerForms (mk : Nat → Instr) (op : KOp) (f : (w a b : Nat) → Nat) : Prop :=
  ∀ (s : State) (c : KCtx), (mk c.e).wf = true → Fetches s c → c.x.op = op →
    (c.x.maj ≠ 4 → Runs c (c.x.ra :: c.srcB) →
      exec (mk c.e) s = .next (Writes s c (fun k => k.setS c.x.rd (f 64 (c.k.sreg c.x.ra) c.opB) false))) ∧
    (c.x.maj = 4 → RunsLanes c c.laneW [] [c.x.ra, c.x.rb] →
      exec (mk c.e) s = .next (Writes s c
        (lanesOf c c.laneW (fun i => f c.laneW (laneAt (c.k.vreg c.x.ra) c.laneW i) (laneAt (c.k.vreg c.x.rb) c.laneW i)))))

/-- Predicate RD takes all ones or all zeros, or in major opcode 6 each lane's bit or pair of bits. -/
def CompareForms (mk : Nat → Instr) (op : KOp) (f : (w a b : Nat) → Bool) : Prop :=
  ∀ (s : State) (c : KCtx), (mk c.e).wf = true → Fetches s c → c.x.op = op →
    (c.x.maj ≠ 6 → Runs c (c.x.ra :: c.srcB) →
      exec (mk c.e) s = .next (Writes s c (fun k => k.setP c.x.rd (if f 64 (c.k.sreg c.x.ra) c.opB then 0xFFFF else 0)))) ∧
    (c.x.maj = 6 → RunsLanes c c.laneW [] [c.x.ra, c.x.rb] →
      (let pat := fun (i : Nat) => if c.laneW = 64 then 3 * 4 ^ i else 2 ^ i
       let g := ((c.lanes c.laneW).map pat).sum
       let v := (((c.lanes c.laneW).filter (fun i => f c.laneW (laneAt (c.k.vreg c.x.ra) c.laneW i) (laneAt (c.k.vreg c.x.rb) c.laneW i))).map pat).sum
       exec (mk c.e) s = .next (Writes s c (fun k => k.setP c.x.rd ((k.preg c.x.rd - (k.preg c.x.rd &&& g)) + (v &&& g))))))

/-- RD takes f(RD, RA, RB) in its format, on scalars or lane by lane in major opcode 5; `d` and `b` tell which of RD and RB are read. -/
def FloatForms (mk : Nat → Instr) (op : KOp) (d b : Bool) (f : FpFmt → (d a b : Nat) → Nat) : Prop :=
  ∀ (s : State) (c : KCtx), (mk c.e).wf = true → Fetches s c → c.x.op = op →
    (let w := c.fmt.width
     let srcs := c.x.ra :: (if b then [c.x.rb] else []) ++ (if d then [c.x.rd] else [])
     (c.x.maj ≠ 5 → Runs c srcs →
       exec (mk c.e) s = .next (Writes s c (fun k =>
         k.setS c.x.rd (f c.fmt (c.k.sreg c.x.rd % 2 ^ w) (c.k.sreg c.x.ra % 2 ^ w) (c.k.sreg c.x.rb % 2 ^ w)) false))) ∧
     (c.x.maj = 5 → RunsLanes c w [] srcs →
       exec (mk c.e) s = .next (Writes s c (lanesOf c w (fun i =>
         f c.fmt (laneAt (c.k.vreg c.x.rd) w i) (laneAt (c.k.vreg c.x.ra) w i) (laneAt (c.k.vreg c.x.rb) w i))))))

/-- Scalar RD takes the pairwise reduction of the enabled lanes of RA, as integers or floats. -/
def ReduceForms (mk : Nat → Instr) (op : KOp) (fi : (w a b : Nat) → Nat) (ff : FpFmt → (a b : Nat) → Nat) (minmax : Bool) : Prop :=
  ∀ (s : State) (c : KCtx), (mk c.e).wf = true → Fetches s c → c.x.op = op → RunsLanes c c.laneW [] [c.x.ra] →
    (let w := c.laneW
     let ls := (List.range (512 / w)).map (fun i => if (c.lanes w).contains i then some (laneAt (c.k.vreg c.x.ra) w i) else none)
     let v := (treeFold (if bitAt c.x.fn 5 then ff (fmtOf w) else fi w) 5 ls).getD 0
     exec (mk c.e) s = .next (Writes s c (fun k =>
       k.setS c.x.rd (if bitAt c.x.fn 5 && minmax && (fmtOf w).isNan v then (fmtOf w).defaultNan else v) false)))

/-- Bits of predicate RD that the guard selects take those of a value. -/
def PredicateForms (mk : Nat → Instr) (op : KOp) (srcs : KCtx → List Nat) (v : KCtx → Nat) : Prop :=
  ∀ (s : State) (c : KCtx), (mk c.e).wf = true → Fetches s c → c.x.op = op → c.guard ≠ 0 → (srcs c).any c.k.staged = false →
    exec (mk c.e) s = .next (Writes s c (fun k => k.setP c.x.rd ((k.preg c.x.rd - (k.preg c.x.rd &&& c.guard)) + (v c &&& c.guard))))

/-- Scalar RD takes a value, without a tag. -/
def ScalarForms (mk : Nat → Instr) (op : KOp) (srcs : KCtx → List Nat) (v : KCtx → Nat) : Prop :=
  ∀ (s : State) (c : KCtx), (mk c.e).wf = true → Fetches s c → c.x.op = op → Runs c (srcs c) →
    exec (mk c.e) s = .next (Writes s c (fun k => k.setS c.x.rd (v c) false))

/-- Enabled lanes of vector RD take a value. -/
def LaneForms (mk : Nat → Instr) (op : KOp) (w : KCtx → Nat) (srcs : KCtx → List Nat) (v : KCtx → Nat → Nat) : Prop :=
  ∀ (s : State) (c : KCtx), (mk c.e).wf = true → Fetches s c → c.x.op = op → RunsLanes c (w c) (srcs c) [] →
    exec (mk c.e) s = .next (Writes s c (lanesOf c (w c) (v c)))

/-- A safe run: the command under way is well formed, so the step ends in a next state. -/
def Safe (s : State) : Prop := ∃ t, step s = .next t

end Sys2Proof.Machine
end

