-- ==== Sys2Proof/Certificates/Slice0/Obligations.lean ====
section
/-!
DEFINITION. What is claimed of the stack, one definition for each obligation.
-/
open Sys2Proof Sys2Proof.Machine

/-! The link: bring-up. -/

/-- Each bring-up event completes with the effect chapter 03 gives it (R73 to R86): sensing that two passes agree on enters PATTERN
and sends HELLO, at 28 GBd, proposing its rate; HELLO fixes the lower of the two rates (the larger code) and starts the taps; DONE and the
stack's own verdict on reversal, inversion and trained values are kept and may enter LOCK; a limit that runs out fails the attempt,
drops the unlocked lanesets, or takes one withdrawn laneset out of service; a block is kept and may complete EXCHANGE, or fails the
attempt; the pause ends in a new DETECT at the start rate.
Where the spec is silent it takes the model's choices of assumptions 17, 122, 123, 127, 129. -/
def Obligations.BringUpEventsComplete : Prop :=
  (∀ (s : State) (up dn : List Nat) (t : Nat), (Instr.terminationSense up dn).wf = true →
    awake s.hw = true → linkState s.hw = 0 → s.hw.test.bistLinkDown = false → obj s.hw 0x1002 1 ≠ 3 →
    s.hw.link.up.firstSense = some t → s.hw.link.up.sense = some (up, dn) →
    (∃ m ∈ up, 8 ≤ maskCount m) → (∃ m ∈ dn, 8 ≤ maskCount m) →
    exec (.terminationSense up dn) s = .next (after s
      (let h := { begin s.hw with link := { s.hw.link with up := { s.hw.link.up with sense := some (up, dn), firstSense := some t } } }
       let h := (List.range 144).foldl (fun h n => setLane h n { lane h n with present := bitAt (up.getD (n / 9) 0) (n % 9) }) h
       let h := setObj { setObj h 0x2200 2 0 1 with react := { h.react with link := true } } 0x2000 1 0 2
       (List.range 8).foldl (fun h k => sendBc h (16 + k) (.hello (ratesOf h) s.hw.link.up.proposed)) h))) ∧
  (∀ (s : State) (ls rates rate : Nat), (Instr.hello ls rates rate).wf = true →
    awake s.hw = true → linkState s.hw = 1 → s.hw.link.up.rate = none →
    exec (.hello ls rates rate) s = .next (after s
      (let r := max rate s.hw.link.up.proposed
       let h := { begin s.hw with link := { s.hw.link with up := { s.hw.link.up with rate := some r } } }
       (span 144 72).foldl askTaps ((List.range 144).foldl startTaps (setObj h 0x2000 1 0 r))))) ∧
  (∀ (s : State) (ls mask : Nat), (Instr.done ls mask).wf = true → awake s.hw = true → inPattern s.hw ls = true →
    exec (.done ls mask) s = .next (after s
      (tryLock (setLaneset (begin s.hw) ls { laneset s.hw ls with doneRecv := some mask }) ls))) ∧
  (∀ (s : State) (ls mask : Nat) (seeds : List Nat) (markers : List (List Int)) (trained : List Trained),
    (Instr.doneSend ls mask seeds trained markers).wf = true → awake s.hw = true → inPattern s.hw ls = true →
    exec (.doneSend ls mask seeds trained markers) s = .next (after s
      (let h := setObj (begin s.hw) 0x2204 ls 0 (bit (foundReversed seeds))
       let input := fun (i : Nat) => if foundReversed seeds = true then 8 - i else i
       let h := (List.range 9).foldl (fun h i => setObj h 0x2203 (laneOf ls i) 0 (bit (markerInverted (markers.getD (input i) [])))) h
       let h := trained.foldl (fun h t => storeTrained h ls t) h
       let h := sendBc (setLaneset h ls { laneset h ls with doneSent := some mask }) ls (.done mask)
       tryLock (showAdapt h ls) ls))) ∧
  (∀ s : State, awake s.hw = true → linkState s.hw = 1 → exec (.patternTimeout none) s = .next (after s (failAttempt (begin s.hw)))) ∧
  (∀ (s : State) (ls : Nat), (Instr.patternTimeout (some ls)).wf = true → awake s.hw = true → inPhase s.hw ls .pattern = true →
    exec (.patternTimeout (some ls)) s = .next (after s (outOfService (begin s.hw) ls))) ∧
  (∀ (s : State) (ln : Nat) (freq : Int) (snr : Nat), (Instr.pilotLock ln freq snr).wf = true → awake s.hw = true →
    exec (.pilotLock ln freq snr) s = .next (after s
      (let h := setObj (setObj (begin s.hw) 0x2116 ln 0 (ofSigned 32 freq)) 0x2117 ln 0 snr
       showAdapt (setLane h ln { lane s.hw ln with locked := true, lost := false, failed := false }) (ln / 9)))) ∧
  (∀ (s : State) (ls : Nat), (Instr.lanesetLocked ls).wf = true → awake s.hw = true → inLock s.hw ls = true →
    16 ≤ (laneset s.hw ls).goodCw → ((laneset s.hw ls).map.all fun i => (lane s.hw (laneOf ls i)).locked) = true →
    exec (.lanesetLocked ls) s = .next (after s
      (match (laneset s.hw ls).wd with
       | some w =>
         let h := setLaneset (begin s.hw) ls { laneset s.hw ls with locked := true, wd := some { w with phase := .exchange }, block := none, blockRun := 0 }
         let j := 2 * (ls - 16)
         sendBlock (portsCode h) (sendBlock (portsCode h) h j) j
       | none => tryExchange (setLaneset (begin s.hw) ls { laneset s.hw ls with locked := true })))) ∧
  (∀ s : State, awake s.hw = true → linkState s.hw = 2 →
    exec (.lockTimeout none) s = .next (after s
      (let h := (span 16 8).foldl (fun h k => if inService h k && !(laneset h k).locked then moveLaneset h k 2 else h) (begin s.hw)
       if (span 16 8).any (inService h) then tryExchange h else failAttempt h))) ∧
  (∀ (s : State) (ls : Nat), (Instr.lockTimeout (some ls)).wf = true → awake s.hw = true → inPhase s.hw ls .lock = true →
    (laneset s.hw ls).locked = false → exec (.lockTimeout (some ls)) s = .next (after s (outOfService (begin s.hw) ls))) ∧
  (∀ (s : State) (carrier : Nat) (block : BitVec 512), (Instr.capabilityBlock carrier block).wf = true → awake s.hw = true →
    linkState s.hw = 3 →
    (let b := blockFields block.toNat
     let ls := field b 29 26
     let k := setLaneset (begin s.hw) carrier { laneset s.hw carrier with capSeen := true }
     bitAt b 24 = true → bitAt b 25 = false → (laneset k ls).wd = none →
     (field b 15 8 ≠ 1 ∨ field b 36 35 ≠ attemptRate s.hw ∨ s.hw.link.up.hostWide.any (· != hostWide b) = true →
       exec (.capabilityBlock carrier block) s = .next (after s (failAttempt k))) ∧
     (field b 15 8 = 1 → field b 36 35 = attemptRate s.hw → s.hw.link.up.hostWide.any (· != hostWide b) = false →
       exec (.capabilityBlock carrier block) s = .next (after s
         (let run := if (laneset k ls).block = some b then (laneset k ls).blockRun + 1 else 1
          let h := { k with link := { k.link with up := { k.link.up with hostWide := some (hostWide b) } } }
          let h := setLaneset h ls { laneset k ls with block := some b, blockRun := run }
          let h := if 2 ≤ run ∧ s.hw.link.up.echoed = false ∧ field b 38 37 ≠ 3 then
              let h := { h with link := { h.link with up := { h.link.up with echoed := true } } }
              sendBlocks (sendBlocks h (field b 38 37)) (field b 38 37)
            else h
          if exchangeDone h = true then enterActive h (hostWide b) else h))))) ∧
  (∀ s : State, awake s.hw = true → linkState s.hw = 3 → exec (.exchangeTimeout none) s = .next (after s (failAttempt (begin s.hw)))) ∧
  (∀ (s : State) (ls : Nat), (Instr.exchangeTimeout (some ls)).wf = true → awake s.hw = true → inPhase s.hw ls .exchange = true →
    exec (.exchangeTimeout (some ls)) s = .next (after s (outOfService (begin s.hw) ls))) ∧
  (∀ s : State, awake s.hw = true → linkState s.hw = 5 →
    exec .linkDownPauseEnd s = .next (after s (startDetect (begin s.hw) (startRate s.hw))))

/-- A failed attempt is counted in 0x2200:04 and proposes one rate lower, and an attempt that failed at 28 GBd waits in the pause (R78, R86). -/
def Obligations.FailedAttemptStepsDown : Prop :=
  ∀ h : Hw,
    (attemptRate h < 2 → linkState (failAttempt h) = 0 ∧ (failAttempt h).link.up.proposed = attemptRate h + 1 ∧
      obj (failAttempt h) 0x2200 4 = satAdd (objWidth 0x2200 4) (obj h 0x2200 4) 1 ∧
      obj (failAttempt h) 0x2200 3 = satAdd (objWidth 0x2200 3) (obj h 0x2200 3) 1) ∧
    (attemptRate h = 2 → failAttempt h = raise (setLinkState (bump h 0x2200 4) 5) Src.linkDown)

/-! The link: taps. -/

/-- Back-channel requests complete (R79): a request of the far end is checked, applied or refused, and answered by REPLY on the
laneset that it is about; a REPLY to an outstanding request is kept for its lane, and the stack may ask again.
Where the spec is silent it takes the model's choices of assumptions 16, 122, 123. -/
def Obligations.TapRequestsComplete : Prop :=
  (∀ (s : State) (ls pos n : Nat), (Instr.setPreset ls pos n).wf = true → awake s.hw = true → inPattern s.hw ls = true →
    exec (.setPreset ls pos n) s = .next (after s
      (let r := tryTaps (begin s.hw) (laneOf ls pos) (preset n)
       sendBc r.1 ls (.reply pos r.2)))) ∧
  (∀ (s : State) (ls pos : Nat) (cm2 cm1 c0 cp1 cp2 : Int), (Instr.setTaps ls pos cm2 cm1 c0 cp1 cp2).wf = true →
    awake s.hw = true → inPattern s.hw ls = true →
    exec (.setTaps ls pos cm2 cm1 c0 cp1 cp2) s = .next (after s
      (let r := tryTaps (begin s.hw) (laneOf ls pos) [cm2, cm1, c0, cp1, cp2]
       sendBc r.1 ls (.reply pos r.2)))) ∧
  (∀ (s : State) (ls pos status : Nat), (Instr.reply ls pos status).wf = true → awake s.hw = true → inPattern s.hw ls = true →
    (lane s.hw (laneOf ls pos)).asked = true →
    exec (.reply ls pos status) s = .next (after s
      (askTaps (setLane (begin s.hw) (laneOf ls pos) { lane s.hw (laneOf ls pos) with asked := false, reply := some status }) (laneOf ls pos))))

/-- A tap set is driven on an upstream lane exactly when it is within range and passes every point of the mask; a refused set
leaves the active one unchanged, records its status and lane and is counted (R41, R45). Every other lane keeps its taps. -/
def Obligations.OnlyLegalTapsAreDriven : Prop :=
  ∀ (h : Hw) (ln : Nat) (c : List Int), ln < 144 →
    (tapsInRange c = true → failingPoint c (laneRate h) (maskWords h) = none →
      tryTaps h ln c = (setObj h 0x2100 ln 0 (tapWord c), 0)) ∧
    (tapsInRange c = false → (tryTaps h ln c).2 = 1 ∧ obj (tryTaps h ln c).1 0x2011 1 = 1) ∧
    (∀ n, tapsInRange c = true → failingPoint c (laneRate h) (maskWords h) = some n →
      (tryTaps h ln c).2 = 2 ∧ obj (tryTaps h ln c).1 0x2011 1 = 2 ∧ obj (tryTaps h ln c).1 0x2011 3 = n) ∧
    ((tryTaps h ln c).2 ≠ 0 → obj (tryTaps h ln c).1 0x2011 2 = ln ∧
      obj (tryTaps h ln c).1 0x2011 4 = satAdd 32 (obj h 0x2011 4) 1 ∧ (∀ n, obj (tryTaps h ln c).1 0x2100 n = obj h 0x2100 n)) ∧
    (∀ n, n < 144 → n ≠ ln → obj (tryTaps h ln c).1 0x2100 n = obj h 0x2100 n)

/-! The link: lanes and lanesets. -/

/-- Lane condition events complete (R49, R52, R56, R70, R72, R89): a converged or failed codeword is counted; lost pilots are counted,
raise LANE_LOCK_LOST and fail the lane; pairing errors, a window over its threshold and a missing lock after wake fail the lane; an ADC
calibration sets offset, gain and skew of the running sub-converters; the end of a drift hold lets the lane adapt again.
Where the spec is silent it takes the model's choices of assumptions 121, 124, 125, 130. -/
def Obligations.LaneConditionEventsComplete : Prop :=
  (∀ (s : State) (ls : Nat) (frames : List (List Int)) (decoded : BitVec 2304) (iters : Nat), (Instr.codewordDecode ls frames decoded iters).wf = true →
    exec (.codewordDecode ls frames decoded iters) s = .next (after s (codewordDecode ls frames decoded iters (begin s.hw)))) ∧
  (∀ (s : State) (ln : Nat), (Instr.laneLockLost ln).wf = true → heard s.hw ln = true →
    exec (.laneLockLost ln) s = .next (after s
      (let h := raise (bump (setLane (begin s.hw) ln { lane s.hw ln with lost := true }) 0x2118 ln) Src.laneLockLost
       let h := linkEvent h 2 (ln / 9)
       let h := if judged h ln = true then laneFailed h ln else showAdapt h (ln / 9)
       if allLost h then startDetect h (startRate h) else h))) ∧
  (∀ (s : State) (ln : Nat), (Instr.lanePairingFailure ln).wf = true → judged s.hw ln = true → 4 ≤ (lane s.hw ln).pairRun →
    exec (.lanePairingFailure ln) s = .next (after s (laneFailed (begin s.hw) ln))) ∧
  (∀ (s : State) (ln : Nat), (Instr.laneWindowEnd ln).wf = true → judged s.hw ln = true →
    exec (.laneWindowEnd ln) s = .next (after s
      (let n := (lane s.hw ln).windowBits
       let h := setLane (begin s.hw) ln { lane s.hw ln with windowBits := 0 }
       if n ≥ obj h 0x2220 2 then laneFailed h ln else if n ≥ obj h 0x2220 1 then askRepair h (ln / 9) (ln % 9) false else h))) ∧
  (∀ (s : State) (ln : Nat), (Instr.wakeLockTimeout ln).wf = true → judged s.hw ln = true → inService s.hw (ln / 9) = true →
    (stripeAt (laneset s.hw (ln / 9)) (ln % 9)).isSome = true → (lane s.hw ln).locked = false →
    exec (.wakeLockTimeout ln) s = .next (after s (laneFailed (begin s.hw) ln))) ∧
  (∀ (s : State) (ln : Nat) (cal : List (Int × Int × Int)), (Instr.adcCalibration ln cal).wf = true → awake s.hw = true →
    exec (.adcCalibration ln cal) s = .next (after s
      (setLane (begin s.hw) ln { lane s.hw ln with adcCal := (List.range 8).map (fun i =>
        if i < subConverters s.hw then cal.getD i (0, 0, 0) else (lane s.hw ln).adcCal.getD i (0, 0, 0)) }))) ∧
  (∀ (s : State) (ln : Nat), (Instr.driftHoldEnd ln).wf = true → (lane s.hw ln).holdEnd.isSome = true →
    exec (.driftHoldEnd ln) s = .next (after s
      (showAdapt (setLane (begin s.hw) ln { lane s.hw ln with holdEnd := none, thawed := some (now s.hw) }) (ln / 9))))

/-- What a codeword or a flit says comes back from its lane frames (R36 to R39, R66 to R68, R75, R77): the eight shares, with or without
precoding, give the code bits again; a frame has 146 symbols, all of them PAM4 levels, and shows its parity by its pilots; scrambling
with the same window twice gives the information bits; a training frame has 1,022 symbols; a back-channel message is read again from
the bytes sent. A codeword of a laneset in service is counted once: as converged in 0x2210 when every check holds within the iteration
limit, else as failed in 0x2211 (R64, R70); stored lines, engines and placement are unchanged. -/
def Obligations.CodewordIsCountedOnce : Prop :=
  (∀ (even p : Bool) (w : Nat), w < 2 ^ 2304 →
    joinShares ((List.range 8).map (fun s => frameShare p (shareFrame even p w s))) = w) ∧
  (∀ (even p : Bool) (w s : Nat), (shareFrame even p w s).length = 146 ∧ pilotParity (shareFrame even p w s) = some even ∧
    (∀ l ∈ shareFrame even p w s, l ∈ [-3, -1, 1, 3])) ∧
  (∀ win info : Nat, scramble win (scramble win info) = info) ∧
  (∀ (pos byte : Nat) (start : Bool), (trainingFrame pos start byte).length = 1022) ∧
  (∀ (idx : Nat) (m : BcMsg), idx < 16 → m.wf = true → parseBc (bcBytes idx m) = some m) ∧
  (∀ (h : Hw) (ls : Nat) (frames : List (List Int)) (decoded : BitVec 2304) (iters : Nat), ls < 24 → awake h = true → inService h ls = true →
    linkState h = 4 → (laneset h ls).quiet = false →
    let t := codewordDecode ls frames decoded iters h
    (ldpcOk decoded.toNat = true → iters ≤ obj h 0x2215 0 →
      obj t 0x2210 ls = satAdd (objWidth 0x2210 ls) (obj h 0x2210 ls) 1 ∧ obj t 0x2211 ls = obj h 0x2211 ls) ∧
    (¬(ldpcOk decoded.toNat = true ∧ iters ≤ obj h 0x2215 0) →
      obj t 0x2211 ls = satAdd (objWidth 0x2211 ls) (obj h 0x2211 ls) 1 ∧ obj t 0x2210 ls = obj h 0x2210 ls) ∧
    t.place = h.place ∧ t.jobs = h.jobs ∧ t.chans = h.chans)

/-- The phases of a hitless repair complete (Table 3.8, R59, R91): REPAIR_REQ for the idle spare starts the mirror and is answered by
MIRROR_ON; MIRROR_ON starts the spare's training; the trained spare names a switch 64 codewords ahead; SWITCH is noted; at the named
codeword the stripe lane moves to the spare, the old position becomes the spare, and REPAIR_DONE is sent; REPAIR_DONE does the same
for an upstream laneset; the retrained lane adapts again, ends the repair and starts the next request. A parked laneset is woken by
REPAIR_REQ (R136). -/
def Obligations.RepairPhasesComplete : Prop :=
  (∀ (s : State) (ls stripe pos : Nat), (Instr.repairReq ls stripe pos).wf = true → awake s.hw = true →
    (let h := fillIdle (wakeLaneset ls (begin s.hw)) ls
     let l := laneset h ls
     inService h ls = true → l.mirror = none → l.spare = some pos →
     exec (.repairReq ls stripe pos) s = .next (after s
       (sendCtl (setLaneset h ls { l with mirror := some { stripe := stripe, oldPos := l.map.getD stripe 0, spare := pos, phase := .training } })
         (.mirrorOn ls stripe pos l.cwCount))))) ∧
  (∀ (s : State) (ls stripe pos count : Nat) (m : Mirror), (Instr.mirrorOn ls stripe pos count).wf = true → awake s.hw = true →
    (laneset s.hw ls).mirror = some m → m.phase = .asked → m.stripe = stripe →
    exec (.mirrorOn ls stripe pos count) s = .next (after s
      (setLaneset (begin s.hw) ls { laneset s.hw ls with mirror := some { m with phase := .training } }))) ∧
  (∀ (s : State) (ls : Nat) (t : Trained) (m : Mirror), (Instr.spareTrained ls t).wf = true → awake s.hw = true →
    (laneset s.hw ls).mirror = some m → m.phase = .training → t.pos = m.spare →
    exec (.spareTrained ls t) s = .next (after s
      (let count := ((laneset s.hw ls).cwCount + 64) % 4294967296
       let h := storeTrained (begin s.hw) ls t
       sendCtl (setLaneset h ls { laneset h ls with mirror := some { m with phase := .switching, switchAt := count } })
         (.switch ls m.stripe m.spare count)))) ∧
  (∀ (s : State) (ls stripe pos count : Nat) (m : Mirror), (Instr.switch ls stripe pos count).wf = true → awake s.hw = true →
    (laneset s.hw ls).mirror = some m → m.phase = .training → m.stripe = stripe →
    exec (.switch ls stripe pos count) s = .next (after s
      (setLaneset (begin s.hw) ls { laneset s.hw ls with mirror := some { m with phase := .switching, switchAt := count } }))) ∧
  (∀ (s : State) (ls : Nat) (m : Mirror), (Instr.spareSwitchOver ls).wf = true → awake s.hw = true →
    (laneset s.hw ls).mirror = some m → m.phase = .switching →
    exec (.spareSwitchOver ls) s = .next (after s
      (let l := { laneset s.hw ls with map := (laneset s.hw ls).map.set m.stripe m.spare, spare := some m.oldPos, mirror := some { m with phase := .switched } }
       sendCtl (showMap (bump (setLaneset (begin s.hw) ls l) 0x2220 3) ls) (.repairDone ls m.stripe m.oldPos)))) ∧
  (∀ (s : State) (ls stripe pos : Nat) (m : Mirror), (Instr.repairDone ls stripe pos).wf = true → awake s.hw = true →
    (laneset s.hw ls).mirror = some m → m.phase = .switching → m.stripe = stripe →
    exec (.repairDone ls stripe pos) s = .next (after s
      (showMap (bump (setLaneset (begin s.hw) ls
        { laneset s.hw ls with map := (laneset s.hw ls).map.set m.stripe m.spare, spare := some m.oldPos, mirror := none }) 0x2220 3) ls))) ∧
  (∀ (s : State) (ls : Nat) (t : Trained) (m : Mirror), (Instr.backgroundRetrainComplete ls t).wf = true → awake s.hw = true →
    (laneset s.hw ls).mirror = some m → m.phase = .switched →
    exec (.backgroundRetrainComplete ls t) s = .next (after s
      (let n := laneOf ls m.oldPos
       let h := storeTrained (begin s.hw) ls { t with pos := m.oldPos }
       let h := if m.drift then bump h 0x2115 n else h
       let h := setLane h n { lane h n with retrainAsked := false, thawed := some (now h) }
       showAdapt (nextRepair (setLaneset h ls { laneset s.hw ls with mirror := none }) ls) ls)))

/-- Withdrawal, lane test and parking events complete (R87, R88, R93, R94, R97 to R104): a laneset leaves and re-enters service, a test runs and
ends, lanesets are called, parked, and brought back. -/
def Obligations.LanesetEventsComplete : Prop :=
  (∀ (s : State) (ls : Nat) (failed : Option Nat), (Instr.lanesetWithdrawal ls failed).wf = true → awake s.hw = true →
    inService s.hw ls = true → linkActive s.hw = true →
    exec (.lanesetWithdrawal ls failed) s = .next (after s
      (let h := pullOut (begin s.hw) ls 1 { endMirror ls (laneset s.hw ls) with
         wd := some { failedPos := failed, spareMapped := false, phase := .pattern, retrain := [] } }
       (span (9 * ls) 9).foldl (if ls < 16 then startTaps else askTaps) h))) ∧
  (∀ (s : State) (ls : Nat) (msg : BcMsg), (Instr.train ls msg).wf = true → awake s.hw = true →
    exec (.train ls msg) s = .next (after s
      (let h := if ls < 16 then wakeLaneset ls (begin s.hw) else begin s.hw
       let h := if inService h ls = true then withdraw h ls none [] else h
       match msg with
       | .setPreset pos n => requestTaps ls pos (preset n) h
       | .setTaps pos cm2 cm1 c0 cp1 cp2 => requestTaps ls pos [cm2, cm1, c0, cp1, cp2] h
       | .reply pos st => takeReply ls pos st h
       | .done mask => if ls < 16 then takeDone ls mask h else h
       | _ => h))) ∧
  (∀ (s : State) (ls : Nat), (Instr.rejoin ls).wf = true → awake s.hw = true → inPhase s.hw ls .exchange = true →
    16 ≤ ls ∨ 2 ≤ (laneset s.hw ls).blockRun →
    exec (.rejoin ls) s = .next (after s (nextRepair (rejoin (begin s.hw) ls) ls))) ∧
  (∀ (s : State) (ls pattern : Nat), (Instr.testStart ls pattern).wf = true → awake s.hw = true → linkActive s.hw = true → inService s.hw ls = true →
    exec (.testStart ls pattern) s = .next (after s
      (emit (pullOut (begin s.hw) ls 4 { endMirror ls (laneset s.hw ls) with wd := none, test := pattern }) (.pattern ls pattern)))) ∧
  (∀ (s : State) (ls : Nat), (Instr.testEnd ls).wf = true → awake s.hw = true → lsState s.hw ls = 4 →
    exec (.testEnd ls) s = .next (after s
      (let h := toLock (setLaneset (moveLaneset (begin s.hw) ls 1) ls { laneset s.hw ls with
          test := 0, wd := some { failedPos := none, spareMapped := false, phase := .lock } }) ls
       if ls < 16 then h else sendCtl h (.testEnd ls)))) ∧
  (∀ (s : State) (ln bits errors : Nat), (Instr.checkerSyncLoss ln bits errors).wf = true → awake s.hw = true → (lane s.hw ln).checkerSync = true →
    exec (.checkerSyncLoss ln bits errors) s = .next (after s
      (let h := setObj (setObj (begin s.hw) 0x2231 ln 0 (min (2 ^ 48 - 1) (obj s.hw 0x2231 ln + bits))) 0x2232 ln 0
          (min (2 ^ 48 - 1) (obj s.hw 0x2232 ln + errors))
       setLane h ln { lane s.hw ln with checkerSync := false }))) ∧
  (∀ (s : State) (ls : Nat), (Instr.quietIdleEnter ls).wf = true → awake s.hw = true → linkActive s.hw = true → inService s.hw ls = true →
    (laneset s.hw ls).quiet = false →
    16 ≤ ls ∨ (flag s.hw 0x3030 2 = true ∧ (port s.hw (portOf s.hw ls)).wait = [] ∧ (port s.hw (portOf s.hw ls)).replay = []) →
    exec (.quietIdleEnter ls) s = .next (after s
      (let h := if ls < 16 then fillIdle (begin s.hw) ls else begin s.hw
       showAdapt (bump (setLaneset h ls { laneset h ls with quiet := true, replayWait := false }) 0x3032 ls) ls))) ∧
  (∀ (s : State) (ls : Nat), (Instr.quietIdleExit ls).wf = true → awake s.hw = true → (laneset s.hw ls).quiet = true →
    exec (.quietIdleExit ls) s = .next (after s
      (showAdapt (setLaneset (begin s.hw) ls { laneset s.hw ls with quiet := false, parity := true }) ls))) ∧
  (∀ (s : State) (ls : Nat), (Instr.lanesetPark ls).wf = true → awake s.hw = true → mayPark s.hw ls = true → parkCalled s.hw ls = true →
    exec (.lanesetPark ls) s = .next (after s
      (let h := setLaneset (begin s.hw) ls { laneset s.hw ls with parkWait := true }
       if obj s.hw 0x7000 1 = 1 ∧ ls ∉ s.hw.power.parkedFor ∧ .park ls ∉ s.hw.power.actions then
         setPower h { h.power with parkedFor := h.power.parkedFor ++ [ls] }
       else h))) ∧
  (∀ (s : State) (ls : Nat), (Instr.parkFlitsSend ls).wf = true → awake s.hw = true → inService s.hw ls = true →
    (laneset s.hw ls).parkWait = true → sleepParks s.hw = true ∨ (mayPark s.hw ls = true ∧ parkCalled s.hw ls = true) → (laneset s.hw ls).retry = [] →
    exec (.parkFlitsSend ls) s = .next (after s
      (bump (moveLaneset (sendFlit (sendFlit (setLaneset (begin s.hw) ls { laneset s.hw ls with parkWait := false }) ls .park) ls .park) ls 3) 0x3033 ls))) ∧
  (∀ (s : State) (ls : Nat), (Instr.parkFlit ls).wf = true → awake s.hw = true → inService s.hw ls = true →
    exec (.parkFlit ls) s = .next (after s
      (bump (moveLaneset (setLaneset (begin s.hw) ls { laneset s.hw ls with parkSeen := true, replayWait := false, wakeFirst := none }) ls 3) 0x3033 ls))) ∧
  (∀ (s : State) (ls : Nat), (Instr.lanesetWake ls).wf = true → awake s.hw = true → lsState s.hw ls = 3 →
    exec (.lanesetWake ls) s = .next (after s
      (let h := bump (moveLaneset (begin s.hw) ls 0) 0x2240 ls
       let h := startStream (setLaneset h ls { laneset h ls with wakeSent := true, parkWait := false }) ls
       flushPort (sendWake h ls) (portOf h ls)))) ∧
  (∀ (s : State) (ls : Nat), (Instr.wakeAckTimeout ls).wf = true → awake s.hw = true → (laneset s.hw ls).wakeSent = true →
    exec (.wakeAckTimeout ls) s = .next (after s (sendWake (begin s.hw) ls))) ∧
  (∀ (s : State) (ln run last : Nat), (Instr.wakeDetectorFire ln run last).wf = true → s.hw.mode = .run → lsState s.hw (ln / 9) = 3 →
    exec (.wakeDetectorFire ln run last) s = .next (after s
      (let h := if (lane s.hw ln).window.isSome = true then bump (begin s.hw) 0x2242 (ln / 9) else begin s.hw
       setLane h ln { lane s.hw ln with window := some (last + 96) }))) ∧
  (∀ (s : State) (ln : Nat), (Instr.acquisitionWindowClose ln).wf = true → (lane s.hw ln).window.isSome = true →
    exec (.acquisitionWindowClose ln) s = .next (after s
      (bump (setLane (begin s.hw) ln { lane s.hw ln with window := none }) 0x2241 (ln / 9)))) ∧
  (∀ (s : State) (ln last e : Nat) (signs : List Bool), (Instr.wakeWordRecognised ln signs last).wf = true → s.hw.mode = .run →
    lsState s.hw (ln / 9) = 3 → wakeRecognised signs = true → (stripeAt (laneset s.hw (ln / 9)) (ln % 9)).isSome = true →
    (lane s.hw ln).window = some e → last ≤ e →
    exec (.wakeWordRecognised ln signs last) s = .next (after s
      (let ls := ln / 9
       let h := wakeSpan (begin s.hw) ls last
       let h := setLane h ln { lane h ln with window := none, wakeSeen := true }
       if ((laneset s.hw ls).map.filter (fun i => (lane h (laneOf ls i)).wakeSeen)).length < 5 then h else wakeEvent 4 ls (wakeReceived h ls))))

/-! Flits, replay and link control. -/

/-- A flit that fails its CRC or did not converge is discarded, counted in 0x2214 and answered by a REPLAY_REQ; an intact one updates
its lane, applies its ACK and is handled by its type, whether it is given whole or made by the last pair of codewords; REPLAY_REQ
resends what was sent after LAST_SEQ; an unanswered REPLAY_REQ is repeated; the limit of failed flits withdraws the laneset; a checker
synchronises; REFUSE ends a pattern test (R66, R87, R88, R110, R132 to R134).
Where the spec is silent it takes the model's choices of assumptions 53, 131, 132, 145. -/
def Obligations.FlitEventsComplete : Prop :=
  (∀ (s : State) (ls : Nat) (given : Option (List Byte × Bool)) (updates : List LaneUpdate) (began : Nat) (bytes : List Byte) (converged : Bool),
    (Instr.flitReceive ls given updates began).wf = true → awake s.hw = true → linkActive s.hw = true → inService s.hw ls = true →
    (port s.hw (portOf s.hw ls)).down = false → (arrivedFlit (laneset s.hw ls) given).2 = some (converged, bytes) → bytes.all (· == 0#8) = false →
    (let l := (arrivedFlit (laneset s.hw ls) given).1
     let h := setLaneset (begin s.hw) ls l
     (¬(converged = true ∧ crc64 (bytes.take 504) = leNat (bytes.drop 504)) →
      exec (.flitReceive ls given updates began) s = .next (after s
        (askReplay (setLaneset (bump h 0x2214 ls) ls { l with failRun := l.failRun + 1 }) ls))) ∧
     (converged = true → crc64 (bytes.take 504) = leNat (bytes.drop 504) →
      exec (.flitReceive ls given updates began) s = .next (after s
        (let hdr := leNat (bytes.take 8)
         let h := setLaneset h ls { markActive l ((bytes.headD 0#8).toNat % 16) with replayWait := false }
         let h := takeUpdates ls began updates h
         let h := applyAck h (portOf h ls) (field hdr 27 16)
         let p := portOf h ls
         match hdr % 16 with
         | 0 => onlyNull h p bytes
         | 1 => takeData h p ls (field hdr 15 4) bytes
         | 2 => takeSlots 31 true p (flitSlots bytes) h
         | 3 => takeBlock ls (leNat ((bytes.drop 8).take 64)) h
         | 4 => takePark ls (onlyNull h p bytes)
         | _ => protocolError h p))))) ∧
  (∀ (s : State) (ls : Nat) (last : Option Nat), (Instr.replayReq ls last).wf = true → awake s.hw = true → linkActive s.hw = true → takesFlits s.hw ls = true →
    exec (.replayReq ls last) s = .next (after s
      (let l := laneset s.hw ls
       let fs := l.retry.filter (fun f => (l.order.reverse.takeWhile (fun q => some q != last)).contains f.seq)
       fs.foldl (fun h f => sendFlit h ls (.data f)) (bumpBy (begin s.hw) 0x3003 (portOf s.hw ls) 0 fs.length)))) ∧
  (∀ (s : State) (ls : Nat), (Instr.replayReqRepeat ls).wf = true → awake s.hw = true → linkActive s.hw = true → takesFlits s.hw ls = true →
    (laneset s.hw ls).replayWait = true → (laneset s.hw ls).quiet = false →
    exec (.replayReqRepeat ls) s = .next (after s (askReplay (begin s.hw) ls))) ∧
  (∀ (s : State) (ls : Nat), (Instr.repeatedReplayWithdrawal ls).wf = true → awake s.hw = true → linkActive s.hw = true → inService s.hw ls = true →
    obj s.hw 0x3010 2 ≤ (laneset s.hw ls).failRun →
    exec (.repeatedReplayWithdrawal ls) s = .next (after s (withdraw (bump (begin s.hw) 0x3007 ls) ls none []))) ∧
  (∀ (s : State) (ln : Nat), (Instr.checkerSync ln).wf = true → awake s.hw = true → obj s.hw 0x2230 ln ≠ 0 → (laneset s.hw (ln / 9)).testPath = none →
    exec (.checkerSync ln) s = .next (after s (setLane (begin s.hw) ln { lane s.hw ln with checkerSync := true }))) ∧
  (∀ (s : State) (ln p : Nat), (Instr.checkerSync ln).wf = true → awake s.hw = true → obj s.hw 0x2230 ln ≠ 0 → (laneset s.hw (ln / 9)).testPath = some p →
    exec (.checkerSync ln) s = .next (after s
      (let h := setLane (begin s.hw) ln { lane s.hw ln with checkerSync := true }
       finishOp (setLaneset h (ln / 9) { laneset h (ln / 9) with testPath := none }) p { status := .ok, total := 4 }))) ∧
  (∀ (s : State) (ls p : Nat), (Instr.refuse ls).wf = true → awake s.hw = true → lsState s.hw ls = 4 → (laneset s.hw ls).testPath = some p →
    exec (.refuse ls) s = .next (after s
      (finishOp (endTest (setLaneset (begin s.hw) ls { laneset s.hw ls with testPath := none }) ls) p { status := .notReady })))

/-- Sequence numbers of DATA flits (R131): a flit up to 2,048 behind the expected one is a duplicate, counted and not delivered; a
flit outside both windows is a protocol error. In both cases no request reaches a buffer and the expected number stays. -/
def Obligations.DuplicateFlitsAreNotDelivered : Prop :=
  ∀ (h : Hw) (p ls seq : Nat) (bytes : List Byte), seq < 4096 → (port h p).expect < 4096 →
    (let back := ((port h p).expect + 4096 - seq) % 4096
     1 ≤ back ∧ back ≤ 2048 → takeData h p ls seq bytes = bump h 0x3004 p) ∧
    (let ahead := (seq + 4096 - (port h p).expect) % 4096
     reorderCapacity h ≤ ahead → ahead < 2048 → takeData h p ls seq bytes = raise (bump h 0x3005 p) Src.protocolError { port := p })

/-- An ACK frees exactly the retry-buffer entries up to its SEQ (R132): on every upstream laneset of the port what stays is what the
ACK does not cover, in order; an ACK that is not newer than the last one applied changes nothing. -/
def Obligations.AckFreesCoveredFlits : Prop :=
  ∀ (h : Hw) (p ack : Nat), ack < 4096 → (port h p).lastAck < 4096 →
    (let d := (ack + 4096 - (port h p).lastAck) % 4096
     (d = 0 ∨ 2047 < d → applyAck h p ack = h) ∧
     (0 < d → d ≤ 2047 → ∃ t, applyAck h p ack = flushPort t p ∧
       (∀ k ∈ portUps h p, (laneset t k).retry = (laneset h k).retry.filter (fun f => decide (2048 ≤ (ack + 4096 - f.seq) % 4096))) ∧
       (port t p).replay = (port h p).replay.filter (fun f => decide (2048 ≤ (ack + 4096 - f.seq) % 4096)) ∧
       (port t p).lastAck = ack ∧ t.regs = h.regs ∧ t.out = h.out))

/-! Requests. -/

/-- A request of a port is taken (R113, R114, R117, R138, R202, R209, R210): while admission is open and no FENCE holds the port, the
oldest one, a RD, WR, WRC or atomic of one parcel whose class has room, leaves the buffer, is admitted or queued as a transaction of the
track that its entry names, gives its credits back and, when it expects a response, brings its tag into use. A malformed one leaves the
buffer too, and is answered, or counted when it carries no tag. Where one of its class must wait, the same holds of a later request that
may go past it, with the class's limit or queue open.
Where the spec is silent it takes the model's choices of assumptions 11, 29. -/
def Obligations.RequestsComplete : Prop :=
  (∀ (s : State) (p since tag label line count : Nat) (rest : List HeldReq), (Instr.rdRequest p).wf = true → admitting s.hw = true →
    (port s.hw p).fence = none → (port s.hw p).req = ⟨since, .rd tag label line count⟩ :: rest → line / 1024 = (line + count - 1) / 1024 → RoomForRequest (begin s.hw) p label line →
    (let e := lookup (begin s.hw) (line / 1024)
     let h := (offerTxn e.1 (txnOf e.1 p (.rd tag label line count) (entTrack e.2) since)).1
     let h := returnCredits (setPort h p { port h p with req := rest }) p 1 0 0
     exec (.rdRequest p) s = .next (after s (useTag h p tag)))) ∧
  (∀ (s : State) (p since tag label line count poison : Nat) (data : List Line) (rest : List HeldReq), (Instr.wrRequest p).wf = true → admitting s.hw = true →
    (port s.hw p).fence = none → (port s.hw p).req = ⟨since, .wr false tag label line count poison data⟩ :: rest → line / 1024 = (line + count - 1) / 1024 → RoomForRequest (begin s.hw) p label line →
    (let e := lookup (begin s.hw) (line / 1024)
     let h := (offerTxn e.1 (txnOf e.1 p (.wr false tag label line count poison data) (entTrack e.2) since)).1
     let h := returnCredits (setPort h p { port h p with req := rest }) p (1 + 4 * data.length) 0 0
     exec (.wrRequest p) s = .next (after s h))) ∧
  (∀ (s : State) (p since tag label line count poison : Nat) (data : List Line) (rest : List HeldReq), (Instr.wrcRequest p).wf = true → admitting s.hw = true →
    (port s.hw p).fence = none → (port s.hw p).req = ⟨since, .wr true tag label line count poison data⟩ :: rest → line / 1024 = (line + count - 1) / 1024 → RoomForRequest (begin s.hw) p label line →
    (let e := lookup (begin s.hw) (line / 1024)
     let h := (offerTxn e.1 (txnOf e.1 p (.wr true tag label line count poison data) (entTrack e.2) since)).1
     let h := returnCredits (setPort h p { port h p with req := rest }) p (1 + 4 * data.length) 0 0
     exec (.wrcRequest p) s = .next (after s (useTag h p tag)))) ∧
  (∀ (s : State) (p since tag label line word op a b : Nat) (wide sgn : Bool) (rest : List HeldReq), (Instr.atom p).wf = true → admitting s.hw = true →
    (port s.hw p).fence = none → (port s.hw p).req = ⟨since, .atom tag label line word wide op sgn a b⟩ :: rest → op < 5 → (wide = true → word % 2 = 0) → RoomForRequest (begin s.hw) p label line →
    (let e := lookup (begin s.hw) (line / 1024)
     let h := (offerTxn e.1 (txnOf e.1 p (.atom tag label line word wide op sgn a b) (entTrack e.2) since)).1
     let h := returnCredits (setPort h p { port h p with req := rest }) p 2 0 0
     exec (.atom p) s = .next (after s (useTag h p tag)))) ∧
  (∀ (s : State) (p since st : Nat) (r : Req) (rest : List HeldReq), admitting s.hw = true → (port s.hw p).fence = none →
    (port s.hw p).req = ⟨since, r⟩ :: rest → reqError r = some st →
    (let h := rejectReq (returnCredits (setPort (begin s.hw) p { port s.hw p with req := rest }) p (reqSlots r) 0 0) p r st
     ((Instr.rdRequest p).wf = true → rdReq r = true → exec (.rdRequest p) s = .next (after s h)) ∧
     ((Instr.wrRequest p).wf = true → wrReq false r = true → exec (.wrRequest p) s = .next (after s h)) ∧
     ((Instr.wrcRequest p).wf = true → wrReq true r = true → exec (.wrcRequest p) s = .next (after s h)) ∧
     ((Instr.atom p).wf = true → atomReq r = true → exec (.atom p) s = .next (after s h)))) ∧
  (∀ (s : State) (p tag label line count : Nat) (since : Nat) (rest : List HeldReq), (Instr.rdRequest p).wf = true → admitting s.hw = true → (port s.hw p).fence = none →
    pickReq (begin s.hw) p rdReq [] (port s.hw p).req [] = some (⟨since, .rd tag label line count⟩, rest) →
    line / 1024 = (line + count - 1) / 1024 →
    (let e := lookup (begin s.hw) (line / 1024)
     let t := offerTxn e.1 (txnOf e.1 p (.rd tag label line count) (entTrack e.2) since)
     t.2 = true →
     exec (.rdRequest p) s = .next (after s
       (useTag (returnCredits (setPort t.1 p { port t.1 p with req := rest }) p 1 0 0) p tag)))) ∧
  (∀ (s : State) (p tag label line count poison : Nat) (data : List Line) (since : Nat) (rest : List HeldReq), (Instr.wrRequest p).wf = true → admitting s.hw = true →
    (port s.hw p).fence = none →
    pickReq (begin s.hw) p (wrReq false) [] (port s.hw p).req [] =
      some (⟨since, .wr false tag label line count poison data⟩, rest) →
    line / 1024 = (line + count - 1) / 1024 →
    (let e := lookup (begin s.hw) (line / 1024)
     let t := offerTxn e.1 (txnOf e.1 p (.wr false tag label line count poison data) (entTrack e.2) since)
     t.2 = true →
     exec (.wrRequest p) s = .next (after s
       (returnCredits (setPort t.1 p { port t.1 p with req := rest }) p (1 + 4 * data.length) 0 0)))) ∧
  (∀ (s : State) (p tag label line count poison : Nat) (data : List Line) (since : Nat) (rest : List HeldReq), (Instr.wrcRequest p).wf = true → admitting s.hw = true →
    (port s.hw p).fence = none →
    pickReq (begin s.hw) p (wrReq true) [] (port s.hw p).req [] =
      some (⟨since, .wr true tag label line count poison data⟩, rest) →
    line / 1024 = (line + count - 1) / 1024 →
    (let e := lookup (begin s.hw) (line / 1024)
     let t := offerTxn e.1 (txnOf e.1 p (.wr true tag label line count poison data) (entTrack e.2) since)
     t.2 = true →
     exec (.wrcRequest p) s = .next (after s
       (useTag (returnCredits (setPort t.1 p { port t.1 p with req := rest }) p (1 + 4 * data.length) 0 0) p tag)))) ∧
  (∀ (s : State) (p tag label line word op a b : Nat) (wide sgn : Bool) (since : Nat) (rest : List HeldReq), (Instr.atom p).wf = true → admitting s.hw = true →
    (port s.hw p).fence = none →
    pickReq (begin s.hw) p atomReq [] (port s.hw p).req [] =
      some (⟨since, .atom tag label line word wide op sgn a b⟩, rest) →
    op < 5 → (wide = true → word % 2 = 0) →
    (let e := lookup (begin s.hw) (line / 1024)
     let t := offerTxn e.1 (txnOf e.1 p (.atom tag label line word wide op sgn a b) (entTrack e.2) since)
     t.2 = true →
     exec (.atom p) s = .next (after s
       (useTag (returnCredits (setPort t.1 p { port t.1 p with req := rest }) p 2 0 0) p tag))))

/-- FENCE and RELEASE complete (R119 to R121): a FENCE at the head waits in the port with its tag in use; once the earlier work is done
its completion goes to the transmitter with status 0, and the hold lasts until it is sent; a RELEASE marks its range released and, when asked, answers with status 0. -/
def Obligations.FenceAndReleaseComplete : Prop :=
  (∀ (s : State) (p tag : Nat) (jobs : Bool) (since : Nat) (rest : List HeldReq), (Instr.fence p).wf = true → admitting s.hw = true →
    (port s.hw p).req = ⟨since, .fence tag jobs⟩ :: rest → (port s.hw p).fence = none →
    exec (.fence p) s = .next (after s
      (useTag (returnCredits (setPort (begin s.hw) p { port s.hw p with req := rest, fence := some { tag := tag, jobs := jobs } }) p 1 0 0) p tag))) ∧
  (∀ (s : State) (p : Nat) (f : Fence), (Instr.fenceComplete p).wf = true → awake s.hw = true → (port s.hw p).fence = some f → f.done = false →
    fenceDone s.hw p f = true →
    exec (.fenceComplete p) s = .next (after s
      (sendStatus (freeTag (setPort (begin s.hw) p { port s.hw p with fence := some { f with done := true } }) p f.tag) p f.tag 0))) ∧
  (∀ (s : State) (p tag first count : Nat) (cpl : Bool) (since : Nat) (rest : List HeldReq), (Instr.release p).wf = true → admitting s.hw = true →
    (port s.hw p).req = ⟨since, .release cpl tag first count⟩ :: rest → (port s.hw p).fence = none →
    (∀ e ∈ s.hw.chans.txns, ¬(e.2.port = p ∧ first ≤ e.2.line / 1024 ∧ e.2.line / 1024 < first + count)) → 1 ≤ count → first + count ≤ parcels →
    exec (.release p) s = .next (after s
      (let h := releaseRange (returnCredits (setPort (begin s.hw) p { port s.hw p with req := rest }) p 1 0 0) first count
       if cpl then sendStatus h p tag 0 else h)))

/-- The arithmetic of atomics at a width of n bits (R117): ADD wraps, MIN and MAX compare by the sign bit of the request, SWAP stores
the operand, CAS stores the second operand only where the first equals the old value. The result fits the width. -/
def Obligations.AtomicArithmetic : Prop :=
  ∀ (n old a b : Nat) (sgn : Bool), 0 < n → old < 2 ^ n → a < 2 ^ n → b < 2 ^ n →
    atomicNew 0 n old a b sgn = (old + a) % 2 ^ n ∧
    (atomicNew 1 n old a b false = min old a ∧ atomicNew 2 n old a b false = max old a) ∧
    toSigned n (atomicNew 1 n old a b true) = min (toSigned n old) (toSigned n a) ∧
    toSigned n (atomicNew 2 n old a b true) = max (toSigned n old) (toSigned n a) ∧
    atomicNew 3 n old a b sgn = a ∧
    atomicNew 4 n old a b sgn = (if old = a then b else old) ∧
    ∀ op, atomicNew op n old a b sgn < 2 ^ n

/-- An atomic's operand is the only part of the line that changes (R117, R118): the bits outside it read as before, and the operand
reads as the new value. -/
def Obligations.AtomicTouchesItsOperandAlone : Prop :=
  ∀ (d : Line) (word n v : Nat), 32 * word + n ≤ 512 → v < 2 ^ n →
    lineWord (setLineWord d word n v) word n = v ∧
    ∀ i, i < 512 → (i < 32 * word ∨ 32 * word + n ≤ i) → (setLineWord d word n v).getLsbD i = d.getLsbD i

/-! Traffic classes and the arbiter. -/

/-- Events of the data path complete (R118, R122, R205, R208, R210, R213, R216 to R218): windows end, queued transactions are admitted,
an idle path grants its winner, input 14 cuts a grant, a write becomes visible, a drain moves at most four lines, a read returns once all
its lines are collected, one that needs no grant at any time, and the read-modify-write unit runs its oldest entry that can run.
Where the spec is silent it takes the model's choices of assumptions 11, 142, 143. -/
def Obligations.DataPathEventsComplete : Prop :=
  (∀ s : State, awake s.hw = true →
    exec .shareWindowEnd s = .next (after s
      (let h := if grey s.hw = true then (List.range 8).foldl lapseWindow (begin s.hw)
         else (List.range 8).foldl (fun h t =>
           let total := ((List.range 8).map (fun c => (clsSt h t c).winLines)).sum
           reinput ((List.range 8).foldl (fun h c => endWindow h t total c) h) t) (begin s.hw)
       { h with chans := { h.chans with winStart := now h } }))) ∧
  (∀ (s : State) (t c n : Nat), (Instr.admissionQueueRelease t c).wf = true → awake s.hw = true → grey s.hw = false →
    queuedOf s.hw t c = some n → underLimit s.hw t c = true →
    exec (.admissionQueueRelease t c) s = .next (after s
      (moveReclassed (admitTxn (setCls (begin s.hw) t c { clsSt s.hw t c with queue := (clsSt s.hw t c).queue.erase n }) n) t))) ∧
  (∀ (s : State) (t c k n : Nat), (Instr.admissionQueueRelease t c).wf = true → awake s.hw = true → grey s.hw = true →
    firstQueued s.hw t = some (k, n) →
    exec (.admissionQueueRelease t c) s = .next (after s
      (moveReclassed (admitTxn (setCls (begin s.hw) t k { clsSt s.hw t k with queue := (clsSt s.hw t k).queue.erase n }) n) t))) ∧
  (∀ (s : State) (pc i : Nat) (g : Grant), (Instr.arbiterDecision pc).wf = true →
    (let h := noteBehind (noteMarks (begin s.hw) pc) pc
     takesGrants h pc = true → (pcSt h pc).granted = none → winner h pc = some (i, g) →
     exec (.arbiterDecision pc) s = .next (after s
       (let h := bump h 0x3430 i (chOf pc)
        match g with
        | .xfer x _ =>
          let h := dropXfer h x
          let h :=
            if isRead h x then setPc h pc { pcSt h pc with granted := some g, got := tget [] (pcSt h pc).moved x.txn, moved := tdel (pcSt h pc).moved x.txn }
            else
              let h := setPc h pc { pcSt h pc with granted := some g, got := [] }
              setCh h (chOf pc) { chSt h (chOf pc) with rmw := (chSt h (chOf pc)).rmw ++ x.lines.map (fun l => Rmw.host x.txn l.line) }
          noteWaits (reoffer h (chOf pc)) (trkOf pc)
        | _ => setPc h pc { pcSt h pc with granted := some g })))) ∧
  (∀ (s : State) (pc : Nat), (Instr.grantCut pc).wf = true → takesGrants s.hw pc = true → at14 s.hw pc = true → (pcSt s.hw pc).granted.isSome = true →
    exec (.grantCut pc) s = .next (after s (decideGrant pc (cutGrant (begin s.hw) pc 1)))) ∧
  (∀ (s : State) (pc : Nat) (x : Xfer) (q : Txn), (Instr.writeQueueEntry pc).wf = true → awake s.hw = true → nextWrite s.hw pc = some x →
    txn s.hw x.txn = some q →
    (let r := recreateFor ((coreOf s).onHw (fun h => dropXfer h x)) (q.line / 1024)
     r.2 = true →
     exec (.writeQueueEntry pc) s = .next (afterCore s
       ((x.lines.foldl (writeOne q x.age) r.1).onHw (fun h =>
         let left := ((txn h x.txn).getD q).left - x.lines.length
         let h :=
           if left = 0 then
             let h := endTxn h x.txn
             match q.kind with
             | .wr true => sendStatus (freeTag h q.port q.tag) q.port q.tag 0
             | _ => h
           else setTxn h x.txn { (txn h x.txn).getD q with left := left }
         noteWaits (reoffer h (chOf pc)) (trkOf pc)))))) ∧
  (∀ (s : State) (pc i n : Nat), (Instr.writeDrain pc).wf = true → (pcSt s.hw pc).granted = some (.drain i n) →
    (pcSt s.hw pc).sr = false → (chSt s.hw (chOf pc)).alert = none →
    exec (.writeDrain pc) s = .next (afterCore s
      (((List.range (4 - n)).foldl (fun c _ => drainOldest c pc) (coreOf s)).onHw (fun h => noteMarks (setPc h pc { pcSt h pc with granted := none }) pc)))) ∧
  (∀ (s : State) (pc : Nat) (x : Xfer) (q : Txn), (Instr.readResponse pc).wf = true → awake s.hw = true →
    (grantedRead s.hw pc = some (x, q) →
      exec (.readResponse pc) s = .next (afterCore s
        (answerRead ((coreOf s).onHw (fun h => setPc h pc { pcSt s.hw pc with granted := none, got := [] })) x q (pcSt s.hw pc).got))) ∧
    (grantedRead s.hw pc = none → freeRead s.hw pc = some (x, q) →
      exec (.readResponse pc) s = .next (afterCore s (answerRead ((coreOf s).onHw (fun h => dropXfer h x)) x q [])))) ∧
  (∀ (s : State) (ch : Nat), (Instr.rmwAtomic ch).wf = true → awake s.hw = true → dieOn s.hw (ch / 4) = true → (chSt s.hw ch).alert = none →
    exec (.rmwAtomic ch) s = .next (afterCore s ((rmwNext ch (coreOf s)).onHw (fun h => reoffer h ch))))

/-- The arbiter's order (R213, R223): the input that wins has something to grant, no higher input that is in use has; in Grey mode the
engine inputs 4 to 13 and input 1 never win; an idle path that takes grants gives the winner its grant and counts it once. -/
def Obligations.HighestInputWins : Prop :=
  ∀ (h : Hw) (pc i : Nat) (g : Grant), winner h pc = some (i, g) →
    i < 16 ∧ atInput h pc i = some g ∧
    (grey h = true → ¬(4 ≤ i ∧ i ≤ 13) ∧ i ≠ 1) ∧
    ∀ j, i < j → j < 16 → ¬(grey h = true ∧ ((4 ≤ j ∧ j ≤ 13) ∨ j = 1)) → atInput h pc j = none

/-- Urgency, admission and the effective limit (R205, R209, R210): the effective limit of a class is at least 1 and never above its
limit when the scale is not above 256; below it, with nothing of its class queued, a request is admitted, and a full queue leaves it in its buffer
and counts the wait. -/
def Obligations.AdmissionKeepsLimits : Prop :=
  (∀ limit scale, 1 ≤ effectiveLimit limit scale) ∧
  (∀ limit scale, 1 ≤ limit → scale ≤ 256 → effectiveLimit limit scale ≤ limit) ∧
  (∀ (h : Hw) (q : Txn), queuedOf h q.track q.cls = none → underLimit h q.track q.cls = true →
    reclassWaits h q.track q.port q.cls = false → (offerTxn h q).2 = true) ∧
  (∀ (h : Hw) (q : Txn), (queuedOf h q.track q.cls).isSome = true → 256 ≤ (clsSt h q.track q.cls).queue.length → offerTxn h q = (bump h 0x3440 q.cls q.track, false))

/-! Channels and dies. -/

/-- A die command that the controller may issue completes (R170 to R172, R177 to R185, R189): it takes a sequence number and enters the
retry buffer, and the die carries it out unless it is under an alert or finds bad parity or a bad write CRC. A column command closes its
row as commanded, or with an idle time of 0, when no request needs the row, and what the TSVs add to its burst comes on the bits of R282; a refresh, a targeted refresh and a drain have the grant.
Where the spec is silent it takes the model's choices of assumption 137. -/
def Obligations.DieCommandsComplete : Prop :=
  ∀ (s : State) (pc : Nat) (bad : Bool), s.hw.mode = .run → dieState s.hw (dieOf pc) ≠ 1 → dieState s.hw (dieOf pc) ≠ 3 →
    (chSt s.hw (chOf pc)).retry.length < 16 →
    (∀ bank row, (Instr.act pc bank row bad).wf = true → live pc s.hw = true → mayOpen s.hw pc bank row = true →
      exec (.act pc bank row bad) s = .next (afterCore s
        (issue ((coreOf s).onHw (fun h => drawNeighbours (bump h 0x5120 1 (chOf pc)) pc bank row)) (.act pc bank row) bad 0))) ∧
    (∀ bank, (Instr.pre pc bank bad).wf = true → live pc s.hw = true → mayClose s.hw pc bank = true →
      exec (.pre pc bank bad) s = .next (afterCore s (issue (coreOf s) (.pre pc bank) bad 0))) ∧
    ((Instr.prea pc bad).wf = true → live pc s.hw = true → (∀ r ∈ (pcSt s.hw pc).rows, mayClose s.hw pc r.1 = true) →
      exec (.prea pc bad) s = .next (afterCore s (issue (coreOf s) (.prea pc) bad 0))) ∧
    ((Instr.refpb pc bad).wf = true → live pc s.hw = true → rotationIdle s.hw pc = true → refreshGranted s.hw pc = true →
      exec (.refpb pc bad) s = .next (afterCore s (issue ((coreOf s).onHw (countRefresh pc)) (.refpb pc) bad 0))) ∧
    (∀ bank row, (Instr.trr pc bank row bad).wf = true → live pc s.hw = true → trrGranted s.hw pc bank row = true →
      exec (.trr pc bank row bad) s = .next (afterCore s (issue ((coreOf s).onHw (countTrr pc bank row)) (.trr pc bank row) bad 0))) ∧
    ((Instr.sre pc bad).wf = true → live pc s.hw = true → (pcSt s.hw pc).rows = [] → (pcSt s.hw pc).granted = none →
      exec (.sre pc bad) s = .next (afterCore s (issue (coreOf s) (.sre pc) bad 0))) ∧
    ((Instr.srx pc bad).wf = true → (pcSt s.hw pc).sr = true → awake s.hw = true → (trkSt s.hw (trkOf pc)).change = none →
      exec (.srx pc bad) s = .next (afterCore s (issue (coreOf s) (.srx pc) bad 0))) ∧
    (∀ reg value, (Instr.mrw pc reg value bad).wf = true →
      exec (.mrw pc reg value bad) s = .next (afterCore s (issue (coreOf s) (.mrw pc reg value) bad 0))) ∧
    ((Instr.trainCommand pc bad).wf = true → live pc s.hw = true →
      exec (.trainCommand pc bad) s = .next (afterCore s (issue (coreOf s) (.train pc) bad 0))) ∧
    (∀ bank, (Instr.rowIdleClose pc bank).wf = true → live pc s.hw = true → thas (pcSt s.hw pc).rows bank = true → rowNeeded s.hw pc bank = false →
      exec (.rowIdleClose pc bank) s = .next (afterCore s (issue (coreOf s) (.pre pc bank) false 0))) ∧
    (∀ bank col (noise : BitVec 576) l n, live pc s.hw = true → readTarget s.hw pc bank col = some (l, n) →
      (let h := setPc (begin s.hw) pc { pcSt s.hw pc with got := (pcSt s.hw pc).got ++ [(l.idx, 0#512, false)] }
       let needed := rowNeeded h pc bank
       ((Instr.rd pc bank col noise bad).wf = true →
         exec (.rd pc bank col noise bad) s = .next (afterCore s
           (issue (coreOf s) (.rd pc bank col (obj s.hw 0x5000 1 == 0 && !needed)) bad (fromBurst noise.toNat)))) ∧
       ((Instr.rda pc bank col noise bad).wf = true →
         exec (.rda pc bank col noise bad) s = .next (afterCore s (issue (coreOf s) (.rd pc bank col (!needed)) bad (fromBurst noise.toNat)))))) ∧
    (∀ bank col (noise : BitVec 592) i n e rest, live pc s.hw = true → (pcSt s.hw pc).granted = some (.drain i n) →
      (pcSt s.hw pc).wq = e :: rest → pBank e.phys = bank → pCol e.phys = col → tfind (pcSt s.hw pc).rows bank = some (pRow e.phys) →
      (let needed := rowNeeded (setPc (begin s.hw) pc { pcSt s.hw pc with wq := rest }) pc bank
       let added := noise.toNat / 2 ^ 576 * 2 ^ 576 + fromBurst (noise.toNat % 2 ^ 576)
       ((Instr.wr pc bank col bad noise).wf = true →
         exec (.wr pc bank col bad noise) s = .next (afterCore s
           (issue (coreOf s) (.wr pc bank col (obj s.hw 0x5000 1 == 0 && !needed) e) bad added))) ∧
       ((Instr.wra pc bank col bad noise).wf = true →
         exec (.wra pc bank col bad noise) s = .next (afterCore s (issue (coreOf s) (.wr pc bank col (!needed) e) bad added)))))

/-- What the controller and the die do with an issued command (R170, R185, R186): every command takes the next of 16 sequence numbers
and stands in the retry buffer; a die under an alert ignores it; bad parity or a bad write CRC begins an alert with this command's
number and nothing is executed; otherwise the die carries it out. The stored lines change only when it is carried out. -/
def Obligations.IssueAndAlert : Prop :=
  ∀ (c : Core) (cmd : DieCmd) (bad : Bool) (noise : Nat),
    let ch := chOf (cmdPc cmd)
    let k := chSt c.hw ch
    let parity := bad || c.hw.inject.parity == some ch
    let crc := match cmd with | .wr _ _ _ _ e => c.hw.inject.write == some ch || burstFails e noise | _ => false
    let t := issue c cmd bad noise
    (k.alert = none → parity = false → crc = false →
      t = dieEffect noise (c.onHw (fun h => setCh h ch { k with seq := (k.seq + 1) % 16, retry := k.retry ++ [(k.seq, cmd)] })) cmd) ∧
    (k.alert = none → parity = true ∨ crc = true →
      (chSt t.hw ch).alert = some (k.seq, !parity) ∧ (chSt t.hw ch).fails = 1 ∧ t.dram = c.dram ∧ t.stores = c.stores ∧ t.hw.chans.pcs = c.hw.chans.pcs) ∧
    (k.alert.isSome = true →
      (chSt t.hw ch).alert = k.alert ∧ t.dram = c.dram ∧ t.stores = c.stores ∧ t.hw.chans.pcs = c.hw.chans.pcs) ∧
    (k.alert.isSome = true ∨ parity = true ∨ crc = true →
      (chSt t.hw ch).seq = (k.seq + 1) % 16 ∧ (chSt t.hw ch).retry = k.retry ++ [(k.seq, cmd)])

/-- What a die does with a command it accepts (Table 6.2): ACT opens the row of its bank; PRE, RDA and PREA close; RD gives its line to
the granted read; WR stores its line with fresh check symbols (a cell of a system slot lists what differs from what the slot holds,
assumption 62); SRE closes every row, carries the owed refreshes and enters self-refresh;
SRX leaves it with nothing owed; MRW writes its register. -/
def Obligations.DieEffects : Prop :=
  ∀ (c : Core) (pc noise : Nat),
    (∀ bank row, tfind (pcSt (dieEffect noise c (.act pc bank row)).hw pc).rows bank = some row) ∧
    (∀ bank, thas (pcSt (dieEffect noise c (.pre pc bank)).hw pc).rows bank = false) ∧
    (∀ bank col, thas (pcSt (dieEffect noise c (.rd pc bank col true)).hw pc).rows bank = false) ∧
    (∀ bank col l n, readTarget c.hw pc bank col = some (l, n) →
      (let r := readLine { c with hw := (lookup c.hw (l.line / 1024)).1 } n noise false false
       dieEffect noise c (.rd pc bank col false) = r.1.onHw (fun h =>
         setPc (if r.2.2 = true then notePoisonDelivered h n else h) pc { pcSt h pc with got := (pcSt h pc).got ++ [(l.idx, r.2.1, r.2.2)] }))) ∧
    (∀ bank col close e, (chSt c.hw (chOf (pPc e.phys))).failed = false →
      (dieEffect noise c (.wr pc bank col close e)).stores = c.stores ++ [.line e.phys (encodeLine e.data e.poison ^^^ (noise % 2 ^ 576) ^^^ systemBits c.hw e.phys)]) ∧
    (pcSt (dieEffect noise c (.prea pc)).hw pc).rows = [] ∧
    ((pcSt (dieEffect noise c (.sre pc)).hw pc).rows = [] ∧ (pcSt (dieEffect noise c (.sre pc)).hw pc).sr = true ∧
      (pcSt (dieEffect noise c (.sre pc)).hw pc).carried = (owed c.hw pc).toNat + (pcSt c.hw pc).emergency.length) ∧
    ((pcSt (dieEffect noise c (.srx pc)).hw pc).sr = false ∧ (pcSt (dieEffect noise c (.srx pc)).hw pc).carried = 0) ∧
    (∀ value, (dieSt (dieEffect noise c (.mrw pc 0 value)).hw (dieOf pc)).rl = value ∧ (dieSt (dieEffect noise c (.mrw pc 1 value)).hw (dieOf pc)).wl = value)

/-- Refresh, alerts, retraining, gears and array resets complete (R18, R178, R179, R184, R186, R187, R189, R191 to R193, R196).
Where the spec is silent it takes the model's choices of assumptions 12, 135, 149. -/
def Obligations.ChannelEventsComplete : Prop :=
  (∀ (s : State) (pc : Nat), (Instr.refreshDue pc).wf = true → s.hw.mode = .run → live pc s.hw = true →
    (owed s.hw pc < owedLimit s.hw pc →
      exec (.refreshDue pc) s = .next (after s
        (let h := if owed s.hw pc = 0 then setPc (begin s.hw) pc { pcSt s.hw pc with routineAt := now s.hw } else begin s.hw
         setObj h 0x5021 1 pc (ofSigned 16 (owed s.hw pc + 1))))) ∧
    (owedLimit s.hw pc ≤ owed s.hw pc →
      exec (.refreshDue pc) s = .next (after s (setPc (begin s.hw) pc { pcSt s.hw pc with emergency := (pcSt s.hw pc).emergency ++ [now s.hw] })))) ∧
  (∀ (s : State) (pc : Nat), (Instr.trrEscalation pc).wf = true → s.hw.mode = .run →
    (pcSt s.hw pc).trr.findIdx (fun r => !r.2.2.2) < (pcSt s.hw pc).trr.length →
    exec (.trrEscalation pc) s = .next (after s
      (bump (setPc (begin s.hw) pc { pcSt s.hw pc with trr := (pcSt s.hw pc).trr.modify ((pcSt s.hw pc).trr.findIdx (fun r => !r.2.2.2)) (fun r => (r.1, r.2.1, now s.hw, true)) }) 0x5021 5 pc))) ∧
  (∀ (s : State) (ch : Nat) (again : Bool) (failed : Nat) (crc : Bool), (Instr.alert ch again).wf = true → s.hw.mode = .run →
    (chSt s.hw ch).alert = some (failed, crc) →
    (chSt s.hw ch).fails < 4 →
    (let k := chSt s.hw ch
     let cmds := (k.retry.dropWhile (fun e => e.1 != failed)).map Prod.snd
     let seq := (k.seq + 1) % 16
     let k := { k with
       seq := (seq + cmds.length) % 16, alert := if again = true then some (seq, crc) else none,
       retry := k.retry.takeWhile (fun e => e.1 != failed) ++ cmds.zipIdx.map (fun e => ((seq + e.2) % 16, e.1)),
       fails := if again = true then k.fails + 1 else 0, retrained := again && k.retrained }
     let c := (coreOf s).onHw (fun h =>
       if crc then raise (bump (setCh h ch k) 0x5120 5 ch) Src.writeCrc { selector := unitSel 3 ch }
       else raise (bump (setCh h ch k) 0x5120 4 ch) Src.cmdParity { selector := unitSel 3 ch })
     let c := if again = true then c else cmds.foldl (dieEffect 0) c
     exec (.alert ch again) s = .next (afterCore s c) ∧
       (again = false → (Instr.resync ch).wf = true → exec (.resync ch) s = .next (afterCore s c)))) ∧
  (∀ (s : State) (ch : Nat), (Instr.retryBufferRelease ch).wf = true → (chSt s.hw ch).alert = none →
    exec (.retryBufferRelease ch) s = .next (after s (setCh (begin s.hw) ch { chSt s.hw ch with retry := (chSt s.hw ch).retry.drop 1 }))) ∧
  (∀ (s : State) (ch f : Nat) (crc : Bool) (e : Nat × DieCmd), (Instr.retryBufferRelease ch).wf = true → (chSt s.hw ch).alert = some (f, crc) →
    (chSt s.hw ch).retry.head? = some e → e.1 ≠ f →
    exec (.retryBufferRelease ch) s = .next (after s (setCh (begin s.hw) ch { chSt s.hw ch with retry := (chSt s.hw ch).retry.drop 1 }))) ∧
  (∀ (s : State) (ch : Nat) (eyes : List Eye) (again : Bool), (Instr.replayLimit ch eyes again).wf = true → s.hw.mode = .run →
    (chSt s.hw ch).alert.isSome = true → 4 ≤ (chSt s.hw ch).fails →
    (let k := chSt s.hw ch
     (k.retrained = false →
       exec (.replayLimit ch eyes again) s = .next (afterCore s (replay ch again ((coreOf s).onHw (fun h =>
         retrain ch eyes (raise (bump (setCh h ch { k with fails := 0, retrained := true }) 0x5120 6 ch) Src.replayLimit { selector := unitSel 3 ch })))))) ∧
     (k.retrained = true → gear s.hw (ch / 8) = 2 →
       exec (.replayLimit ch eyes again) s = .next (afterCore s (replay ch false ((coreOf s).onHw (fun h =>
         raise (setCh h ch { k with failed := true, fails := 0 }) Src.channelFailed { selector := unitSel 3 ch }))))) ∧
     (k.retrained = true → gear s.hw (ch / 8) ≠ 2 →
       exec (.replayLimit ch eyes again) s = .next (afterCore s ((coreOf s).onHw (fun h => imposeGear (setCh h ch { k with fails := 0 }) (ch / 8))))))) ∧
  (∀ (s : State) (ch : Nat) (eyes : List Eye), (Instr.retrainingWindow ch eyes).wf = true → awake s.hw = true → dieOn s.hw (ch / 4) = true →
    (trkSt s.hw (ch / 8)).change = none →
    (windowGranted s.hw ch = true →
      exec (.retrainingWindow ch eyes) s = .next (after s
        (let h := setCh (begin s.hw) ch { chSt s.hw ch with retrain := false, retrainLate := false }
         let h := [2 * ch, 2 * ch + 1].foldl (fun h p => setPc h p { pcSt h p with granted := none }) h
         retrain ch eyes (bump h 0x5120 7 ch)))) ∧
    (windowGranted s.hw ch = false → (chSt s.hw ch).retrain = false →
      exec (.retrainingWindow ch eyes) s = .next (after s (setCh (begin s.hw) ch { chSt s.hw ch with retrain := true, retrainAt := now s.hw }))) ∧
    (windowGranted s.hw ch = false → (chSt s.hw ch).retrain = true → exec (.retrainingWindow ch eyes) s = .next (after s (begin s.hw)))) ∧
  (∀ (s : State) (ch : Nat), (Instr.retrainingWindowEscalation ch).wf = true → awake s.hw = true → (chSt s.hw ch).retrain = true →
    exec (.retrainingWindowEscalation ch) s = .next (after s (setCh (begin s.hw) ch { chSt s.hw ch with retrainLate := true, retrainAt := now s.hw }))) ∧
  (∀ (s : State) (t : Nat), (Instr.gearChange t).wf = true → awake s.hw = true → (∀ k < 8, (trkSt s.hw k).change = none) →
    gearReady s.hw t = true → (∀ k < t, gearReady s.hw k = false) →
    exec (.gearChange t) s = .next (afterCore s
      ((finishGrants (span (16 * t) 16) (coreOf s)).onHw (fun h =>
        let g := if (trkSt s.hw t).returning && decide (wantedGear s.hw t < gear s.hw t) then gear s.hw t - 1 else wantedGear s.hw t
        let h := [2 * t, 2 * t + 1].foldl (fun h d => writeLatencies g (enterSr h d (band h d)) d) h
        let h := (span (8 * t) 8).foldl (fun h ch => setObj h 0x5012 1 ch (1 - obj h 0x5012 1 ch)) h
        setTrk h t { trkSt h t with change := some (g, now h), returning := (trkSt h t).returning && decide (wantedGear h t < g) })))) ∧
  (∀ (s : State) (t g since : Nat) (eyes : List (List Eye)), (Instr.gearChangeComplete t eyes).wf = true → awake s.hw = true →
    (trkSt s.hw t).change = some (g, since) →
    exec (.gearChangeComplete t eyes) s = .next (afterCore s
      (startResets ((coreOf s).onHw (fun h =>
        let h := [2 * t, 2 * t + 1].foldl (fun h d => setDie (leaveSr h d) d { dieSt (leaveSr h d) d with bandHeld := none }) h
        let h := retrainAll (span (8 * t) 8) eyes h
        let h := setTrk h t { trkSt h t with change := none }
        let h := setObj (bump h 0x5010 3 t) 0x5010 4 t (max (obj h 0x5010 4 t) (now h - since))
        modelRun (setObj h 0x5010 1 t g)))))) ∧
  (∀ (s : State) (d step : Nat), (Instr.selfRefreshRateStep d step).wf = true → dieState s.hw d = 2 →
    exec (.selfRefreshRateStep d step) s = .next (after s (setDie (begin s.hw) d { dieSt s.hw d with rate := max step (dieSt s.hw d).floor }))) ∧
  (∀ (s : State) (pc bank i : Nat) (rest : Tbl Nat), (Instr.priorityScrubLine pc).wf = true → s.hw.mode = .run → live pc s.hw = true →
    (chSt s.hw (chOf pc)).alert = none → (pcSt s.hw pc).granted = some .scrub → (pcSt s.hw pc).prio = (bank, i) :: rest →
    exec (.priorityScrubLine pc) s = .next (afterCore s
      (let n := lineAt pc bank (i / 16) (i % 16)
       let bad := (wqFind s.hw n).isNone && (corrFind s.hw n).isNone && !s.hw.chans.recorded.contains n && (decodeLine (cellBits (coreOf s) n)).cls == .uncorrectable
       (readLine (coreOf s) n 0 false).1.onHw (fun h =>
         let h := if bad then bump h 0x5130 4 (pc * 16 + bank) else h
         let k := pcSt h pc
         let h := setPc h pc { k with granted := none, scrubAt := now h }
         if i + 1 < 66560 * 16 then setPc h pc { pcSt h pc with prio := tset k.prio bank (i + 1) }
         else bump (setObj (setPc h pc { pcSt h pc with prio := tdel k.prio bank }) 0x5130 1 (pc * 16 + bank) 0) 0x5130 5)))) ∧
  (∀ (s : State) (d : Nat) (eyes : List (List Eye)), (Instr.arrayResetComplete d eyes).wf = true → s.hw.mode = .run → dieState s.hw d = 1 →
    exec (.arrayResetComplete d eyes) s = .next (afterCore s
      (startResets ((coreOf s).onHw (fun h =>
        let took := now h - (dieSt h d).resetAt
        let ts := timing (gear h (d / 2)) 0
        let h := retrainAll (span (4 * d) 4) eyes (setDie h d { dieSt h d with rl := ts.getD 1 0, wl := ts.getD 2 0, training := 0 })
        let h := setObj (bump (leaveSr h d) 0x1110 4 d) 0x1110 5 d (max (obj h 0x1110 5 d) (min took (2 ^ 32 - 1)))
        endReset ((span (4 * d) 4).foldl reoffer h) d)))))

/-! Integrity. -/

/-- Write-back and scrub events complete (R285, R286, R291 to R294).
Where the spec is silent it takes the model's choices of assumption 63. -/
def Obligations.IntegrityEventsComplete : Prop :=
  (∀ (s : State) (ch : Nat) (e : Correction) (rest : List Correction), (Instr.writeBack ch).wf = true → awake s.hw = true → (chSt s.hw ch).corr = e :: rest →
    (e.stale = true → exec (.writeBack ch) s = .next (after s (bump (setCh (begin s.hw) ch { chSt s.hw ch with corr := rest }) 0x9800 6 (pPc e.phys)))) ∧
    (e.stale = false → wqFind s.hw e.phys = none → (pcSt s.hw (pPc e.phys)).wq.length < 32 →
      exec (.writeBack ch) s = .next (after s
        (queueLine (setCh (begin s.hw) ch { chSt s.hw ch with corr := rest }) { phys := e.phys, data := e.data, poison := e.poison, check := e.check })))) ∧
  (∀ (s : State) (pc : Nat) (upsets : List (Nat × BitVec 576)), (Instr.patrolScrubRow pc upsets).wf = true → patrolDue s.hw pc = true →
    (chSt s.hw (chOf pc)).alert = none →
    (let n := obj s.hw 0x9900 4 pc
     let slot := 16 * (n / 16 / 4) + n % 16
     (slotState s.hw (trkOf pc) slot = .retired ∨ slotState s.hw (trkOf pc) slot = .parked →
       exec (.patrolScrubRow pc upsets) s = .next (after s (passNext pc (begin s.hw)))) ∧
     (slotState s.hw (trkOf pc) slot ≠ .retired → slotState s.hw (trkOf pc) slot ≠ .parked → (pcSt s.hw pc).granted = some .scrub →
       (let r := slotLive (bumpBy (begin s.hw) 0x3430 (patrolInput s.hw pc) (chOf pc) 3) (trkOf pc) slot
        let c := ((List.range 16).map (lineAt pc (n % 16) (n / 16))).foldl (scrubRead r.2 pc) (upsetCells pc (n % 16) (n / 16) upsets { coreOf s with hw := r.1 })
        exec (.patrolScrubRow pc upsets) s = .next (afterCore s
          (c.onHw (fun h => passNext pc (bump (setPc h pc { pcSt h pc with granted := none }) 0x9900 7 pc)))))))) ∧
  (∀ (s : State) (pc n pos : Nat) (noise : BitVec 576), (Instr.hardErrorCheck pc noise).wf = true → patrolRuns s.hw pc = true →
    (chSt s.hw (chOf pc)).alert = none →
    s.hw.chans.hard.find? (fun e => pPc e.1 == pc) = some (n, pos) → wqFind s.hw n = none →
    exec (.hardErrorCheck pc noise) s = .next (afterCore s
      (let r := arrayRead ((coreOf s).onHw (fun h => { h with chans := { h.chans with hard := h.chans.hard.erase (n, pos) } })) n (fromBurst noise.toNat)
       let d := r.2
       r.1.onHw (fun h =>
         let h := noteDecode h n d.cls false
         let h := if wantsWriteBack d.cls then queueWriteBack h n d.data d.poison none else h
         if d.cls = .corrected pos ∨ d.cls = .poisonedCorrected pos then
           reportErrors (raise (bump h 0x9800 8 pc) Src.hardError (whereLine h n)) n 4
         else h)))) ∧
  (∀ (s : State) (pc : Nat), (Instr.scrubLate pc).wf = true → patrolRuns s.hw pc = true → (pcSt s.hw pc).late = false →
    exec (.scrubLate pc) s = .next (after s
      (raise (bump (setPc (begin s.hw) pc { pcSt s.hw pc with late := true }) 0x9900 6 pc) Src.scrubLate { selector := unitSel 4 pc })))

/-! Placement. -/

/-- Placement events complete (R149 to R151, R153 to R157, R159 to R161, R165, R166): the oldest journal record is applied; the rebuilt
table is served again; a dirty slot is zeroed; warm-up ends; an epoch ends with every heat counter halved; a move goes through start,
copy, recopy and swap, which waits while an access that has issued cannot complete, or is rolled back when a write of its own fails, or
abandoned; a track is gated, unparked, and its slots become
free and zeroed.
Where the spec is silent it takes the model's choices of assumptions 58 to 61, 135. -/
def Obligations.PlacementEventsComplete : Prop :=
  (∀ (s : State) (r : JournalRec) (rs : List JournalRec), awake s.hw = true → s.hw.place.journal = r :: rs →
    exec .journalRecordApply s = .next (after s
      (setObj (setPlace (begin s.hw) { s.hw.place with image := applyRec s.hw.place.image r, journal := rs }) 0x4080 4 0 rs.length))) ∧
  (∀ s : State, awake s.hw = true → obj s.hw 0x4000 1 = 3 →
    exec .routeTableRebuildComplete s = .next (after s
      (let inBank := fun (p : Nat) => tget false s.hw.place.mirrorBanks (p % 32) || decide (1 < tget 0 s.hw.place.sramBad p)
       let h := (s.hw.place.moves.filter (fun m => inBank m.parcel)).foldl (rollBack true) (begin s.hw)
       let h := (((h.place.route ++ h.place.image).map Prod.fst ++ (h.place.journal.map journalParcels).flatten).filter inBank).foldl (fun h p => putRoute h p (mirrorWord h p)) h
       let h := setPlace h { h.place with mirrorBanks := [], sramBad := [] }
       bump (setObj h 0x4000 1 0 (if grey h then 2 else h.faults.greyPlacement)) 0x4080 1))) ∧
  (∀ (s : State) (t slot : Nat), (Instr.slotZeroing t).wf = true → placing s.hw = true → trackOn s.hw t = true → trackParked s.hw t = false →
    zeroedSlots s.hw t < obj s.hw 0x4030 1 → lowestSlot s.hw t .freeDirty none = some slot →
    exec (.slotZeroing t) s = .next (afterCore s
      ((((coreOf s).onHw (fun h => dropSlotWrites h t slot)).store (.zero (physLine t slot 0) 1024)).onHw (fun h =>
        inputZero (setSlot (sweepSlot 3 [] h t slot) t slot .freeZeroed) t)))) ∧
  (∀ (s : State) (p : Nat) (ps : List Nat), awake s.hw = true → s.hw.place.waits = p :: ps →
    exec .parcelRecreateResume s = .next (afterCore s (recreateFor (coreOf s) p).1)) ∧
  (∀ s : State, placing s.hw = true → obj s.hw 0x4000 1 = 0 → s.hw.boot.readyAt + ms (obj s.hw 0x4000 2) ≤ now s.hw →
    obj s.hw 0x4000 3 ≤ obj s.hw 0x4000 4 → (∀ r ∈ s.hw.place.queue, r.prio ≠ 0) → (∀ m ∈ s.hw.place.moves, m.prio ≠ 0) →
    exec .warmUpEnd s = .next (after s (setObj (begin s.hw) 0x4000 1 0 1))) ∧
  (∀ s : State, placing s.hw = true →
    exec .heatEpoch s = .next (after s
      (let h := setPlace (begin s.hw) { s.hw.place with queue := s.hw.place.queue.map (fun r => { r with waits := false }) }
       let h := if obj s.hw 0x4000 1 ≤ 1 then retirements h else h
       let h := if obj h 0x4000 1 = 1 then policies h else h
       setPlace h { h.place with waitsEpoch := false, heat := (h.place.heat.map (fun e => (e.1, e.2 / 2))).filter (fun e => e.2 != 0) }))) ∧
  (∀ (s : State) (r : MoveReq) (t slot : Nat), placing s.hw = true → grey s.hw = false →
    (let h := (s.hw.place.queue.filter (moot (begin s.hw))).foldl dropMoot (begin s.hw)
     h.place.waitsEpoch = false → h.place.moves.length < obj h 0x4010 2 →
     (let h := setPlace h { h.place with queue := h.place.queue.map (deferMove h) }
      firstReq h = some r → destination h r = some (t, slot) →
      exec .moveStart s = .next (after s
        (let e := (lookup h r.parcel).2
         let h := (lookup h r.parcel).1
         let h := setPlace h { h.place with queue := h.place.queue.filter (fun q => q != r) }
         let h := putRoute h r.parcel (entryOf (entTrack e) (entSlot e) 1 false (entPinned e))
         let h := setSlot (dropSlotWrites h t slot) t slot .inUse
         setMoves h (h.place.moves ++ [{ parcel := r.parcel, srcTrack := entTrack e, srcSlot := entSlot e, dstTrack := t, dstSlot := slot, prio := r.prio, lastProgress := now h, retire := r.retire.isSome }])))))) ∧
  (∀ (s : State) (parcel : Nat) (m : Move) (replayed : Bool), (Instr.moveCopyDone parcel replayed).wf = true → awake s.hw = true →
    moveOf s.hw parcel = some m → m.copied = false → trackOn s.hw m.srcTrack = true → trackOn s.hw m.dstTrack = true →
    (copyFails s.hw m replayed (List.range 1024) = true →
      exec (.moveCopyDone parcel replayed) s = .next (after s (rollBack true (begin s.hw) m))) ∧
    (copyFails s.hw m replayed (List.range 1024) = false →
      exec (.moveCopyDone parcel replayed) s = .next (afterCore s
        (let src := physLine m.srcTrack m.srcSlot 0
         let queued := (((span (16 * m.srcTrack) 16).map (fun p => (pcSt s.hw p).wq.map WqEntry.phys)).flatten).filter (fun n => n / 1024 == src / 1024)
         let held := ((listedLines s.dram src 1024) ++ queued).map (· % 1024)
         let todo := if s.dram.zones.contains .all then (List.range 1024).filter held.contains else List.range 1024
         let c := ((coreOf s).onHw (fun h =>
           sweepSlot 3 todo (sweepSlot 2 todo (dropSlotWrites h m.dstTrack m.dstSlot) m.srcTrack m.srcSlot) m.dstTrack m.dstSlot)).store
             (.zero (physLine m.dstTrack m.dstSlot 0) 1024)
         (todo.foldl (copyLine m) c).onHw (fun h => match moveOf h parcel with
           | some k => countMoved k 1024 (setMove h { k with copied := true, lastProgress := now h })
           | none => h))))) ∧
  (∀ (s : State) (parcel : Nat) (m : Move) (replayed : Bool), (Instr.moveRecopyPass parcel replayed).wf = true → awake s.hw = true →
    moveOf s.hw parcel = some m → m.copied = true → recopied s.hw m = false → trackOn s.hw m.srcTrack = true → trackOn s.hw m.dstTrack = true →
    (copyFails s.hw m replayed (dirtyLines m) = true →
      exec (.moveRecopyPass parcel replayed) s = .next (after s (rollBack true (begin s.hw) m))) ∧
    (copyFails s.hw m replayed (dirtyLines m) = false →
      exec (.moveRecopyPass parcel replayed) s = .next (afterCore s
        (((dirtyLines m).foldl (copyLine m) (coreOf s)).onHw (fun h => match moveOf h parcel with
          | some k => countMoved k (dirtyLines m).length (setMove h { k with dirty := 0, passes := k.passes + 1, lastProgress := now h })
          | none => h))))) ∧
  (∀ (s : State) (parcel : Nat) (m : Move) (replayed : Bool), (Instr.moveSwap parcel replayed).wf = true → awake s.hw = true →
    moveOf s.hw parcel = some m → m.copied = true → recopied s.hw m = true → trackOn s.hw m.srcTrack = true → trackOn s.hw m.dstTrack = true →
    (∀ e < 32, ∀ k ∈ (engine s.hw e).locks, k % 2 ^ 31 / 1024 ≠ parcel) →
    (let c := finishIssued m (coreOf s)
     ∀ m, moveOf c.hw parcel = some m →
       (unitLines c.hw m.srcTrack parcel ≠ [] → exec (.moveSwap parcel replayed) s = .next (afterCore s c)) ∧
       (unitLines c.hw m.srcTrack parcel = [] → copyFails c.hw m replayed (dirtyLines m) = true →
         exec (.moveSwap parcel replayed) s = .next (afterCore s (c.onHw (fun h => rollBack true h m)))) ∧
       (unitLines c.hw m.srcTrack parcel = [] → copyFails c.hw m replayed (dirtyLines m) = false →
         exec (.moveSwap parcel replayed) s = .next (afterCore s
           (((dirtyLines m).foldl (copyLine m) c).onHw (fun h => match moveOf h parcel with
             | some k => countMoved k (dirtyLines m).length (finishMove k h)
             | none => h)))))) ∧
  (∀ (s : State) (parcel : Nat) (m : Move), (Instr.moveProgressTimeout parcel).wf = true → awake s.hw = true → moveOf s.hw parcel = some m →
    (∀ d ∈ [2 * m.srcTrack, 2 * m.srcTrack + 1, 2 * m.dstTrack, 2 * m.dstTrack + 1], dieState s.hw d ≠ 1) →
    exec (.moveProgressTimeout parcel) s = .next (after s (rollBack false (begin s.hw) m))) ∧
  (∀ (s : State) (t : Nat), (Instr.trackGate t).wf = true → placing s.hw = true → compacts s.hw t = true → obj s.hw 0x4011 3 t = 0 → trackOn s.hw t = true →
    resetPending s.hw (2 * t) = false → resetPending s.hw (2 * t + 1) = false → (∀ m ∈ s.hw.place.moves, m.dstTrack ≠ t ∧ m.srcTrack ≠ t) →
    exec (.trackGate t) s = .next (afterCore s
      (((coreOf s).onHw (fun h => (span 0 16).foldl (fun h p => setPc h (16 * t + p) { pcSt h (16 * t + p) with wq := [], rows := [], granted := none, got := [] }) h)).store
        (.zero (physLine t 0 0) (slotsPerTrack * 1024)) |>.onHw (fun h =>
          let h := (span (8 * t) 8).foldl (fun h k => setCh (dropCorrections h k) k { chSt (dropCorrections h k) k with retry := [], canary := false }) h
          let h := [2 * t, 2 * t + 1].foldl (fun h d => setDomain (setDieState h d 3) (arrDomain d) 2) h
          let h := setDomain h (dctDomain t) 2
          setObj (setObj (setObj h 0x4011 1 t 0) 0x4011 2 t 0) 0x4011 5 t 1)))) ∧
  (∀ (s : State) (t : Nat), (Instr.trackUnpark t).wf = true → placing s.hw = true → trackParked s.hw t = true →
    (((List.range 8).filter (fun k => !trackParked s.hw k)).map (zeroedSlots s.hw)).sum < obj s.hw 0x4030 3 ∨ flag s.hw 0x4011 6 t = false ∨
      unparkingCalled s.hw = true →
    s.hw.place.unparking.contains t = false → (∀ d, s.hw.test.testDie = some d → d / 2 ≠ t) →
    exec (.trackUnpark t) s = .next (afterCore s
      ((((coreOf s).store (.fill (.die (2 * t)))).store (.fill (.die (2 * t + 1)))).onHw (fun h =>
        let h := [2 * t, 2 * t + 1].foldl (fun h d => setDomain h (arrDomain d) 0) h
        let h := setDomain h (dctDomain t) 0
        setPlace h { h.place with unparking := h.place.unparking ++ [t] })))) ∧
  (∀ (s : State) (t : Nat), (Instr.trackUnparkComplete t).wf = true → awake s.hw = true → s.hw.place.unparking.contains t = true →
    exec (.trackUnparkComplete t) s = .next (after s
      (let h := setPlace (begin s.hw) { s.hw.place with unparking := s.hw.place.unparking.filter (· != t), cleared := tput false s.hw.place.cleared t true, slots := s.hw.place.slots.filter (fun e => e.1 / slotsPerTrack != t || e.2 == .retired) }
       let free := slotsPerTrack - obj h 0x4011 4 t
       let h := setObj (setObj (setObj h 0x4011 5 t 0) 0x4011 1 t free) 0x4011 2 t free
       let h := (span (16 * t) 16).foldl (fun h p => setOwed (setPc h p { pcSt h p with emergency := [], excess := 0, sr := false }) p 0) h
       [2 * t, 2 * t + 1].foldl (fun h d => setDieState h d 0) h)))

/-- The fields of a route entry are independent (Table 5.1): each reads back what the entry was made of. -/
def Obligations.RouteEntryFields : Prop :=
  ∀ (track slot state : Nat) (released pinned : Bool), track < 8 → slot < 2 ^ 19 → state < 4 →
    let e := entryOf track slot state released pinned
    entTrack e = track ∧ entSlot e = slot ∧ entState e = state ∧ entReleased e = released ∧ entPinned e = pinned ∧ e < 2 ^ 32

/-- The static assignment (R155): the track and slot of each of the 2^21 parcels by its formulas, settled, neither released nor pinned;
the eight parcels of a j take one slot on eight tracks; slots 0 to 262,143 of every track are filled exactly once. -/
def Obligations.StaticAssignmentFillsEveryTrack : Prop :=
  (∀ p < parcels,
    let j := p / 8
    entTrack (staticEntry p) = (p % 8) ^^^ (j % 8) ∧ entSlot (staticEntry p) = 16 * (j / 16) + ((j % 16) ^^^ (j / 16 % 16)) ∧
    entState (staticEntry p) = 0 ∧ entReleased (staticEntry p) = false ∧ entPinned (staticEntry p) = false) ∧
  (∀ j < 262144, ∀ i < 8, ∀ k < 8, entSlot (staticEntry (8 * j + i)) = entSlot (staticEntry (8 * j + k)) ∧
    (entTrack (staticEntry (8 * j + i)) = entTrack (staticEntry (8 * j + k)) → i = k)) ∧
  (∀ track < 8, ∀ slot < 262144, ∃ p < parcels, entTrack (staticEntry p) = track ∧ entSlot (staticEntry p) = slot ∧
    ∀ q < parcels, entTrack (staticEntry q) = track → entSlot (staticEntry q) = slot → q = p)

/-- Slots and lines (R143, R144): line o of a slot lies in the pseudo-channel, bank, row and column that its granule names, host slots in
rows 0 to 65,535 and the others in the 1,024 spare rows; two slots never share a line, and a line's coordinates name it. -/
def Obligations.SlotGeometry : Prop :=
  (∀ track slot o, track < 8 → slot < slotsPerTrack → o < 1024 →
    let n := physLine track slot o
    let gr := o / 4
    pPc n = 16 * track + gr % 16 ∧ chOf (pPc n) = 8 * track + gr % 16 / 2 ∧ pPc n % 2 = gr % 16 % 2 ∧ pBank n = slot % 16 ∧
    pRow n = 4 * (slot / 16) + gr / 64 ∧ 64 * pCol n = 256 * (gr / 16 % 4) + 64 * (o % 4) ∧
    (slot < 262144 → pRow n < 65536) ∧ (262144 ≤ slot → 65536 ≤ pRow n ∧ pRow n < 66560)) ∧
  (∀ t s o t' s' o', s < slotsPerTrack → s' < slotsPerTrack → o < 1024 → o' < 1024 →
    physLine t s o = physLine t' s' o' → t = t' ∧ s = s' ∧ o = o') ∧
  (∀ n, lineAt (pPc n) (pBank n) (pRow n) (pCol n) = n) ∧
  (∀ (h : Hw) (line : Nat), physOf (route h (line / 1024)) line =
    physLine (entTrack (route h (line / 1024))) (entSlot (route h (line / 1024))) (line % 1024))

/-- A zeroed slot reads zero and nothing else changes: after the zeroing of a slot every byte of its lines is 0, and every byte
outside them reads as before. -/
def Obligations.ZeroedSlotReadsZero : Prop :=
  ∀ (d : Dram) (n count a : Nat),
    (72 * n ≤ a → a < 72 * (n + count) → readByte (DramOp.run d (.zero n count)) a = 0#8) ∧
    ((a < 72 * n ∨ 72 * (n + count) ≤ a) → readByte (DramOp.run d (.zero n count)) a = readByte d a)

/-! Jobs. -/

/-- A descriptor of each type at the head of a port's buffer is admitted (R229, R231, R235 to R237): with the port's jobs below 256, the
checks of R229 passed and, for KERNEL, a loaded kernel, it leaves the buffer with its credits and takes a job slot and engines. -/
def Obligations.DescriptorsAreAdmitted : Prop :=
  ∀ (s : State) (p : Nat) (b : List Byte) (rest : List (List Byte)), takesJobs s.hw = true → grey s.hw = false →
    (port s.hw p).job = b :: rest → b ≠ [] → goodDesc (parseDesc b) = true → obj s.hw 0x6001 p < 256 →
    let d := parseDesc b
    let t := .next (after s (admitJob (popDesc (begin s.hw) p) p d))
    (d.opcode = 1 → (Instr.copy p).wf = true → exec (.copy p) s = t) ∧
    (d.opcode = 2 → (Instr.fill p).wf = true → exec (.fill p) s = t) ∧
    (d.opcode = 3 → (Instr.gather p).wf = true → exec (.gather p) s = t) ∧
    (d.opcode = 4 → (Instr.scatter p).wf = true → exec (.scatter p) s = t) ∧
    (d.opcode = 5 → (Instr.reduce p).wf = true → exec (.reduce p) s = t) ∧
    (d.opcode = 6 → (Instr.scan p).wf = true → exec (.scan p) s = t) ∧
    (d.opcode = 7 → (Instr.histogram p).wf = true → exec (.histogram p) s = t) ∧
    (d.opcode = 8 → (Instr.atomicBatch p).wf = true → exec (.atomicBatch p) s = t) ∧
    (d.opcode = 9 → (Instr.checksum p).wf = true → exec (.checksum p) s = t) ∧
    (d.opcode = 10 → obj s.hw 0x6102 d.kernel ≠ 0xFF → (Instr.kernel p).wf = true → exec (.kernel p) s = t)

/-- An ABORT descriptor is answered (R239, R240): with status 0 where the job had not reached its commit point, which ends ABORTED, with 6
where it had ended, with 7 where no job of the port has the id. The job's own completion goes first: until it can, the ABORT waits.
Where the spec is silent it takes the model's choices of assumptions 50, 159. -/
def Obligations.AbortCompletes : Prop :=
  ∀ (s : State) (p : Nat) (b : List Byte) (rest : List (List Byte)), (Instr.abort p).wf = true → takesJobs s.hw = true → grey s.hw = false →
    (port s.hw p).job = b :: rest → b ≠ [] → (parseDesc b).opcode = 15 → goodDesc (parseDesc b) = true →
    let id := (parseDesc b).arg0 % 65536
    let answered := fun (c : Core) (st : Nat) => Host.Outcome.next (afterCore s (answerHead p (parseDesc b) st c))
    (∀ st, tfind s.hw.jobs.aborts p = some st → exec (.abort p) s = answered (coreOf s) st) ∧
    (tfind s.hw.jobs.aborts p = none → jobNamed s.hw p id = none → exec (.abort p) s = answered (coreOf s) 7) ∧
    (∀ j q, tfind s.hw.jobs.aborts p = none → jobNamed s.hw p id = some j → jobAt s.hw j = some q →
      (let past := q.committed || q.status.isSome
       let st := q.abort.getD (if past = true then 6 else 0)
       let c := (coreOf s).onHw (fun h => onJob h j (fun q => { q with abort := some st }))
       let c := if past = true then c else c.onHw (fun h => endJob h j 5 (noResult { q with abort := some st }))
       (∀ k, jobAt c.hw j = some k → (tryComplete j k c).2 = true → exec (.abort p) s = answered (tryComplete j k c).1 st) ∧
       (∀ k, jobAt c.hw j = some k → (tryComplete j k c).2 = false → exec (.abort p) s = .next (afterCore s (tryComplete j k c).1))))

/-- A malformed descriptor is refused (R229, R234): it leaves the buffer, is completed with status 2 as its CMODE asks, and counted; no job
is admitted. Without a completion record no stored line changes; with one it waits until the record can be written.
Where the spec is silent it takes the model's choices of assumption 50. -/
def Obligations.MalformedDescriptorIsRefused : Prop :=
  ∀ (s : State) (p : Nat) (b : List Byte) (rest : List (List Byte)), (Instr.copy p).wf = true → takesJobs s.hw = true → grey s.hw = false →
    (port s.hw p).job = b :: rest → b ≠ [] → (parseDesc b).opcode = 1 → goodDesc (parseDesc b) = false →
    let d := parseDesc b
    (sendsRecord d = false → exec (.copy p) s = .next (after s
      (let h := popDesc (begin s.hw) p
       bump (sendGroup (setJobs h { h.jobs with aborts := tdel h.jobs.aborts p }) p (.jcpl d.jobId 2 0 none)) 0x6005 p))) ∧
    (sendsRecord d = true → ∀ c,
      (recordReady (coreOf s) (slotless p d) = (c, true) → exec (.copy p) s = .next (afterCore s ((answerDesc p d 2 c).onHw (fun h => bump h 0x6005 p)))) ∧
      (recordReady (coreOf s) (slotless p d) = (c, false) → exec (.copy p) s = .next (afterCore s c)))

/-- Job events complete (R234, R237 to R239, R243, R245, R248, R253, R278): a free engine starts its next part; a domain's engines
become candidates; partial results reach the home engine, those of a REDUCE as far as it can keep them; the grant lets a part issue its last writes; an ended job completes; a stream
reads ahead; faults and the watchdog reset the engine and re-place its parts; limits end jobs.
Where the spec is silent it takes the model's choices of assumptions 92, 160. -/
def Obligations.JobEventsComplete : Prop :=
  (∀ (s : State) (e : Nat) (r : Nat × Nat) (q : Job), (Instr.partStart e).wf = true → awake s.hw = true → (engine s.hw e).part = none → engState s.hw e = 0 →
    domainState s.hw (engDomain (e / 4)) = 0 → nextPart s.hw (engine s.hw e).queue = some r → jobAt s.hw r.1 = some q →
    exec (.partStart e) s = .next (afterCore s
      (let g := engine s.hw e
       let c := (coreOf s).onHw (fun h =>
         let h := setEngine h e { images := loadImage g q.slot, idleAt := g.idleAt, queue := g.queue.filter (· != r), part := some r, retired := now h, k := if q.desc.opcode = 10 then startKern q else {} }
         let h := setPart (bump (setEngState h e 1) 0x6012 e) r.1 r.2 (fun p => { p with running := true, issue := p.low })
         placeWaiting h)
       if q.desc.opcode = 8 then issueRecords r.1 r.2 64 c else c))) ∧
  (∀ (s : State) (t : Nat), (Instr.engineDomainOn t).wf = true → s.hw.mode = .run → obj s.hw 0x7000 1 ≤ 1 →
    exec (.engineDomainOn t) s = .next (after s
      (let h := engOn (setDomain (begin s.hw) (engDomain t) 0) t
       let h := if grey h then (trackEngines t).foldl (fun h e => if engState h e = 0 then setEngState h e 3 else h) h else h
       placeWaiting h))) ∧
  (∀ (s : State) (e j i : Nat) (q : Job) (p : Part), (Instr.partialResult e).wf = true → awake s.hw = true → running s.hw e = some (j, i, q, p) →
    combines q.desc.opcode = true → windowsUp s.hw q.desc = true →
    (q.desc.opcode ≠ 5 → p.home = false → exec (.partialResult e) s = .next (afterCore s
      (let r := partWork e q.desc p (coreOf s)
       r.1.onHw (fun h => finishPart (setPart (ringCarry h (e / 4) q.homeTrack 64) j i (fun p => { p with finding := r.2.f })) (j, i))))) ∧
    (q.desc.opcode = 5 → exec (.partialResult e) s = .next (afterCore s
      (let ks := (p.parcels.drop p.sent).takeWhile (fun k => decide (k ≤ lowestAwaited q + 16384))
       let r := partWork e q.desc { p with parcels := ks } (coreOf s)
       r.1.onHw (fun h =>
         let h := if ks = [] ∨ p.home = true then h else ringCarry h (e / 4) q.homeTrack 64
         let h := setPart h j i (fun p => { p with finding := addFinding p.finding r.2.f, sent := p.sent + ks.length })
         if p.home = false ∧ p.sent + ks.length = p.parcels.length then finishPart h (j, i) else h))))) ∧
  (∀ (s : State) (e j i : Nat) (q : Job) (p : Part), (Instr.commitGrant e).wf = true → awake s.hw = true → running s.hw e = some (j, i, q, p) →
    (q.desc.opcode = 8 → exec (.commitGrant e) s = .next (afterCore s (batchPart j i q p (coreOf s)))) ∧
    (∀ st, q.desc.opcode = 10 → (engine s.hw e).asking = some st → exec (.commitGrant e) s = .next (afterCore s (kernelEnd e j i st q (coreOf s)))) ∧
    (combines q.desc.opcode = true → p.home = true → windowsUp s.hw q.desc = true →
      exec (.commitGrant e) s = .next (afterCore s (homePart e j i q p (coreOf s)))) ∧
    (q.desc.opcode ∈ [1, 2, 3, 4] → windowsUp s.hw q.desc = true → exec (.commitGrant e) s = .next (afterCore s (writePart e j i q p (coreOf s))))) ∧
  (∀ (s : State) (p id j st : Nat) (q : Job), (Instr.jobComplete p id).wf = true → awake s.hw = true →
    s.hw.jobs.jobs.find? (fun e => e.2.port == p && e.2.desc.jobId == id && e.2.status.isSome) = some (j, q) → q.status = some st →
    (sendsJcpl q st = true → canSend s.hw p (completion q st) = true) → (recordReady (coreOf s) q).2 = true →
    exec (.jobComplete p id) s = .next (afterCore s (completeJob j (recordReady (coreOf s) q).1))) ∧
  (∀ (s : State) (e su j i o l : Nat) (q : Job) (p : Part), (Instr.speculativeRead e su).wf = true → awake s.hw = true → running s.hw e = some (j, i, q, p) →
    q.desc.nospec = false → flag s.hw 0x6030 1 = true → (stream (engine s.hw e) su).ahead.length < obj s.hw 0x6030 2 →
    (if q.desc.opcode = 10 then kernelAhead q.desc (stream (engine s.hw e) su) (obj s.hw 0x6030 2)
      else builtinAhead q.desc p su (stream (engine s.hw e) su).ahead.length) = some (o, l) →
    exec (.speculativeRead e su) s = .next (afterCore s (readAhead (coreOf s) e su q.desc.cls o l))) ∧
  (∀ (s : State) (e : Nat), (Instr.engineFault e).wf = true → awake s.hw = true → engState s.hw e ≤ 1 →
    exec (.engineFault e) s = .next (after s (engineReset e (begin s.hw)))) ∧
  (∀ (s : State) (e : Nat), (Instr.engineWatchdog e).wf = true → awake s.hw = true → engState s.hw e ≤ 1 → (engine s.hw e).part.isSome = true →
    exec (.engineWatchdog e) s = .next (after s (engineReset e (begin s.hw)))) ∧
  (∀ (s : State) (e : Nat), (Instr.engineBackInService e).wf = true → s.hw.mode = .run → engState s.hw e = 4 →
    exec (.engineBackInService e) s = .next (after s
      (placeWaiting (setEngState (begin s.hw) e
        (if grey s.hw || engineUnit s.hw e then 3 else if domainState s.hw (engDomain (e / 4)) = 0 then 0 else 2))))) ∧
  (∀ (s : State) (p id j : Nat) (q : Job), (Instr.jobTimeout p id).wf = true → jobNamed s.hw p id = some j → jobAt s.hw j = some q →
    obj s.hw 0x6000 3 ≠ 0 → q.committed = false → q.status = none →
    exec (.jobTimeout p id) s = .next (after s (endJob (begin s.hw) j 0x0D (noResult q)))) ∧
  (∀ (s : State) (e line a b x y g : Nat) (w : Nat) (q : Job), (Instr.lockWaitTimeout e).wf = true → (engine s.hw e).wait = some (line, w) →
    (engine s.hw e).part = some (a, x) → lockedBy s.hw e line = some g → (engine s.hw g).part = some (b, y) →
    jobAt s.hw (if older s.hw a b then b else a) = some q →
    exec (.lockWaitTimeout e) s = .next (after s (endJob (bump (begin s.hw) 0x6040 2) (if older s.hw a b then b else a) 9 (noResult q))))

/-- A job that completes leaves its slot (R233, R234): on any of the four ports, where it ends with no record to write and no JCPL, the
job is no longer held, no stored line changes, the port's count of jobs falls by one and its completion is counted; where a record is
written it holds the opcode, the status, the id and the byte count. -/
def Obligations.CompletedJobIsGone : Prop :=
  (∀ (c : Core) (j : Nat) (q : Job) (st : Nat), q.port < 4 → jobAt c.hw j = some q → q.status = some st → q.desc.cmode < 2 → sendsJcpl q st = false →
    jobAt (completeJob j c).hw j = none ∧ (completeJob j c).dram = c.dram ∧
    obj (completeJob j c).hw 0x6001 q.port = obj c.hw 0x6001 q.port - 1 ∧
    obj (completeJob j c).hw 0x6003 q.port = satAdd (objWidth 0x6003 q.port) (obj c.hw 0x6003 q.port) 1) ∧
  (∀ (q : Job) (st : Nat), q.desc.jobId < 65536 → st < 256 → q.bytes < 2 ^ 48 →
    lineField (recordLine q st) 0 1 = 0x0A ∧ lineField (recordLine q st) 1 1 = st ∧ lineField (recordLine q st) 2 2 = q.desc.jobId ∧
    lineField (recordLine q st) 5 6 = q.bytes)

/-! Power, clocks and sleep. -/

/-- Power management events complete (R305, R308, R310 to R313, R401): faults of rails and clocks are raised with their registers;
IDLE is entered without activity; an idle engine domain is gated; budgets gain one transition, with which link domains may be gated;
lanesets are called to park; the power
measurement is stored and the cap acts.
Where the spec is silent it takes the model's choices of assumptions 26, 66. -/
def Obligations.PowerEventsComplete : Prop :=
  (∀ (s : State) (rail track : Nat), (Instr.regulatorFault rail track).wf = true → s.hw.mode ≠ .held →
    (if rail = 1 then s.hw.power.vppUp else s.hw.power.vddqcUp) = true →
    exec (.regulatorFault rail track) s = .next (after s
      (raise (setActive (setObj (begin s.hw) 0x7050 3 0 (rail * 256 + track)) Src.regulatorFault true) Src.regulatorFault { selector := unitSel 1 track }))) ∧
  (∀ (s : State) (locked inRange : Bool) (offset : Int), (Instr.clockCheck locked inRange offset).wf = true → thmOn s.hw = true → s.hw.power.xckStopped = false →
    exec (.clockCheck locked inRange offset) s = .next (after s
      (let h := setObj (begin s.hw) 0x7060 3 0 (ofSigned 32 offset)
       if pllRuns s.hw = false then h
       else
         let h := setObj h 0x7060 1 0 (bit locked)
         if locked = false ∨ inRange = false then clockFault h else setActive h Src.clockFault false))) ∧
  (∀ s : State, s.hw.mode ≠ .held →
    exec .xckStop s = .next (after s (clockFault (setPower (begin s.hw) { s.hw.power with xckStopped := true })))) ∧
  (∀ s : State, s.hw.power.xckStopped = true →
    exec .xckResume s = .next (after s
      (setActive (setPower (begin s.hw) { s.hw.power with xckStopped := false }) Src.clockFault (!flag s.hw 0x7060 1)))) ∧
  (∀ s : State, s.hw.mode = .run → obj s.hw 0x7000 1 = 0 → s.hw.power.sleep = none → activity s.hw = false →
    exec .idleEntry s = .next (after s
      (setPower (setPlace (setObj (begin s.hw) 0x7000 1 0 1) { s.hw.place with unparkCall := false }) { s.hw.power with idleAt := now s.hw }))) ∧
  (∀ (s : State) (t : Nat), (Instr.engineGate t).wf = true → s.hw.mode = .run → obj s.hw 0x7000 1 ≤ 1 →
    ((span (4 * t) 4).all fun e => (engine s.hw e).part.isNone && (engine s.hw e).queue.isEmpty) = true → domainState s.hw (engDomain t) = 0 →
    exec (.engineGate t) s = .next (after s
      (let h := gateDomain (begin s.hw) (engDomain t) 2
       if domainState h (engDomain t) = 2 then engOff h t else h))) ∧
  (∀ s : State, s.hw.mode ≠ .held → s.hw.mode ≠ .off →
    exec .gatingBudgetTick s = .next (after s
      (gateLink ((List.range 62).foldl (fun h d => setObj h 0x7042 d 0 (min 64 (obj h 0x7042 d + 1))) (begin s.hw))))) ∧
  (∀ s : State, s.hw.mode = .run → obj s.hw 0x7000 1 = 1 →
    exec .idleLanesetPark s = .next (after s
      ((List.range 16).foldl (fun h k => if mayPark h k && !(laneset h k).parkWait then parkFor k h else h) (begin s.hw)))) ∧
  (∀ s : State, s.hw.mode = .run → obj s.hw 0x7000 1 = 0 → obj s.hw 0x7030 1 = 1 →
    exec .unparkCall s = .next (after s (setPlace (begin s.hw) { s.hw.place with unparkCall := true }))) ∧
  (∀ (s : State) (watts volts vddqc vpp : List Nat), (Instr.powerMeasurement watts volts vddqc vpp).wf = true → thmOn s.hw = true →
    exec (.powerMeasurement watts volts vddqc vpp) s = .next (after s
      (let h := (List.range 5).foldl (fun h i => setObj (setObj h 0x7021 (i + 1) 0 (watts.getD i 0)) 0x7070 (i + 1) 0 (volts.getD i 0)) (begin s.hw)
       let h := (List.range 8).foldl (fun h t => setObj (setObj h 0x7050 1 t (vddqc.getD t 0)) 0x7050 2 t (vpp.getD t 0)) h
       let vd := volts.getD 3 0
       let h := if obj h 0x7070 7 = 0 || vd < obj h 0x7070 7 then setObj h 0x7070 7 0 vd else h
       let h := if genGood vddqc vpp then setActive h Src.regulatorFault false else h
       let h := setObj (checkRails volts h) 0x7020 3 0 watts.sum
       let h := if h.mode = .run then capControl watts.sum h else h
       setPower h { h.power with
         marks := (h.power.marks ++ [(List.range 8).map (trackLines h)]).drop ((h.power.marks.length + 1) - 10)
         dieMarks := (h.power.dieMarks ++ [(List.range 16).map (fun d => (dieActs h d, dieLines h d))]).drop ((h.power.dieMarks.length + 1) - 10) })))

/-- The power cap takes one action per measurement and undoes the latest first (R313, Table 11.6): above the cap with the scale still
above its floor the scale falls by 32; ten measurements in a row below the cap less the hysteresis undo the most recent action. -/
def Obligations.CapActsOnce : Prop :=
  (∀ h : Hw, obj h 0x7020 5 < powerScale h → capAction h = setScale (takeAction h .scale) (powerScale h - 32)) ∧
  (∀ (h : Hw) (mean : Nat), obj h 0x7020 1 * 65536 < mean →
    capControl mean h = (let h := capAction (setPower h { h.power with below := 0 }); setObj h 0x7020 4 0 (capStep h))) ∧
  (∀ (h : Hw) (mean : Nat), mean < (obj h 0x7020 1 - obj h 0x7020 2) * 65536 → h.power.below < 9 →
    (capControl mean h).power.actions = h.power.actions ∧ (capControl mean h).power.below = h.power.below + 1) ∧
  (∀ (h : Hw) (a : CapAction) (rest : List CapAction), h.power.actions = a :: rest → a = .scale ∨ a = .engines →
    (undoAction h).power.actions = rest)

/-- Sleep and wake events complete (R316 to R322): a request in IDLE starts the query phase; a late vote refuses; a stop step advances
the block that stops, or a refusing block rolls back, and waits while the channel controllers cannot answer; wake pins at their level are wake events; the wake ends in ACTIVE.
Where the spec is silent it takes the model's choices of assumption 44. -/
def Obligations.SleepEventsComplete : Prop :=
  (∀ s : State, sleepable s.hw = true → obj s.hw 0x7000 1 = 1 → obj s.hw 0x7000 4 ≠ 0 → grey s.hw = false →
    exec .automaticSleep s = .next (after s
      (let h := s.hw.place.moves.foldl (rollBack false) (begin s.hw)
       setObj (setPower h { h.power with sleep := some { path := none, start := now h, before := (List.range 62).map (domainState h) } }) 0x7000 1 0 3))) ∧
  (∀ (s : State) (block : Nat) (q : Sleep), (Instr.sleepVoteTimeout block).wf = true → s.hw.power.sleep = some q → q.stopping = false →
    exec (.sleepVoteTimeout block) s = .next (after s (refuseSleep (begin s.hw) block))) ∧
  (∀ (s : State) (q : Sleep) (sreFails : Option Nat), (Instr.sleepStopStep sreFails).wf = true → s.hw.power.sleep = some q →
    (q.stopping = true → exec (.sleepStopStep sreFails) s = .next (afterCore s (stopStep q (coreOf s) sreFails))) ∧
    (∀ b bs, q.stopping = false → refusing s.hw = b :: bs → exec (.sleepStopStep sreFails) s = .next (after s (refuseSleep (begin s.hw) b))) ∧
    (q.stopping = false → refusing s.hw = [] → dctDefers s.hw = false →
      exec (.sleepStopStep sreFails) s = .next (afterCore s
        (stopStep { q with stopping := true } ((coreOf s).onHw (fun h => setPower h { h.power with sleep := some { q with stopping := true } })) sreFails))) ∧
    (q.stopping = false → refusing s.hw = [] → dctDefers s.hw = true → exec (.sleepStopStep sreFails) s = .next (afterCore s (coreOf s)))) ∧
  (∀ (s : State) (q : Sleep), s.hw.power.sleep = some q → q.stopping = true → q.stopped = 4 → ((span 16 8).any (inService s.hw)) = true →
    exec .sleepLinkParkTimeout s = .next (after s (refuseSleep (begin s.hw) 5))) ∧
  (∀ (s : State) (high : Bool), (Instr.wake0 high).wf = true → high = flag s.hw 0x7010 2 → exec (.wake0 high) s = .next (after s (wakeEvent 1 0 (begin s.hw)))) ∧
  (∀ (s : State) (high : Bool), (Instr.wake1 high).wf = true → high = flag s.hw 0x7010 3 → exec (.wake1 high) s = .next (after s (wakeEvent 2 0 (begin s.hw))))

/-- A wake event during SLEEP begins a wake when its bit is set (R320, R321): the state goes to waking, the event, its time and its
detail are recorded; with its bit clear nothing changes. -/
def Obligations.WakeEventBeginsWake : Prop :=
  ∀ (h : Hw) (code detail : Nat), 1 ≤ code → h.mode = .run → h.power.sleep = none → obj h 0x7000 1 = 2 →
    (bitAt (obj h 0x7010 1) (code - 1) = true →
      let t := wakeEvent code detail h
      obj t 0x7000 1 = 4 ∧ obj t 0x7010 5 = code ∧ obj t 0x7010 6 = now h ∧ obj t 0x7010 7 = detail ∧ obj t 0x7010 8 = 2 ^ (code - 1) ∧
      t.power.wakeStart = now h ∧ t.link = h.link ∧ t.chans = h.chans ∧ t.place = h.place ∧ t.jobs = h.jobs) ∧
    (bitAt (obj h 0x7010 1) (code - 1) = false → wakeEvent code detail h = h)

/-! Temperature, trips, reset and start. -/

/-- Thermal and trip events complete (R325, R326, R328, R331, R333 to R342, R348): a sample reads the sensors whose gates ended and everything
follows that follows their readings, also on a tripped stack, where the peak of the trip follows too; a sensor that differs from the median of its peers fails and is out of its die's judgement; the gear ceiling follows 100.00 °C and Russet; a warm
coolant is reported once; distrust is armed and evaluated; a first-stage comparator trips the running stack; a second-stage comparator then
removes DRAM power and loses every line, whether the first has tripped the stack or trips it with it; with DRAM power removed a window reads the core-die and CS2 outlet sensors; the restart begins
once every sensor that has not failed reads at or below 90.00 °C.
Where the spec is silent it takes the model's choices of assumptions 31, 32, 33. -/
def Obligations.ThermalAndTripEventsComplete : Prop :=
  (∀ (s : State) (sensors : List (Nat × Nat)), (Instr.sensorSample sensors).wf = true → thmOn s.hw = true → s.hw.power.xckStopped = false →
    exec (.sensorSample sensors) s = .next (after s
      (let sensors := sensors.filter (fun r => s.hw.mode != .dramOff || (decide (128 ≤ r.1) && decide (r.1 < 154)))
       let ns := sensors.map Prod.fst
       let h := sensors.foldl readSensor (begin s.hw)
       let h := if h.mode = .trip ∨ h.mode = .dramOff then notePeak h sensors else h
       let ds := (List.range 16).filter (fun d => ns.any (fun n => n / 8 == d))
       let h := ds.foldl followBand h
       let h := if ns.any (fun n => decide (128 ≤ n) && decide (n < 152)) then followBase h else h
       let h := ds.foldl followCycle h
       let h := if ns.any (fun n => decide (152 ≤ n)) then followOutlets h else h
       thermalWake h sensors))) ∧
  (∀ (s : State) (n : Nat), (Instr.sensorFailed n).wf = true → thmOn s.hw = true → s.hw.power.xckStopped = false → readable s.hw n = true →
    (disagrees (begin s.hw) n = true → exec (.sensorFailed n) s = .next (after s
      (let h := if sensorOk (begin s.hw) n then raise (setObj (begin s.hw) 0x7801 n 0 1) Src.sensorFailed { selector := sensorSel n, detail := n } else begin s.hw
       if n < 128 then followDie h (n / 8) else if n < 152 then followBase h else followOutlets h))) ∧
    (disagrees (begin s.hw) n = false → exec (.sensorFailed n) s = .next (after s (begin s.hw)))) ∧
  (∀ s : State, s.hw.mode = .run → exec .distrustArm s = .next (after s (setObj (begin s.hw) 0x7820 5 0 1))) ∧
  (∀ s : State, awake s.hw = true → s.hw.faults.restarting = false → s.hw.power.xckStopped = false →
    (let h := (List.range 16).foldl evaluateDie (begin s.hw)
     (hotDies h = [] → exec .distrustEvaluation s = .next (afterCore s { coreOf s with hw := h })) ∧
     (∀ d ds, hotDies h = d :: ds → exec .distrustEvaluation s = .next (afterCore s (trip 3 d { coreOf s with hw := h }))))) ∧
  (∀ (s : State) (t : Nat), (Instr.gearCeilingStep t).wf = true → thmOn s.hw = true →
    (degC 100 ≤ trackTemp s.hw t → obj s.hw 0x7810 4 t < 2 ∨ obj s.hw 0x7810 4 t = 3 →
      (let c := if obj s.hw 0x7810 4 t = 3 then min 2 (gear s.hw t + 1) else obj s.hw 0x7810 4 t + 1
       exec (.gearCeilingStep t) s = .next (after s
        (modelRun (setTrk (setObj (begin s.hw) 0x7810 4 t c) t { trkSt s.hw t with ceilingAt := now s.hw, returning := false }))))) ∧
    (trackTemp s.hw t < degC 100 → band s.hw (2 * t) ≠ 2 → band s.hw (2 * t + 1) ≠ 2 →
      (obj s.hw 0x7810 4 t = 2 → exec (.gearCeilingStep t) s = .next (after s
        (modelRun (setTrk (setObj (begin s.hw) 0x7810 4 t 1) t { trkSt s.hw t with ceilingAt := now s.hw, returning := true })))) ∧
      (obj s.hw 0x7810 4 t < 2 → exec (.gearCeilingStep t) s = .next (after s
        (modelRun (setTrk (setObj (begin s.hw) 0x7810 4 t 3) t { trkSt s.hw t with ceilingAt := now s.hw, returning := true })))))) ∧
  (∀ s : State, s.hw.mode = .run → s.hw.therm.warm1 = false → tempObj s.hw 0x7860 4 0 < outletRise s.hw 1 →
    exec (.coolantWarm 1) s = .next (after s
      (raise (setActive (setTherm (begin s.hw) { s.hw.therm with warm1 := true }) Src.coolantWarm true) Src.coolantWarm { detail := 1 }))) ∧
  (∀ s : State, s.hw.mode = .run → s.hw.therm.warm2 = false → tempObj s.hw 0x7860 4 0 < outletRise s.hw 2 →
    exec (.coolantWarm 2) s = .next (after s
      (raise (setActive (setTherm (begin s.hw) { s.hw.therm with warm2 := true }) Src.coolantWarm true) Src.coolantWarm { detail := 2 }))) ∧
  (∀ (s : State) (n : Nat), (Instr.tripComparator n).wf = true → s.hw.mode = .run →
    exec (.tripComparator n) s = .next (afterCore s (trip (if n < 128 then 1 else 2) n (coreOf s)))) ∧
  (∀ (s : State) (n : Nat), (Instr.secondStageTrip n).wf = true → s.hw.mode = .trip →
    exec (.secondStageTrip n) s = .next (afterCore s
      (((coreOf s).onHw (fun h =>
        let h := (List.range 16).foldl (fun h d => setDomain (setDomain h (arrDomain d) 2) (colDomain d) 2) (railsDown h)
        { bump (setObj (setObj h 0x7880 1 0 2) 0x7880 6 0 1) 0x7880 8 with mode := .dramOff })).store .lose))) ∧
  (∀ (s : State) (n : Nat), (Instr.secondStageTrip n).wf = true → s.hw.mode = .run →
    exec (.secondStageTrip n) s = .next (afterCore s (removeDram (trip (if n < 128 then 1 else 2) n (coreOf s))))) ∧
  (∀ (s : State) (rs : List (Nat × Nat)), (Instr.dramMonitorWindow rs).wf = true → s.hw.mode = .dramOff → s.hw.power.xckStopped = false →
    exec (.dramMonitorWindow rs) s = .next (after s
      (let h := (List.range 16).foldl (fun h n => setDomain h (colDomain n) 0) (railsUp (begin s.hw))
       let h := sample (rs.filter (fun r => decide (r.1 < 128) || decide (154 ≤ r.1))) h
       railsDown ((List.range 16).foldl (fun h n => setDomain h (colDomain n) 2) h)))) ∧
  (∀ (s : State) (eyes : List (List Eye)), (Instr.tripRestart eyes).wf = true → allCool s.hw = true →
    (s.hw.mode = .trip → s.hw.image.valid = true → exec (.tripRestart eyes) s = .next (afterCore s ((coreOf s).onHw (restartFull true eyes)))) ∧
    (s.hw.mode = .dramOff → s.hw.image.valid = true →
      exec (.tripRestart eyes) s = .next (afterCore s (((coreOf s).store (.fill .all)).onHw (restartFull false eyes)))) ∧
    (s.hw.mode = .trip ∨ s.hw.mode = .dramOff → s.hw.image.valid = false →
      exec (.tripRestart eyes) s = .next (afterCore s ((coreOf s).onHw restartBare))))

/-- What a trip does (R336 to R339): from any mode with the data path up it leaves the stack tripped, and one that finds it held,
tripped or without DRAM power does nothing; after the end of a shutdown it only drives the balls (R451); its record names the cause and the sensor, drives THERM_TRIP_N and ERR_N low and counts. -/
def Obligations.TripTakesEffect : Prop :=
  (∀ (c : Core) (cause sensor : Nat), c.hw.mode = .run ∨ c.hw.mode = .powerUp ∨ c.hw.mode = .stopping → (trip cause sensor c).hw.mode = .trip) ∧
  (∀ (c : Core) (cause sensor : Nat), c.hw.mode = .held ∨ c.hw.mode = .trip ∨ c.hw.mode = .dramOff → trip cause sensor c = c) ∧
  (∀ (c : Core) (cause sensor : Nat), c.hw.mode = .off → obj c.hw 0xC010 2 = 4 →
    trip cause sensor c = c.onHw (fun h => setTherm { h with thmErr := true } { h.therm with tripLow := true })) ∧
  (∀ (h : Hw) (cause sensor : Nat),
    let t := recordTrip cause sensor h
    t.therm.tripLow = true ∧ t.thmErr = true ∧ errLow t = true ∧ t.therm.tripAt = now h ∧
    obj t 0x7880 1 = 1 ∧ obj t 0x7880 3 = cause ∧ obj t 0x7880 4 = sensor ∧ obj t 0x7880 6 = 0 ∧
    obj t 0x7880 2 = satAdd (objWidth 0x7880 2) (obj h 0x7880 2) 1 ∧ t.chans = h.chans ∧ t.place = h.place)

/-- The band of a die has 2 °C of hysteresis (R329, Table 12.2): above 95.00 °C Russet, above 85.00 °C not Green; a die leaves Russet
at or below 93.00 °C and returns to Green at or below 83.00 °C; between the limits it keeps the band it has. -/
def Obligations.BandsHaveHysteresis : Prop :=
  ∀ (t : Int) (b : Nat), b ≤ 2 →
    (degC 95 < t → nextBand t b = 2) ∧
    (degC 93 < t → t ≤ degC 95 → nextBand t b = max b 1) ∧
    (degC 85 < t → t ≤ degC 93 → nextBand t b = 1) ∧
    (degC 83 < t → t ≤ degC 85 → nextBand t b = min b 1) ∧
    (t ≤ degC 83 → nextBand t b = 0)

/-- Reset and power events complete (R311, R438 to R449, R451): RESET_N resets the stack and loses every line; its release samples ADDR
and runs power-up to the open report window; power-up ends in ACTIVE with zero-fill done; the last step of a shutdown, the fall of
PWR_OK and the loss of the rails.
Where the spec is silent it takes the model's choices of assumptions 1, 37, 71, 72. -/
def Obligations.StartEventsComplete : Prop :=
  (∀ s : State, s.hw.mode ≠ .held → exec .resetNLow s = .next (afterCore s (((coreOf s).onHw bare).store .lose))) ∧
  (∀ (s : State) (strap : Nat) (failed : List Nat), (Instr.resetNRelease strap failed).wf = true → s.hw.mode = .held →
    exec (.resetNRelease strap failed) s = .next (after s
      (let h := { bare (begin s.hw) with mode := .powerUp, boot := { strap := strap } }
       let h := bootUp (fuseCheck (firstDomains (setObj h 0x1120 5 0 strap)))
       let h := selfTest failed (setObj h 0x2200 1 0 (obj h 0x1000 3))
       setObj (setTest h { h.test with window := true, windowAt := now h, accepted := false, reportIn := [] }) 0xC000 1 0 4))) ∧
  (∀ (s : State) (found : List (List Byte)), (Instr.endOfPowerUp found).wf = true → s.hw.mode = .powerUp → s.hw.test.window = false → obj s.hw 0x7880 1 ≠ 3 →
    exec (.endOfPowerUp found) s = .next (afterCore s
      (((coreOf s).store (.fill (fillZone s.hw))).onHw (fun h =>
        let h := interconnect found h
        let d := draw h 38
        let h := setObj (setObj d.2 0xC000 2 0 (now d.2 / 1000)) 0xC001 2 0 (if fillZone d.2 = .all then 19500 else d.1 % 2 ^ 32)
        let h := if obj h 0x7880 1 = 3 then setObj (setObj h 0x7880 1 0 0) 0x7880 7 0 ((now h - h.therm.tripAt) / 1000000) else h
        goActive 0 h)))) ∧
  (∀ (s : State) (found : List (List Byte)), (Instr.endOfPowerUp found).wf = true → s.hw.mode = .powerUp → s.hw.test.window = false → obj s.hw 0x7880 1 = 3 →
    exec (.endOfPowerUp found) s = .next (afterCore s (powerUpEnd found (coreOf s)))) ∧
  (∀ s : State, exec .lossOfRails s = .next (afterCore s
    (((coreOf s).onHw (fun h => (List.range 62).foldl (fun h d => setObj h 0x7040 d 0 2) { bare h with mode := .off })).store .lose))) ∧
  (∀ s : State, s.hw.mode ≠ .held → s.hw.mode ≠ .off →
    exec .pwrOkFall s = .next (after s
      ({ (span 2 28).foldl (fun h d => setDomain h d 2) (allSr (band (begin s.hw)) (idleLanes (begin s.hw))) with mode := .off }))) ∧
  (∀ s : State, s.hw.mode = .stopping → s.hw.boot.shutdownBist = false →
    exec .shutdownReady s = .next (afterCore s
      (((coreOf s).store .lose).onHw (fun h =>
        let h := railsDown ((2 :: span 4 58).foldl (fun h d => setDomain h d 2) (idleLanes h))
        let h := setObj (setObj { h with mode := .off } 0xC010 2 0 4) 0xC010 3 0 ((now h - h.boot.shutdownAt) / 1000)
        match h.boot.shutdownPath with
        | some p => finishOp h p { status := .ok, total := 4 }
        | none => h))))

/-- What RESET_N leaves (R440, R429): after it the stack is held, every register reads its default, nothing but the fuses, the
test access port and the model's own count of free values outlives it, and no stored byte is known any more.
Where the spec is silent it takes the model's choices of assumption 71. -/
def Obligations.ResetLeavesFusesOnly : Prop :=
  ∀ s : State, s.hw.mode ≠ .held → ∃ t, exec .resetNLow s = .next t ∧ t.hw.mode = .held ∧ t.pending = s.pending ∧
    (∀ idx sub unit, obj t.hw idx sub unit = regDefault (regKey idx sub unit)) ∧
    t.hw.test.normal = s.hw.test.normal ∧ t.hw.test.strict = s.hw.test.strict ∧ t.hw.link = {} ∧ t.hw.chans = {} ∧ t.hw.place = {} ∧
    t.hw.jobs = {} ∧ t.hw.dict = {} ∧ t.hw.faults = {} ∧ t.hw.therm = {} ∧ t.hw.power = {} ∧ t.hw.clock = {} ∧ t.hw.out = [] ∧
    t.dram = DramOp.run s.dram .lose

/-! Milestone, the time counter and the stewards; fuses and the test port; the Ouvend receiver. -/

/-- Milestone, time, steward, fuse, interconnect, BIST and session events complete (R380, R396, R397, R402 to R404, R424, R425, R430, R432,
R435). -/
def Obligations.FaultAndTestEventsComplete : Prop :=
  (∀ s : State, s.hw.mode = .run ∨ s.hw.mode = .stopping → s.hw.faults.ballLow = false →
    exec .milestoneBallEdge s = .next (after s (milestone (begin s.hw) 1 0))) ∧
  (∀ s : State, s.hw.faults.ballLow = true →
    exec .milestoneRelease s = .next (after s (emit (setFaults (begin s.hw) { s.hw.faults with ballLow := false }) .milestoneReleased))) ∧
  (∀ (s : State) (time : Nat), (Instr.beacon time).wf = true → aoOn s.hw = true → exec (.beacon time) s = .next (after s (beacon time (begin s.hw)))) ∧
  (∀ s : State, stewardsRun s.hw = true →
    exec .stewardMismatch s = .next (after s
      (let again := match s.hw.faults.lastMismatch with | some t => decide (now s.hw ≤ t + sec 1) | none => false
       let h := raise (bump (setFaults (begin s.hw) { s.hw.faults with lastMismatch := some (now s.hw) }) 0x8200 2) Src.stewardMismatch
       restartStewards (if again then raise h Src.stewardMismatchRepeat else h)))) ∧
  (∀ s : State, stewardsRun s.hw = true →
    exec .stewardWatchdog s = .next (after s (restartStewards (raise (begin s.hw) Src.stewardWatchdog)))) ∧
  (∀ s : State, s.hw.faults.restarting = true →
    exec .stewardRestartComplete s = .next (after s
      (let h := setObj (setFaults (begin s.hw) { s.hw.faults with restarting := false, modelDue := false }) 0x8200 3 0 ((now s.hw - s.hw.faults.runStart) / 1000)
       if s.hw.faults.modelDue then runModels h false else h))) ∧
  (∀ s : State, s.hw.test.applyPaths ≠ [] → quiescent s.hw = true →
    exec .calibrationQuiescentPoint s = .next (after s
      (let h := setObj (takeShadows (begin s.hw)) 0xA020 5 0 0
       s.hw.test.applyPaths.foldl (fun h p => finishOp (bump h 0xA020 6) p { status := .ok, total := 4 }) (setTest h { h.test with applyPaths := [] })))) ∧
  (∀ (s : State) (p : Nat) (ps : List Nat), s.hw.test.applyPaths = p :: ps →
    exec .applyTimeout s = .next (after s (finishOp (setTest (begin s.hw) { s.hw.test with applyPaths := ps }) p { status := .notReady, total := 4 }))) ∧
  (∀ (s : State) (failing d p : Nat), (Instr.arrayTestComplete failing).wf = true → s.hw.test.testDie = some d → s.hw.test.testPath = some p →
    exec (.arrayTestComplete failing) s = .next (afterCore s
      (((coreOf s).store (.fill (.die d))).onHw (fun h =>
        let h := setObj (setObj h 0xB300 2 d (if failing = 0 then 2 else 3)) 0xB300 3 d failing
        let h := setDomain (setDomain h (arrDomain d) 2) (dctDomain (d / 2)) 2
        let h := match h.test.testPath with | some p => finishOp h p { status := .ok, total := 4 } | none => h
        setTest h { h.test with testDie := none, testPath := none })))) ∧
  (∀ s : State, exec .reportWindowTimeout s = .next (after s (setTest (begin s.hw) { s.hw.test with window := false }))) ∧
  (∀ (s : State) (found lanes : List (List Byte)) (layers : List Nat), (Instr.bistComplete found lanes layers).wf = true → obj s.hw 0xB010 2 = 1 →
    exec (.bistComplete found lanes layers) s = .next (after s (bistDone found lanes layers (begin s.hw)))) ∧
  (∀ s : State, obj s.hw 0x1010 1 = 1 →
    exec .loadingAbandoned s = .next (after s (raise (bump (closeSession (begin s.hw) s.hw.dict.prior) 0x1010 9) Src.loadingAbandoned)))

/-- A BEACON (R402): with synchronisation enabled and the sum of its TIME and the declared delay ahead of the counter by more than the
threshold, the counter steps to that sum; by no more than the threshold, the counter keeps its value and the difference is left to slew. -/
def Obligations.BeaconSteps : Prop :=
  ∀ (h : Hw) (time : Nat), flag h 0x9030 1 = true →
    let e : Int := (time : Int) + obj h 0x9030 2 - now h
    ((obj h 0x9030 3 : Int) < e → now (beacon time h) = time + obj h 0x9030 2) ∧
    (e ≤ obj h 0x9030 3 → now (beacon time h) = now h ∧ (beacon time h).clock.slew = e)

/-- The boundary-scan port (R429): an instruction is selected whatever the stack does; EXTEST, CLAMP and HIGHZ drive the balls only while
RESET_N is low and act as BYPASS otherwise; SAMPLE/PRELOAD loads the cells and drives nothing. -/
def Obligations.TestAccessPort : Prop :=
  (∀ s : State, exec .tapReset s = .next (after s (setTest (begin s.hw) { s.hw.test with tapInstr := 1 }))) ∧
  (∀ s : State, exec .idcode s = .next (after s (setTest (begin s.hw) { s.hw.test with tapInstr := 1 }))) ∧
  (∀ s : State, exec .highz s = .next (after s (setTest (begin s.hw) { s.hw.test with tapInstr := 5 }))) ∧
  (∀ (s : State) (cells : Nat), (Instr.samplePreload cells).wf = true →
    exec (.samplePreload cells) s = .next (after s (setTest (begin s.hw) { s.hw.test with tapInstr := 2, cells := cells }))) ∧
  (∀ (s : State) (cells : Nat), (Instr.extest cells).wf = true → s.hw.mode = .held →
    exec (.extest cells) s = .next (after s (setTest (begin s.hw) { s.hw.test with tapInstr := 0, cells := cells }))) ∧
  (∀ (s : State) (cells : Nat), (Instr.clamp cells).wf = true → s.hw.mode = .held →
    exec (.clamp cells) s = .next (after s (setTest (begin s.hw) { s.hw.test with tapInstr := 4, cells := cells }))) ∧
  (∀ (s : State) (code : Nat), (Instr.internalScan code).wf = true →
    exec (.internalScan code) s = .next (after s (setTest (begin s.hw) { s.hw.test with tapInstr := code }))) ∧
  (∀ (s : State) (code : Nat), (Instr.bypass code).wf = true →
    exec (.bypass code) s = .next (after s (setTest (begin s.hw) { s.hw.test with tapInstr := code }))) ∧
  (∀ (h : Hw) (cell : Nat) (own : Bool), h.mode ≠ .held → ball h cell own = some own) ∧
  (∀ (h : Hw) (cell : Nat) (own : Bool), h.mode = .held →
    (h.test.tapInstr = 5 → ball h cell own = none) ∧
    (h.test.tapInstr = 0 ∨ h.test.tapInstr = 4 → ball h cell own = some (bitAt h.test.cells cell)) ∧
    (h.test.tapInstr = 1 ∨ h.test.tapInstr = 2 → ball h cell own = some own))

/-- The Ouvend receiver (R356 to R362, R370, R322): POLL is answered with the held final answer, again at every POLL, or with STATUS; a
run that a start delimiter follows begins a reception, one of twice its amplitude takes over and a weaker one is not seen, a window without one ends the search; a frame in error
is counted; a final answer is held for POLL; a wake ends in ACTIVE and serves the held frame.
Where the spec is silent it takes the model's choices of assumptions 75, 78. -/
def Obligations.OuvendEventsComplete : Prop :=
  (∀ (s : State) (dest : Nat), (Instr.poll dest).wf = true → ovbHears s.hw = true → toStrap s.hw dest = true →
    (∀ body, (path s.hw 0).held = some body →
      exec (.poll dest) s = .next (after s (reply (bump (frameEnd (begin s.hw)) 0x1040 1) 2 body))) ∧
    ((path s.hw 0).held = none →
      exec (.poll dest) s = .next (after s (reply (bump (frameEnd (begin s.hw)) 0x1040 1) 4 (statusPayload (bump (frameEnd (begin s.hw)) 0x1040 1)))))) ∧
  (∀ (s : State) (amplitude reference : Nat) (delimiter : Bool), (Instr.preambleDetect amplitude delimiter reference).wf = true → ovbHears s.hw = true →
    (let start := fun (h : Hw) => ({ h with dict := { h.dict with search := !delimiter, reception := if delimiter then some reference else none } } : Hw)
     (∀ ref, s.hw.dict.reception = some ref → 2 * ref ≤ amplitude →
       exec (.preambleDetect amplitude delimiter reference) s = .next (after s (start (bump (begin s.hw) 0x1040 5)))) ∧
     (∀ ref, s.hw.dict.reception = some ref → amplitude < 2 * ref →
       exec (.preambleDetect amplitude delimiter reference) s = .next (after s (begin s.hw))) ∧
     (s.hw.dict.reception = none → s.hw.dict.search = true →
       exec (.preambleDetect amplitude delimiter reference) s = .next (after s (start (bump (begin s.hw) 0x1040 6)))) ∧
     (s.hw.dict.reception = none → s.hw.dict.search = false →
       exec (.preambleDetect amplitude delimiter reference) s = .next (after s (start (begin s.hw)))))) ∧
  (∀ s : State, ovbHears s.hw = true → s.hw.dict.search = true →
    exec .falseDetection s = .next (after s (frameEnd (bump (begin s.hw) 0x1040 4)))) ∧
  (∀ (s : State) (f : List Byte), (Instr.ouvendFrameError f).wf = true → ovbHears s.hw = true → frameCrcOk f = false →
    exec (.ouvendFrameError f) s = .next (after s (bump (frameEnd (begin s.hw)) 0x1040 2))) ∧
  (∀ (s : State) (q : PendingOp) (body : List Byte), (path s.hw 0).pending = some q → q.final = some body →
    exec (.finalAnswer 0) s = .next (after s
      (let h := if q.recorded then recordOp (begin s.hw) 0 q.body body else begin s.hw
       setPath h 0 { path h 0 with pending := none, held := some body }))) ∧
  (∀ (s : State) (lost : List (Nat × Nat × BitVec 576)), (Instr.wakeComplete lost).wf = true → s.hw.mode = .run → obj s.hw 0x7000 1 = 4 →
    exec (.wakeComplete lost) s = .next (afterCore s (serveHeld ((coreOf s).onHw (wakeDone lost)))))

/-! The dictionary. -/

/-- GET, SET, LIST and BLOCK-GET complete (R366 to R368, R379): a GET answers the value at the selector, or a part of a STRING or BLOB from
OFFSET on; a SET writes every member that the selector names, an RWL object's shadow or else the value in force, or adds a segment;
a STRING or BLOB that cannot be read now is NOT_READY; LIST answers catalogue entries; BLOCK-GET answers values from its subindex on,
and takes the status of a GET of its first one.
Where the spec is silent it takes the model's choices of assumptions 77, 81. -/
def Obligations.DictionaryOperationsComplete : Prop :=
  ∀ (s : State) (src : OpSource) (p : Nat) (b : OpBody) (h : Hw), src.wf = true → Takes s src p b h →
    (∀ r, b.op = 1 → rowAt b.index b.sub = some r → segmented b.index b.sub = false → r.idx ≠ 0x2231 → r.idx ≠ 0x2232 →
      exec (.get src) s = .next (Answered s p b
        { status := .ok, count := 1, total := r.size, data := leBytes r.size (readAt h p r b.sub b.selector (b.flags == 1)) }
        (powerOtp h p r.idx b.sub))) ∧
    (∀ r v sel, b.op = 1 → rowAt b.index b.sub = some r → segmented b.index b.sub = true →
      readBytes { coreOf s with hw := h } p r b.sub b.selector (b.flags == 1) = some (v, sel) →
      (let part := (v.drop b.offset).take 240
       exec (.get src) s = .next (Answered s p b
         { status := .ok, count := bit !part.isEmpty, total := v.length, selector := sel, data := part }
         (if b.index = 0xB200 then (debugAccess { coreOf s with hw := h } (obj h 0xB200 1 p) 2).hw else powerOtp h p b.index b.sub)))) ∧
    (∀ r, b.op = 1 → rowAt b.index b.sub = some r → segmented b.index b.sub = true →
      readBytes { coreOf s with hw := h } p r b.sub b.selector (b.flags == 1) = none →
      exec (.get src) s = .next (Answered s p b { status := .notReady } h)) ∧
    (∀ r, b.op = 2 → h.mode ≠ .off → rowAt b.index b.sub = some r → segmented b.index b.sub = false →
      exec (.set src) s = .next (Answered s p b { status := .ok, total := r.size }
        ((selMembers b.selector r.depth).foldl (fun h u => putVal h p r b.sub (leNat b.data) u) h))) ∧
    (∀ r v c, b.op = 2 → h.mode ≠ .off → rowAt b.index b.sub = some r → segmented b.index b.sub = true → b.index ≠ 0xB200 →
      segment h (segKey b.index b.sub p) (segmentMax r) (segmentBase h p b.index b.sub) b.offset b.data = some (some v) →
      putBytes { coreOf s with hw := h } p b.index b.sub v = some c →
      exec (.set src) s = .next (afterCore s (c.onHw (fun h =>
        answerNow { h with dict := { h.dict with segments := tset h.dict.segments (segKey b.index b.sub p) (b.offset, b.data.length) } } p b
          { status := .ok, total := v.length } true)))) ∧
    (b.op = 4 →
      (let rows := listFrom b.index b.sub (if b.count = 0 then 15 else b.count)
       exec (.list src) s = .next (Answered s p b
         { status := .ok, count := rows.length, total := 16, data := (rows.map listEntry).flatten } h))) ∧
    (b.op = 5 →
      (let r := blockRead {} p b b.count b.sub h []
       exec (.blockGet src) s = .next (Answered s p b { status := if unreadable { coreOf s with hw := h } p b then .notReady else .ok, count := r.1, total := fixedTotal b, data := r.2.2 } r.2.1)))

/-- What precedes execution (R369, R371 to R373): during a steward restart every operation is answered RETRY; a malformed one
BAD_OPERATION; on a path with an operation pending BUSY, counted; one sent again gets the recorded answer and is not executed again;
one that a check of Table 13.10 refuses is answered with that check's status; once the shutdown has ended (R451) nothing is written
and no command acts: NOT_READY. Nothing else changes.
Where the spec is silent it takes the model's choices of assumption 65. -/
def Obligations.RefusedOperationDoesNothing : Prop :=
  ∀ (s : State) (src : OpSource) (p : Nat) (b : OpBody) (h : Hw), src.wf = true → Served s src p b h →
    (∀ i : Instr, (b.op = 1 ∧ i = .get src) ∨ (b.op = 2 ∧ i = .set src) ∨ (b.op = 4 ∧ i = .list src) ∨ (b.op = 5 ∧ i = .blockGet src) →
      (h.faults.restarting = true → exec i s = .next (Answered s p b { status := .retry, total := fixedTotal b } h)) ∧
      (h.faults.restarting = false → malformed b = true → exec i s = .next (Answered s p b { status := .badOperation, total := fixedTotal b } h)) ∧
      (h.faults.restarting = false → malformed b = false → (path h p).pending.isSome = true →
        exec i s = .next (after s (bump (answerNow h p b { status := .busy, total := fixedTotal b } true) 0x1040 11))) ∧
      (∀ body, h.faults.restarting = false → malformed b = false → (path h p).pending = none → recorded h p b = some body →
        exec i s = .next (after s (sendAnswer (bump h 0x1040 9) p body))) ∧
      (∀ a, Fresh h p b → refusal h p b = some a → exec i s = .next (Answered s p b a h))) ∧
    (Fresh h p b → refusal h p b = none → h.mode = .off →
      (b.op = 2 → exec (.set src) s = .next (Answered s p b { status := .notReady, total := fixedTotal b } h)) ∧
      (∀ e ∈ [(Instr.beginLoading src, 0x1010, 2), (.commit src, 0x1010, 3), (.discard src, 0x1010, 4), (.arrayReset src, 0x1110, 3), (.retrainLink src, 0x2200, 6),
          (.pin src, 0x4001, 4), (.unpin src, 0x4001, 5), (.abortJob src, 0x6006, 1), (.beginKernelLoad src, 0x6100, 3), (.activateKernel src, 0x6100, 4),
          (.sleepRequest src, 0x7000, 3), (.force src, 0x8000, 9), (.clear src, 0x8000, 10), (.clearOccurrences src, 0x8000, 11), (.clearAllInactive src, 0x8001, 4),
          (.emptyFirstAndLastFault src, 0x8012, 4), (.enterGreyMode src, 0x8300, 2), (.resume src, 0x8300, 3), (.arm src, 0x9000, 1), (.trigger src, 0x9000, 8),
          (.injectStoredLine src, 0x9B00, 3), (.injectFlitCrc src, 0x9B00, 4), (.injectWriteCrc src, 0x9B00, 5), (.injectCommandParity src, 0x9B00, 6),
          (.injectOuvendCrc src, 0x9B00, 8), (.injectRouteEntry src, 0x9B00, 9), (.finaliseRegion src, 0xA004, 3), (.applyCalibration src, 0xA020, 3),
          (.lifecycleTransition src, 0xA040, 1), (.proceedWithoutReport src, 0xB000, 3), (.runShutdownBist src, 0xB010, 1), (.arrayTest src, 0xB300, 1),
          (.shutdown src, 0xC010, 1)],
        e.1.wf = true → b.names 3 e.2.1 e.2.2 = true → exec e.1 s = .next (Answered s p b { status := .notReady, total := 4 } h)))

/-- The commands of the configuration session, of fault sources, of Grey mode and of Milestone complete (R379 to R381, R388, R390, R391, R394,
R396, R399, R405, R407, R443), each from every path and state that runs it. BEGIN LOADING makes the path the owner, and before step 11 of
power-up is NOT_READY. COMMIT with every joint check passed puts the shadows in force at one instant, and tracks faster than their limit begin
to change gear; one that fails leaves everything but the record of where. DISCARD drops the shadows. FORCE reports a fault of its source, or is
NOT_READY for one that is disabled or unassigned; CLEAR takes STATUS and latch away, or is STILL_ACTIVE; CLEAR OCCURRENCES takes the count
away; CLEAR ALL INACTIVE clears every source whose condition does not hold, and is STILL_ACTIVE if a STATUS is left; the first and last
fault are emptied; Grey mode is entered; RESUME leaves it, is OK outside it, and NOT_READY while an INTEGRITY latch is set or the
placement stays Grey; ARM arms; TRIGGER triggers; a snapshot is read part by part, and is NOT_READY where there is none.
Where the spec is silent it takes the model's choices of assumption 106. -/
def Obligations.SessionAndFaultCommandsComplete : Prop :=
  ∀ (s : State) (src : OpSource) (p : Nat) (b : OpBody) (h : Hw), Takes s src p b h → h.mode ≠ .off →
    ((Instr.beginLoading src).wf = true → b.names 3 0x1010 2 = true →
      (h.mode ≠ .powerUp → exec (.beginLoading src) s = .next (Answered s p b okAnswer
        (setObj (closeSession { h with dict := { h.dict with prior := obj h 0x1010 1 } } 1) 0x1010 5 0 (p + 1)))) ∧
      (h.mode = .powerUp → exec (.beginLoading src) s = .next (Answered s p b { status := .notReady, total := 4 } h))) ∧
    ((Instr.commit src).wf = true → b.names 3 0x1010 3 = true →
      (commitFailure h = none →
        exec (.commit src) s = .next (afterCore s ((limitGears { coreOf s with hw := commitEffect h }).onHw (fun h => answerNow h p b okAnswer true)))) ∧
      (∀ st idx sub k, commitFailure h = some (st, idx, sub, k) →
        exec (.commit src) s = .next (Answered s p b { status := st, index := some idx, sub := some sub, total := 4 } (setObj k 0x1010 8 0 (idx * 256 + sub))))) ∧
    ((Instr.discard src).wf = true → b.names 3 0x1010 4 = true →
      exec (.discard src) s = .next (Answered s p b okAnswer (dropSession h))) ∧
    ((Instr.force src).wf = true → b.names 3 0x8000 9 = true →
      (let n := obj h 0x8000 1 p
       (assigned n = true → srcEnabled h n = true → exec (.force src) s = .next (Answered s p b okAnswer (raise h n { forced := true }))) ∧
       (assigned n = false ∨ srcEnabled h n = false → exec (.force src) s = .next (Answered s p b { status := .notReady, total := 4 } h)))) ∧
    ((Instr.clear src).wf = true → b.names 3 0x8000 10 = true →
      (let n := obj h 0x8000 1 p
       (srcActive h n = false → exec (.clear src) s = .next (Answered s p b okAnswer (setLatch (setObj h 0x8000 2 n 0) n false))) ∧
       (srcActive h n = true → exec (.clear src) s = .next (Answered s p b { status := .stillActive, total := 4 } h)))) ∧
    ((Instr.clearOccurrences src).wf = true → b.names 3 0x8000 11 = true →
      exec (.clearOccurrences src) s = .next (Answered s p b okAnswer (setObj h 0x8000 7 (obj h 0x8000 1 p) 0))) ∧
    ((Instr.clearAllInactive src).wf = true → b.names 3 0x8001 4 = true →
      (let t := (List.range 418).foldl (fun h n => if srcActive h n then h else setLatch (setObj h 0x8000 2 n 0) n false) h
       exec (.clearAllInactive src) s = .next (Answered s p b { status := if (List.range 418).any (srcStatus t) then .stillActive else .ok, total := 4 } t))) ∧
    ((Instr.emptyFirstAndLastFault src).wf = true → b.names 3 0x8012 4 = true →
      exec (.emptyFirstAndLastFault src) s = .next (Answered s p b okAnswer { h with faults := { h.faults with first := none, last := none } })) ∧
    ((Instr.enterGreyMode src).wf = true → b.names 3 0x8300 2 = true →
      exec (.enterGreyMode src) s = .next (Answered s p b okAnswer (enterGrey (raise h Src.greyByCommand) 2 none))) ∧
    ((Instr.resume src).wf = true → b.names 3 0x8300 3 = true →
      (grey h = true → integrityLatch h = false → obj h 0x4000 1 ≠ 3 →
        exec (.resume src) s = .next (Answered s p b okAnswer
          (let t := setObj h 0x8300 1 0 0
           let t := setPlace (setObj t 0x4000 1 0 t.faults.greyPlacement) { t.place with waitsEpoch := true }
           let t := (List.range 32).foldl (fun h e =>
             if engState h e = 3 && !engineUnit h e then setEngState h e (if domainState h (engDomain (e / 4)) = 0 then 0 else 2) else h) t
           (List.range 8).foldl reinput t))) ∧
      (grey h = true → integrityLatch h = true ∨ obj h 0x4000 1 = 3 →
        exec (.resume src) s = .next (Answered s p b { status := .notReady, total := 4 } h)) ∧
      (grey h = false → exec (.resume src) s = .next (Answered s p b okAnswer h))) ∧
    ((Instr.arm src).wf = true → b.names 3 0x9000 1 = true →
      exec (.arm src) s = .next (Answered s p b okAnswer (setObj h 0x9000 2 0 1))) ∧
    ((Instr.trigger src).wf = true → b.names 3 0x9000 8 = true →
      exec (.trigger src) s = .next (Answered s p b okAnswer (milestone h 2 0))) ∧
    ((Instr.snapshotRead src).wf = true → b.names 1 0x9020 2 = true →
      (∀ v sel, snapAt h p b.selector = some (v, sel) →
        exec (.snapshotRead src) s = .next (Answered s p b
          { status := .ok, count := bit !((v.drop b.offset).take 240).isEmpty, total := v.length, selector := some sel, data := (v.drop b.offset).take 240 } h)) ∧
      (snapAt h p b.selector = none → exec (.snapshotRead src) s = .next (Answered s p b { status := .notReady } h)))

/-- Fuse, calibration, lifecycle, interconnect and test commands complete (R412, R414, R416, R417, R424 to R427, R430, R432, R433, R435,
R450).
Where the spec is silent it takes the model's choices of assumptions 38, 49. -/
def Obligations.TestCommandsComplete : Prop :=
  ∀ (s : State) (src : OpSource) (p : Nat) (b : OpBody) (h : Hw), Takes s src p b h → h.mode ≠ .off →
    ((Instr.fuseWordRead src).wf = true → b.names 1 0xA003 2 = true →
      exec (.fuseWordRead src) s = .next (Answered s p b { status := .ok, count := 1, total := 4, data := leBytes 4 (fuseWord h (obj h 0xA003 1 p)) } (if cached h (obj h 0xA003 1 p) then h else otpRead h))) ∧
    ((Instr.fuseWordStrictRead src).wf = true → b.names 1 0xA003 3 = true →
      exec (.fuseWordStrictRead src) s = .next (Answered s p b { status := .ok, count := 1, total := 4, data := leBytes 4 (strictWord h (obj h 0xA003 1 p)) } (otpRead h))) ∧
    (∀ failing r, (Instr.burnWord src failing).wf = true → b.names 3 0xA004 2 = true → burnRegion (leNat b.data) = some r → burnOpen h r = true →
      finalised h r = false →
      (let v := obj h 0xA004 1 p
       let bad := v &&& failing
       exec (.burnWord src failing) s = .next (AnsweredLater s p b { status := if bad = 0 then .ok else .notReady, total := 4 }
         (if bad = 0 then burn h (leNat b.data) v bad else raise (burn h (leNat b.data) v bad) Src.fuseBurnFailed { detail := leNat b.data })))) ∧
    ((Instr.finaliseRegion src).wf = true → b.names 3 0xA004 3 = true →
      (let r := leNat b.data
       finalised h r = false → burnOpen h r = true → (∀ w ∈ (region r).words, marginal h w = false) →
       exec (.finaliseRegion src) s = .next (AnsweredLater s p b okAnswer
         (((region r).digestWords.zip (digestOf r (normalWord h))).foldl (fun h e => burn h e.1 e.2 0) h)))) ∧
    (∀ r v, (Instr.calibrationOverride src).wf = true → b.names 2 0xA020 4 = true → rowAt 0xA020 4 = some r →
      segment h (segKey 0xA020 4 p) (segmentMax r) h.test.overrideIn b.offset b.data = some (some v) →
      exec (.calibrationOverride src) s = .next (Answered s p b { status := .ok, total := v.length }
        (let h := overrideRecord (setTest h { h.test with overrideIn := v }) v
         { h with dict := { h.dict with segments := tset h.dict.segments (segKey 0xA020 4 p) (b.offset, b.data.length) } }))) ∧
    ((Instr.applyCalibration src).wf = true → b.names 3 0xA020 3 = true →
      exec (.applyCalibration src) s = .next (Waiting s p b (setTest h { h.test with applyPaths := h.test.applyPaths ++ [p] }))) ∧
    ((Instr.lifecycleTransition src).wf = true → b.names 3 0xA040 1 = true → obj h 0xA040 4 = lifecycle h →
      (lifecycle h = 0 → leNat b.data = 1 → exec (.lifecycleTransition src) s = .next (AnsweredLater s p b okAnswer (burnState h 1))) ∧
      (lifecycle h < 3 → leNat b.data = 3 →
        exec (.lifecycleTransition src) s = .next (AnsweredLater s p b okAnswer (setObj (burnState h 3) 0x1002 1 0 3))) ∧
      (lifecycle h = 1 → leNat b.data = 2 → inUse h 2 = true → authorised h = false →
        exec (.lifecycleTransition src) s = .next (AnsweredLater s p b { status := .refused, total := 4 }
          (raise (bump (drawChallenge (otpRead h)) 0xA040 5) Src.lifecycleAuthFailed)))) ∧
    (∀ r v, (Instr.interconnectReportWrite src).wf = true → b.names 2 0xB000 1 = true → rowAt 0xB000 1 = some r → h.test.window = true →
      segment h (segKey 0xB000 1 p) (segmentMax r) h.test.reportIn b.offset b.data = some (some v) →
      exec (.interconnectReportWrite src) s = .next (Answered s p b { status := .ok, total := v.length }
        (let h := reportBytes h v
         { h with dict := { h.dict with segments := tset h.dict.segments (segKey 0xB000 1 p) (b.offset, b.data.length) } }))) ∧
    ((Instr.proceedWithoutReport src).wf = true → b.names 3 0xB000 3 = true →
      exec (.proceedWithoutReport src) s = .next (Answered s p b okAnswer (setTest h { h.test with window := false }))) ∧
    ((Instr.runShutdownBist src).wf = true → b.names 3 0xB010 1 = true →
      (obj h 0xB010 2 = 1 →
        exec (.runShutdownBist src) s = .next (Waiting s p b (setTest h { h.test with bistPaths := h.test.bistPaths ++ [p] }))) ∧
      (obj h 0xB010 2 ≠ 1 → h.mode = .run → obj h 0x7000 1 ≤ 1 → jobHeld h = false → reqHeld h = false →
        exec (.runShutdownBist src) s = .next (afterCore s
          ((startBist { coreOf s with hw := h }).onHw (fun h => answerPending (setTest h { h.test with bistPaths := h.test.bistPaths ++ [p] }) p b true))))) ∧
    ((Instr.debugLineRead src).wf = true → b.names 1 0xB200 2 = true → debugReady h (obj h 0xB200 1 p) = true →
      (let v := debugRead { coreOf s with hw := h } (obj h 0xB200 1 p)
       exec (.debugLineRead src) s = .next (Answered s p b
         { status := .ok, count := bit !((v.drop b.offset).take 240).isEmpty, total := v.length, data := (v.drop b.offset).take 240 }
         (debugAccess { coreOf s with hw := h } (obj h 0xB200 1 p) 2).hw))) ∧
    ((Instr.debugLineWrite src).wf = true → b.names 2 0xB200 2 = true → debugReady h (obj h 0xB200 1 p) = true → b.offset = 0 → b.data.length = 72 →
      exec (.debugLineWrite src) s = .next (afterCore s
        (((debugAccess { coreOf s with hw := h } (obj h 0xB200 1 p) 3).storeLine (locLine (obj h 0xB200 1 p)) (leNat (b.data.take 64) * 2 ^ 64 + leNat (b.data.drop 64))).onHw (fun h =>
          answerNow { h with dict := { h.dict with segments := tset h.dict.segments (segKey 0xB200 2 p) (0, 72) } } p b { status := .ok, total := 72 } true)))) ∧
    ((Instr.arrayTest src).wf = true → b.names 3 0xB300 1 = true →
      (let d := leNat b.data
       trackParked h (d / 2) = true → h.test.testDie = none → h.place.unparking.contains (d / 2) = false →
       exec (.arrayTest src) s = .next (Waiting s p b
         (let h := setDomain (setDomain h (dctDomain (d / 2)) 0) (arrDomain d) 0
          setTest (setObj h 0xB300 2 d 1) { h.test with testDie := some d, testPath := some p })))) ∧
    ((Instr.shutdown src).wf = true → b.names 3 0xC010 1 = true → jobHeld h = false → reqHeld h = false → h.power.sleep = none → obj h 0xC010 2 = 0 →
      awake h = true → leNat b.data = 0 →
      (let c := ({ coreOf s with hw := h } : Core).onHw (fun h =>
         let h := h.place.moves.foldl (rollBack false) h
         let h := h.place.journal.foldl (fun h _ => applyOldest h) h
         { h with boot := { h.boot with shutdownPath := if p = 0 then some 0 else none, shutdownAt := now h, shutdownBist := false } })
       let c := (drainEverything c).onHw (allSr (band c.hw))
       let c := c.onHw (fun h => setObj { h with mode := .stopping } 0xC010 2 0 1)
       exec (.shutdown src) s = .next (afterCore s (c.onHw (fun h =>
         if p = 0 then answerPending h p b true else answerNow h p b okAnswer true)))))

/-- Commands on the link, pins, array areas, injection, jobs, engines, the kernel store and sleep complete (R33, R86 to R88, R105, R167, R192,
R240 to R242, R248, R250, R298, R299, R319, R367).
Where the spec is silent it takes the model's choices of assumptions 82, 84, 110, 138, 139, 149. -/
def Obligations.BlockCommandsComplete : Prop :=
  ∀ (s : State) (src : OpSource) (p : Nat) (b : OpBody) (h : Hw), Takes s src p b h → h.mode ≠ .off →
    (∀ bits errors, (Instr.checkerCounterRead src bits errors).wf = true → b.readsChecker = true →
      (let r := readChecker (countChecker h b.sub bits errors) b.index b.sub
       exec (.checkerCounterRead src bits errors) s = .next (Answered s p b { status := .ok, count := 1, total := 8, data := leBytes 8 r.1 } r.2))) ∧
    ((Instr.clearCheckerCounters src).wf = true → b.namesRun 3 0x2234 0x00 0xD7 = true →
      exec (.clearCheckerCounters src) s = .next (Answered s p b okAnswer
        (setLane (setObj (setObj h 0x2231 b.sub 0 0) 0x2232 b.sub 0 0) b.sub { lane h b.sub with latchedBits := none, latchedErrors := none }))) ∧
    ((Instr.retrainLink src).wf = true → b.names 3 0x2200 6 = true → h.mode = .run → obj h 0x7000 1 ≤ 1 → obj h 0xB010 2 ≠ 1 → lifecycle h ≠ 3 →
      h.test.bistLinkDown = false →
      exec (.retrainLink src) s = .next (Answered s p b okAnswer (startDetect h (startRate h)))) ∧
    ((Instr.patternTest src).wf = true → b.namesRun 3 0x2233 0x00 0x17 = true →
      (leNat b.data = 0 → exec (.patternTest src) s = .next (Answered s p b okAnswer (endTest (endTestWait h b.sub okAnswer) b.sub))) ∧
      (leNat b.data ≠ 0 → awake h = true → linkActive h = true → inService h b.sub = true →
        (b.sub < 16 → exec (.patternTest src) s = .next (Answered s p b okAnswer (startTest h b.sub (leNat b.data)))) ∧
        (16 ≤ b.sub → exec (.patternTest src) s = .next (Waiting s p b
          (let h := startTest h b.sub (leNat b.data)
           setLaneset h b.sub { laneset h b.sub with testPath := some p }))))) ∧
    ((Instr.repairRequest src).wf = true → b.namesRun 3 0x2221 0x00 0x17 = true →
      (b.sub < 16 → awake h = true → linkActive h = true →
        exec (.repairRequest src) s = .next (Answered s p b okAnswer
          (sendCtl h (.repairReq b.sub ((stripeAt (laneset h b.sub) (leNat b.data)).getD 0xFF) ((laneset h b.sub).spare.getD 0xFF))))) ∧
      (b.sub < 16 → awake h = false ∨ linkActive h = false → exec (.repairRequest src) s = .next (Answered s p b okAnswer h)) ∧
      (∀ st sp, 16 ≤ b.sub → awake h = true → linkActive h = true → inService h b.sub = true →
        stripeAt (laneset h b.sub) (leNat b.data) = some st → (laneset h b.sub).spare = some sp →
        exec (.repairRequest src) s = .next (Answered s p b okAnswer (askRepair h b.sub (leNat b.data) false))) ∧
      (16 ≤ b.sub → awake h = false ∨ linkActive h = false ∨ inService h b.sub = false ∨ stripeAt (laneset h b.sub) (leNat b.data) = none ∨
          (laneset h b.sub).spare = none →
        exec (.repairRequest src) s = .next (Answered s p b { status := .notReady, total := 4 } h))) ∧
    ((Instr.pin src).wf = true → b.names 3 0x4001 4 = true →
      (obj h 0x4001 1 p + leNat b.data ≤ parcels → awake h = true →
        exec (.pin src) s = .next (Answered s p b okAnswer ((span (obj h 0x4001 1 p) (leNat b.data)).foldl (fun h q =>
          let r := lookup h q
          if entPinned r.2 = true then r.1
          else setRoute r.1 q (entryOf (entTrack r.2) (entSlot r.2) (entState r.2) (entReleased r.2) true)) h))) ∧
      (parcels < obj h 0x4001 1 p + leNat b.data → exec (.pin src) s = .next (Answered s p b { status := .badValue, total := 4 } h))) ∧
    ((Instr.unpin src).wf = true → b.names 3 0x4001 5 = true →
      (obj h 0x4001 1 p + leNat b.data ≤ parcels → awake h = true →
        exec (.unpin src) s = .next (Answered s p b okAnswer ((span (obj h 0x4001 1 p) (leNat b.data)).foldl (fun h q =>
          let r := lookup h q
          if entPinned r.2 = false then r.1
          else setRoute r.1 q (entryOf (entTrack r.2) (entSlot r.2) (entState r.2) (entReleased r.2) false)) h))) ∧
      (parcels < obj h 0x4001 1 p + leNat b.data → exec (.unpin src) s = .next (Answered s p b { status := .badValue, total := 4 } h))) ∧
    ((Instr.arrayReset src).wf = true → b.names 3 0x1110 3 = true →
      ((∀ d ∈ selMembers b.selector 2, resetBarred h d = false) →
        exec (.arrayReset src) s = .next (afterCore s
          ((startResets { coreOf s with hw := { h with chans := { h.chans with resets := h.chans.resets ++ [(p, selMembers b.selector 2)] } } }).onHw
            (fun h => answerPending h p b true)))) ∧
      (∀ d, (selMembers b.selector 2).find? (resetBarred h) = some d →
        exec (.arrayReset src) s = .next (Answered s p b { status := .notReady, selector := some (unitSel 2 d), total := 4 } h))) ∧
    ((Instr.injectStoredLine src).wf = true → b.names 3 0x9B00 3 = true → awake h = true →
      (let line := obj h 0x9B00 1 p
       let t := (lookup h (line / 1024)).1
       let e := (lookup h (line / 1024)).2
       let n := physOf e line
       entReleased e = false → dieOn t (lineDie n) = true →
       (let c : Core := { coreOf s with hw := t }
        let c := match wqFind t n with | some w => drainEntry c w | none => c
        exec (.injectStoredLine src) s = .next (afterCore s
          ((c.storeLine n (cellBits c n ^^^ checkMask (obj t 0x9B00 2 p))).onHw (fun h =>
            let k := chSt h (chOf (pPc n))
            let h := setCh h (chOf (pPc n)) { k with corr := k.corr.map (fun x => if x.phys == n then { x with stale := true } else x) }
            let h := markDirty { h with chans := { h.chans with specPoison := tdel h.chans.specPoison n } } (line / 1024) (line % 1024)
            answerNow { h with react := { h.react with injected := h.react.injected + 1 } } p b okAnswer true)))))) ∧
    ((Instr.injectFlitCrc src).wf = true → b.names 3 0x9B00 4 = true → h.inject.flit = none →
      exec (.injectFlitCrc src) s = .next (Answered s p b okAnswer { h with inject := { h.inject with flit := some (leNat b.data) } })) ∧
    ((Instr.injectWriteCrc src).wf = true → b.names 3 0x9B00 5 = true → h.inject.write = none →
      exec (.injectWriteCrc src) s = .next (Answered s p b okAnswer { h with inject := { h.inject with write := some (leNat b.data) } })) ∧
    ((Instr.injectCommandParity src).wf = true → b.names 3 0x9B00 6 = true → h.inject.parity = none →
      exec (.injectCommandParity src) s = .next (Answered s p b okAnswer { h with inject := { h.inject with parity := some (leNat b.data) } })) ∧
    ((Instr.injectOuvendCrc src).wf = true → b.names 3 0x9B00 8 = true → h.inject.reply = false →
      exec (.injectOuvendCrc src) s = .next (Answered s p b okAnswer { h with inject := { h.inject with reply := true } })) ∧
    ((Instr.injectRouteEntry src).wf = true → b.names 3 0x9B00 9 = true → h.place.sramBad = [] →
      exec (.injectRouteEntry src) s = .next (Answered s p b okAnswer
        (let v := leNat b.data
         let h := setPlace h { h.place with sramBad := tput 0 [] (v % 2097152) (if bitAt v 21 then 2 else 1) }
         { h with react := { h.react with injected := h.react.injected + 1 } }))) ∧
    ((Instr.abortJob src).wf = true → b.names 3 0x6006 1 = true →
      (let port := field (leNat b.data) 17 16
       let id := leNat b.data % 65536
       let done := fun (c : Core) (a : Status) => Host.Outcome.next (afterCore s (c.onHw (fun h => answerNow h p b { status := a, total := 4 } true)))
       (jobNamed h port id = none → exec (.abortJob src) s = done { coreOf s with hw := h } .noSuchJob) ∧
       (∀ j q, jobNamed h port id = some j → jobAt h j = some q →
         (q.status = none → q.committed = true → exec (.abortJob src) s = done { coreOf s with hw := h } .alreadyComplete) ∧
         (∀ st, q.status = some st → exec (.abortJob src) s = done (tryComplete j q { coreOf s with hw := h }).1 .alreadyComplete) ∧
         (∀ q', q.status = none → q.committed = false →
           jobAt (endJob h j 5 (noResult q)) j = some q' →
           exec (.abortJob src) s = done (tryComplete j q' { coreOf s with hw := endJob h j 5 (noResult q) }).1 .ok)))) ∧
    ((Instr.resetEngine src).wf = true → b.namesRun 3 0x6015 0x00 0x1F = true → servesParts h b.sub = true →
      exec (.resetEngine src) s = .next (Answered s p b okAnswer (engineReset b.sub h))) ∧
    (∀ k, (Instr.beginKernelLoad src).wf = true → b.names 3 0x6100 3 = true → loadsBarred h = false →
      (List.range 64).find? (fun k => !thas (dropLoad h p).jobs.store k && (dropLoad h p).jobs.loads.all (fun l => l.2.1 != k)) = some k →
      exec (.beginKernelLoad src) s = .next (Answered s p b okAnswer
        (let h := dropLoad h p
         setObj (forgetSegment (setLoad h p (some (k, obj h 0x6100 1 p, []))) p) 0x6104 1 0 (obj h 0x6104 1 - 1)))) ∧
    (∀ r v slot k bs, (Instr.kernelImageAppend src).wf = true → b.names 2 0x6100 2 = true → rowAt 0x6100 2 = some r → loadsBarred h = false →
      tfind h.jobs.loads p = some (slot, k, bs) → segment h (segKey 0x6100 2 p) (segmentMax r) bs b.offset b.data = some (some v) →
      exec (.kernelImageAppend src) s = .next (Answered s p b { status := .ok, total := v.length }
        (let h := setLoad h p (some (slot, k, v))
         { h with dict := { h.dict with segments := tset h.dict.segments (segKey 0x6100 2 p) (b.offset, b.data.length) } }))) ∧
    (∀ slot k bs, (Instr.activateKernel src).wf = true → b.names 3 0x6100 4 = true → loadsBarred h = false → tfind h.jobs.loads p = some (slot, k, bs) →
      (crc32c bs = leNat b.data → bs.length ≤ 16384 →
        exec (.activateKernel src) s = .next (Answered s p b okAnswer
          (let old := obj h 0x6102 k
           let h := forgetSegment (setLoad h p none) p
           let h := setJobs h { h.jobs with store := tset h.jobs.store slot bs }
           freeStore (setObj (bump h 0x6101 k) 0x6102 k 0 slot) old))) ∧
      (crc32c bs ≠ leNat b.data ∨ 16384 < bs.length →
        exec (.activateKernel src) s = .next (Answered s p b { status := .badValue, total := 4 } (dropLoad h p)))) ∧
    ((Instr.retireKernel src).wf = true → b.namesRun 3 0x6105 0x00 0x3F = true →
      exec (.retireKernel src) s = .next (Answered s p b okAnswer
        (freeStore (setObj (setObj h 0x6102 b.sub 0 0xFF) 0x6101 b.sub 0 0) (obj h 0x6102 b.sub)))) ∧
    ((Instr.sleepRequest src).wf = true → b.names 3 0x7000 3 = true → sleepable h = true →
      exec (.sleepRequest src) s = .next (Waiting s p b (startSleep (some p) h)))


/-! Kernel instructions. -/

/-- System and control instructions complete (R256, R257, R261, R274 to R276): NOP and FENCE retire; END and ENDP ask for the commit
grant; TRAP, a word that is no instruction and a PC beyond the image trap with their codes; MILESTONE is a trigger event, counted where it
finds the trigger idle; TIME reads the counter; JR, JALR, BR and CALL go to their targets.
Where the spec is silent it takes the model's choices of assumptions 54, 100. -/
def Obligations.KernelControlComplete : Prop :=
  (∀ (s : State) (c : KCtx), c.e < 32 → Fetches s c →
    (c.x.op = .nop → exec (.kNop c.e) s = .next (Retires s c (coreOf s))) ∧
    (c.x.op = .fence → exec (.kFence c.e) s = .next (Retires s c (coreOf s))) ∧
    (Runs c [] →
      (c.x.op = .stop →
        exec (.kEnd c.e) s = .next (afterCore s ((coreOf s).onHw (fun h => setEngine h c.e { engine h c.e with asking := some 0 })))) ∧
      (c.x.op = .endp →
        exec (.kEndp c.e) s = .next (afterCore s ((coreOf s).onHw (fun h => setEngine h c.e { engine h c.e with asking := some 1 })))) ∧
      (c.x.op = .trap → exec (.kTrap c.e) s = .next (Traps s c (0x10 + c.x.ra % 16))) ∧
      (c.x.op = .milestone →
        exec (.kMilestone c.e) s = .next (Retires s c ((coreOf s).onHw (fun h =>
          if obj h 0x9000 2 = 1 ∧ bitAt (obj h 0x9000 3) 3 = true then milestone h 4 c.e else bump (milestone h 4 c.e) 0x6200 7)))) ∧
      (c.x.op = .time → exec (.kTime c.e) s = .next (Writes s c (fun k => k.setS c.x.rd (now s.hw) false))) ∧
      (c.x.op = .br →
        exec (.kBr c.e) s = .next (afterCore s (retire c.e (ofSigned 64 ((c.k.pc : Int) + 4 * c.x.imm)) (coreOf s)))) ∧
      (c.x.op = .call →
        exec (.kCall c.e) s = .next (afterCore s (retire c.e (ofSigned 64 ((c.k.pc : Int) + 4 * c.x.imm))
          (setKern c.e (fun k => k.setS c.x.rd (c.k.pc + 8) false) (coreOf s)))))) ∧
    (Runs c [c.x.ra] →
      (c.x.op = .jr → exec (.kJr c.e) s = .next (afterCore s (retire c.e (c.k.sreg c.x.ra / 4 * 4) (coreOf s)))) ∧
      (c.x.op = .jalr →
        exec (.kJalr c.e) s = .next (afterCore s (retire c.e ((c.k.setS c.x.rd (c.k.pc + 4) false).sreg c.x.ra / 4 * 4)
          (setKern c.e (fun k => k.setS c.x.rd (c.k.pc + 4) false) (coreOf s))))))) ∧
  (∀ (s : State) (e j i : Nat) (q : Job), (Instr.kIllegal e).wf = true → kernelAt s.hw e = some (j, i, q, .illegal) →
    exec (.kIllegal e) s = .next (after s (kernelTrap e j q (engine s.hw e).k.pc 1 (begin s.hw)))) ∧
  (∀ (s : State) (e j i : Nat) (q : Job), (Instr.kPcRange e).wf = true → kernelAt s.hw e = some (j, i, q, .beyond) →
    exec (.kPcRange e) s = .next (after s (kernelTrap e j q (engine s.hw e).k.pc 2 (begin s.hw))))

/-- Scalar and vector integer instructions complete (R257, R262): RD takes the result of RA and RB or the immediate, and nothing else of
the engine changes but PC and what retiring changes; results wrap modulo 2^64 in scalar registers and modulo the lane width in lanes; a
division by zero gives all ones and the dividend, and −2^63 by −1 gives −2^63 with remainder 0.
Where the spec is silent it takes the model's choices of assumption 99. -/
def Obligations.KernelIntegerComplete : Prop :=
  (IntegerForms .kAdd .add (fun _ a b => a + b) ∧ IntegerForms .kSub .sub (fun w a b => a + 2 ^ w - b) ∧
   IntegerForms .kMul .mul (fun w a b => a * b % 2 ^ w) ∧ IntegerForms .kMulhu .mulhu (fun w a b => a * b / 2 ^ w) ∧
   IntegerForms .kMulhs .mulhs (fun w a b => ofSigned w ((toSigned w a * toSigned w b).fdiv (2 ^ w))) ∧
   IntegerForms .kDivu .divu (fun w a b => if b = 0 then 2 ^ w - 1 else a / b) ∧
   IntegerForms .kDivs .divs (fun w a b => if b = 0 then 2 ^ w - 1 else ofSigned w ((toSigned w a).tdiv (toSigned w b))) ∧
   IntegerForms .kRemu .remu (fun _ a b => if b = 0 then a else a % b) ∧
   IntegerForms .kRems .rems (fun w a b => if b = 0 then a else ofSigned w ((toSigned w a).tmod (toSigned w b))) ∧
   IntegerForms .kAnd .and (fun _ a b => a &&& b) ∧ IntegerForms .kOr .or (fun _ a b => a ||| b) ∧ IntegerForms .kXor .xor (fun _ a b => a ^^^ b) ∧
   IntegerForms .kSll .sll (fun _ a b => a * 2 ^ (b % 64)) ∧ IntegerForms .kSrl .srl (fun _ a b => a / 2 ^ (b % 64)) ∧
   IntegerForms .kSra .sra (fun w a b => ofSigned w ((toSigned w a).fdiv (2 ^ (b % 64)))) ∧
   IntegerForms .kMins .mins (fun w a b => if toSigned w b < toSigned w a then b else a) ∧
   IntegerForms .kMaxs .maxs (fun w a b => if toSigned w a < toSigned w b then b else a) ∧
   IntegerForms .kMinu .minu (fun _ a b => min a b) ∧ IntegerForms .kMaxu .maxu (fun _ a b => max a b)) ∧
  (∀ (k : Kern) (r v : Nat) (tag : Bool), (k.setS 0 v tag).sreg 0 = 0 ∧ (r ≠ 0 → (k.setS r v tag).sreg r = v % 2 ^ 64)) ∧
  (∀ (old : Line) (w i : Nat) (on : List Nat) (f : Nat → Nat), w = 32 ∨ w = 64 → i < 512 / w →
    laneAt (putLanes old w on f) w i = if on.contains i then f i % 2 ^ w else laneAt old w i) ∧
  (∀ w : Nat, w = 32 ∨ w = 64 →
    ofSigned w ((toSigned w (2 ^ (w - 1))).tdiv (toSigned w (2 ^ w - 1))) = 2 ^ (w - 1) ∧ ofSigned w ((toSigned w (2 ^ (w - 1))).tmod (toSigned w (2 ^ w - 1))) = 0) ∧
  (∀ w a b : Nat, w = 32 ∨ w = 64 → a < 2 ^ w → b < 2 ^ w →
    (a + b) % 2 ^ w = (BitVec.ofNat w a + BitVec.ofNat w b).toNat ∧ (a + 2 ^ w - b) % 2 ^ w = (BitVec.ofNat w a - BitVec.ofNat w b).toNat ∧
    a * b % 2 ^ w = (BitVec.ofNat w a * BitVec.ofNat w b).toNat)

/-- Moves, compares, floating point, lane and predicate instructions complete with the results of Table 9.4 (R254, R257, R260, R261, R263):
destination, PC and retirement change and nothing else of the engine does.
Where the spec is silent it takes the model's choices of assumptions 40, 56. -/
def Obligations.KernelDataComplete : Prop :=
  (ScalarForms .kMov .mov KCtx.srcB KCtx.opB ∧
   ScalarForms .kPopc .popc (fun c => [c.x.ra]) (fun c => ((List.range 64).filter (bitAt (c.k.sreg c.x.ra))).length) ∧
   ScalarForms .kClz .clz (fun c => [c.x.ra]) (fun c => 64 - bitLength (c.k.sreg c.x.ra)) ∧
   ScalarForms .kCvtw .cvtw (fun c => [c.x.ra])
     (fun c => if bitAt c.x.fn 6 then fp64.convert fp32 (c.k.sreg c.x.ra) else fp32.convert fp64 (c.k.sreg c.x.ra % 2 ^ 32)) ∧
   ScalarForms .kLi .li (fun _ => []) (fun c => ofSigned 64 c.x.imm) ∧
   ScalarForms .kLih .lih (fun c => [c.x.rd]) (fun c => c.k.sreg c.x.rd % 2 ^ 32 + ofSigned 32 c.x.imm * 2 ^ 32) ∧
   ScalarForms .kPany .pany (fun _ => []) (fun c => bit (c.k.preg c.x.ra != 0)) ∧
   ScalarForms .kPcnt .pcnt (fun _ => []) (fun c => ((List.range 16).filter (bitAt (c.k.preg c.x.ra))).length) ∧
   ScalarForms .kPto .pto (fun _ => []) (fun c => c.k.preg c.x.ra)) ∧
  (CompareForms .kEq .eq (fun _ a b => a == b) ∧ CompareForms .kNe .ne (fun _ a b => a != b) ∧
   CompareForms .kLts .lts (fun w a b => decide (toSigned w a < toSigned w b)) ∧ CompareForms .kLes .les (fun w a b => decide (toSigned w a ≤ toSigned w b)) ∧
   CompareForms .kLtu .ltu (fun _ a b => decide (a < b)) ∧ CompareForms .kLeu .leu (fun _ a b => decide (a ≤ b)) ∧
   CompareForms .kFeq .feq (fun w a b => (fmtOf w).eq a b) ∧ CompareForms .kFlt .flt (fun w a b => (fmtOf w).lt a b) ∧
   CompareForms .kFle .fle (fun w a b => (fmtOf w).le a b)) ∧
  (FloatForms .kFadd .fadd false true (fun t _ a b => t.add a b) ∧ FloatForms .kFsub .fsub false true (fun t _ a b => t.sub a b) ∧
   FloatForms .kFmul .fmul false true (fun t _ a b => t.mul a b) ∧ FloatForms .kFdiv .fdiv false true (fun t _ a b => t.div a b) ∧
   FloatForms .kFma .fma true true (fun t d a b => t.fma d a b) ∧ FloatForms .kFmin .fmin false true (fun t _ a b => t.min a b) ∧
   FloatForms .kFmax .fmax false true (fun t _ a b => t.max a b) ∧ FloatForms .kFsqrt .fsqrt false false (fun t _ a _ => t.sqrt a) ∧
   FloatForms .kCvti .cvti false false (fun t _ a _ => t.ofInt (toSigned t.width a)) ∧
   FloatForms .kCvtf .cvtf false false (fun t _ a _ => t.toInt t.width a)) ∧
  (ReduceForms .kRsum .rsum (fun w a b => (a + b) % 2 ^ w) (fun t a b => t.add a b) false ∧
   ReduceForms .kRmin .rmin (fun w a b => if toSigned w b < toSigned w a then b else a) (fun t a b => t.min a b) true ∧
   ReduceForms .kRmax .rmax (fun w a b => if toSigned w a < toSigned w b then b else a) (fun t a b => t.max a b) true) ∧
  (LaneForms .kBcst .bcst KCtx.laneW (fun c => [c.x.ra]) (fun c _ => c.k.sreg c.x.ra) ∧
   LaneForms .kVbcstiW .vbcstiW (fun _ => 32) (fun _ => []) (fun c _ => ofSigned 32 c.x.imm) ∧
   LaneForms .kVbcstiD .vbcstiD (fun _ => 64) (fun _ => []) (fun c _ => ofSigned 64 c.x.imm) ∧
   (∀ (s : State) (c : KCtx), (Instr.kVmov c.e).wf = true → Fetches s c → c.x.op = .vmov → c.lanes c.laneW ≠ [] →
     exec (.kVmov c.e) s = .next (Writes s c (fun k =>
       k.setV c.x.rd (putLanes (k.vreg c.x.rd) c.laneW (c.lanes c.laneW) (laneAt (c.k.vreg c.x.ra) c.laneW))
         (if (c.lanes c.laneW).length = 512 / c.laneW then c.k.vtagged c.x.ra else k.vtagged c.x.rd)))) ∧
   (∀ (s : State) (c : KCtx), (Instr.kExt c.e).wf = true → Fetches s c → c.x.op = .ext → RunsLanes c c.laneW [c.x.rb] [c.x.ra] →
     c.k.sreg c.x.rb ∈ c.lanes c.laneW →
     exec (.kExt c.e) s = .next (Writes s c (fun k => k.setS c.x.rd (laneAt (c.k.vreg c.x.ra) c.laneW (c.k.sreg c.x.rb)) false))) ∧
   (∀ (s : State) (c : KCtx), (Instr.kIns c.e).wf = true → Fetches s c → c.x.op = .ins → RunsLanes c c.laneW [c.x.ra, c.x.rb] [] →
     c.k.sreg c.x.rb ∈ c.lanes c.laneW →
     exec (.kIns c.e) s = .next (Writes s c (fun k =>
       k.setV c.x.rd (putLanes (k.vreg c.x.rd) c.laneW [c.k.sreg c.x.rb] (fun _ => c.k.sreg c.x.ra)) (k.vtagged c.x.rd))))) ∧
  (PredicateForms .kPand .pand (fun _ => []) (fun c => c.k.preg c.x.ra &&& c.k.preg c.x.rb) ∧
   PredicateForms .kPor .por (fun _ => []) (fun c => c.k.preg c.x.ra ||| c.k.preg c.x.rb) ∧
   PredicateForms .kPxor .pxor (fun _ => []) (fun c => c.k.preg c.x.ra ^^^ c.k.preg c.x.rb) ∧
   PredicateForms .kPandn .pandn (fun _ => []) (fun c => c.k.preg c.x.ra &&& (0xFFFF ^^^ c.k.preg c.x.rb)) ∧
   PredicateForms .kPnot .pnot (fun _ => []) (fun c => 0xFFFF ^^^ c.k.preg c.x.ra) ∧
   PredicateForms .kPfrom .pfrom (fun c => [c.x.ra]) (fun c => c.k.sreg c.x.ra % 65536) ∧
   PredicateForms .kVtag .vtag (fun _ => []) (fun c => if c.k.vtagged c.x.ra then 0xFFFF else 0) ∧
   PredicateForms .kStag .stag (fun _ => []) (fun c => if c.k.staged c.x.ra then 0xFFFF else 0))

/-- Streams, scratch, atomics and locks complete (R247, R264 to R272): a sequential unit reads or takes a line and steps by its stride; a
random one reads or writes at the offset given; SOPEN issues what the unit held; scratch is read and written in its widths; SATOM updates
a word in its line; LOCK takes a line in order, UNLOCK and UNLOCKA release.
Where the spec is silent it takes the model's choices of assumptions 57, 98. -/
def Obligations.KernelMemoryComplete : Prop :=
  ∀ (s : State) (c : KCtx), c.e < 32 → Fetches s c →
    let st := stream (engine s.hw c.e) c.su
    let win := c.window st
    (c.x.op = .snext → Runs c [] → st.opened = true → st.mode = 0 → st.next < win.len → streamUp c c.su st.next (win.base + st.next) (begin s.hw) = true →
      (let r := kernelRead c c.su st.next (win.base + st.next) (coreOf s)
       exec (.kSnext c.e) s = .next (Retires s c
         (c.receive r.2.1 r.2.2 (r.1.onHw (fun h => setStream h c.e c.su (fun t => { t with next := ofSigned 64 ((st.next : Int) + st.stride) }))))))) ∧
    (c.x.op = .sget → Runs c [c.x.ra] → st.opened = true → st.mode = 2 ∨ st.mode = 3 → c.k.sreg c.x.ra < win.len →
      streamUp c c.su (c.k.sreg c.x.ra) (win.base + c.k.sreg c.x.ra) (begin s.hw) = true →
      (let r := kernelRead c c.su (c.k.sreg c.x.ra) (win.base + c.k.sreg c.x.ra) (coreOf s)
       exec (.kSget c.e) s = .next (Retires s c (c.receive r.2.1 r.2.2 r.1)))) ∧
    (∀ d, c.x.op = .sput → Runs c [] → st.opened = true → st.mode = 1 → st.next < win.len → issueHeld c (fun su l => su == c.su || l.line == win.base + st.next) (coreOf s) = (d, true) →
      exec (.kSput c.e) s = .next (Retires s c (d.onHw (fun h => setStream (dropAhead h c.e (win.base + st.next)) c.e c.su (fun t =>
        { t with next := ofSigned 64 ((st.next : Int) + st.stride), held := some ⟨win.base + st.next, c.k.vreg c.x.ra, c.k.vtagged c.x.ra⟩ }))))) ∧
    (∀ b d, c.x.op = .sset → Runs c [c.x.rb] → st.opened = true → st.mode = 3 → c.k.sreg c.x.rb < win.len →
      (let line := win.base + c.k.sreg c.x.rb
       issueHeld c (fun _ l => l.line == line) (coreOf s) = (b, true) → writeUp b.hw c.q.desc.cls line = true → recreateFor b (line / 1024) = (d, true) →
       exec (.kSset c.e) s = .next (Retires s c (engWrite d c.e c.j c.q.desc.cls line (c.k.vreg c.x.ra) (c.k.vtagged c.x.ra))))) ∧
    (c.x.op = .sclose → Runs c [] → st.opened = true →
      exec (.kSclose c.e) s = .next (Retires s c ((coreOf s).onHw (fun h =>
        setStream (bumpBy h 0x6030 4 0 st.ahead.length) c.e c.su (fun t => { held := t.held }))))) ∧
    (c.x.op = .spos → Runs c [] → st.opened = true → st.mode < 2 →
      exec (.kSpos c.e) s = .next (Writes s c (fun k => k.setS c.x.rd st.next false))) ∧
    (∀ d, c.x.op = .sopen →
      (let mode := field c.x.fn 3 2
       let w := (windowsOf c.q.desc).getD (c.x.fn % 4) {}
       Runs c (if mode < 2 then [c.x.ra] else []) → w.len ≠ 0 → (mode % 2 = 1 → w.wr = true) →
       issueHeld c (fun su _ => su == c.x.rd) (coreOf s) = (d, true) →
       exec (.kSopen c.e) s = .next (Retires s c (d.onHw (fun h => setStream (closeStream c.e c.x.rd h) c.e c.x.rd (fun _ =>
         { opened := true, win := c.x.fn % 4, mode := mode, next := if mode < 2 then c.k.sreg c.x.ra else 0, stride := if mode < 2 then c.x.imm else 0 })))))) ∧
    (let a := (c.k.sreg c.x.ra + c.opB) % 2 ^ 64
     let n := scratchSize c.x.fn
     let bytes := (span a n).map (fun i => tget 0#8 c.k.scratch i)
     a + n ≤ 524288 → a % n = 0 →
     (c.x.op = .scratchLoad → Runs c (c.x.ra :: c.srcB) →
       (n = 64 → exec (.kScratchLoad c.e) s = .next (Writes s c (fun k =>
         k.setV c.x.rd (BitVec.ofNat 512 (leNat bytes)) (tget false c.k.scratchPoison (a / 64))))) ∧
       (n ≠ 64 → exec (.kScratchLoad c.e) s = .next (Writes s c (fun k =>
         k.setS c.x.rd (if bitAt c.x.fn 4 then ofSigned 64 (toSigned (8 * n) (leNat bytes)) else leNat bytes) (tget false c.k.scratchPoison (a / 64)))))) ∧
     (c.x.op = .scratchStore →
       (n = 64 → Runs c (c.x.ra :: c.srcB) → exec (.kScratchStore c.e) s = .next (Writes s c (fun k =>
         { k with scratch := ((span a n).zip (leBytes n (c.k.vreg c.x.rd).toNat)).foldl (fun t b => tput 0#8 t b.1 b.2) k.scratch,
                  scratchPoison := tput false k.scratchPoison (a / 64) (k.vtagged c.x.rd) }))) ∧
       (n ≠ 64 → Runs c (c.x.ra :: c.srcB ++ [c.x.rd]) → exec (.kScratchStore c.e) s = .next (Writes s c (fun k =>
         { k with scratch := ((span a n).zip (leBytes n (c.k.sreg c.x.rd))).foldl (fun t b => tput 0#8 t b.1 b.2) k.scratch }))))) ∧
    (∀ d d' old, c.x.op = .satom → Runs c ([c.x.ra, c.x.rb] ++ (if c.x.fn % 8 = 4 then [c.x.rd] else [])) → st.opened = true → st.mode = 3 →
      (let wide := bitAt c.x.fn 4
       let size := if wide then 8 else 4
       let i := c.k.sreg c.x.ra
       let line := win.base + i * size / 64
       let a := if c.x.fn % 8 = 4 then c.k.sreg c.x.rd else c.k.sreg c.x.rb
       let b := if c.x.fn % 8 = 4 then c.k.sreg c.x.rb else 0
       i * size / 64 < win.len → issueHeld c (fun _ l => l.line == line) (coreOf s) = (d, true) →
       lockedBy d.hw c.e line = none → engUp d.hw c.q.desc.cls line = true →
       (let m := rmwBefore d (chOf (pPc (physOf (route d.hw (line / 1024)) line))) line
        rmwLine m line (i * size % 64 / 4) wide (c.x.fn % 8) a b (bitAt c.x.fn 3) (some c.q.desc.cls) m.hw.chans.nextTxn = (d', true, some old) →
        exec (.kSatom c.e) s = .next (Retires s c (setKern c.e (fun k => k.setS c.x.rd old false) (d'.onHw (fun h =>
          addBytes (dropAhead (ringCarry (countLines h (entTrack (route h (line / 1024))) c.q.desc.cls 1) (c.e / 4) (entTrack (route h (line / 1024))) 64) c.e line)
            c.j 64))))))) ∧
    (∀ d, c.x.op = .lock → Runs c [c.x.ra] → st.opened = true → st.mode < 4 → c.k.sreg c.x.ra < win.len →
      (let line := win.base + c.k.sreg c.x.ra
       let g := engine s.hw c.e
       (∀ k ∈ g.locks, lockLine k ≠ line ∧ k ≤ lockKey (begin s.hw) line) → g.locks.length < 16 →
       issueHeld c (fun _ l => l.line == line) (coreOf s) = (d, true) → lockedBy d.hw c.e line = none →
       exec (.kLock c.e) s = .next (Retires s c (d.onHw (fun h =>
         setEngine h c.e { engine h c.e with locks := (engine h c.e).locks ++ [lockKey (begin s.hw) line] }))))) ∧
    (c.x.op = .unlock → Runs c [c.x.ra] → st.opened = true → st.mode < 4 → c.k.sreg c.x.ra < win.len →
      exec (.kUnlock c.e) s = .next (Retires s c ((coreOf s).onHw (fun h =>
        setEngine h c.e { engine h c.e with locks := (engine h c.e).locks.filter (fun k => lockLine k != win.base + c.k.sreg c.x.ra) })))) ∧
    (c.x.op = .unlocka → Runs c [] →
      exec (.kUnlocka c.e) s = .next (Retires s c ((coreOf s).onHw (fun h => setEngine h c.e { engine h c.e with locks := [] }))))

/-- Guards, tags and traps (R260, R265, R273, R274): a scalar instruction whose guard bit is clear retires without effect, one with a
tagged source traps POISON_USE; a stream access to a closed unit traps STREAM_STATE and one beyond its window WINDOW_RANGE.
Where the spec is silent it takes the model's choices of assumption 96. -/
def Obligations.KernelGuardsAndTraps : Prop :=
  ∀ (s : State) (c : KCtx) (mk : Nat → Instr), c.e < 32 → Fetches s c →
    ((c.x.op = .add ∧ mk = Instr.kAdd) ∨ (c.x.op = .sub ∧ mk = Instr.kSub) ∨ (c.x.op = .mul ∧ mk = Instr.kMul) ∨ (c.x.op = .sll ∧ mk = Instr.kSll) →
      c.x.maj ≠ 4 →
      (bitAt c.guard 0 = false → exec (mk c.e) s = .next (Retires s c (coreOf s))) ∧
      (bitAt c.guard 0 = true → c.k.staged c.x.ra = true → exec (mk c.e) s = .next (Traps s c 7))) ∧
    ((c.x.op = .snext ∧ mk = Instr.kSnext) ∨ (c.x.op = .sput ∧ mk = Instr.kSput) → bitAt c.guard 0 = true →
      (let st := stream (engine s.hw c.e) c.su
       (st.opened = false → exec (mk c.e) s = .next (Traps s c 6)) ∧
       (st.opened = true → st.mode = (if c.x.op = .snext then 0 else 1) → (c.window st).len ≤ st.next → exec (mk c.e) s = .next (Traps s c 3)))) ∧
    ((c.x.op = .scratchLoad ∧ mk = Instr.kScratchLoad) ∨ (c.x.op = .scratchStore ∧ mk = Instr.kScratchStore) →
      bitAt c.guard 0 = true → (c.x.ra :: c.srcB ++ [c.x.rd]).any c.k.staged = false →
      (let a := (c.k.sreg c.x.ra + c.opB) % 2 ^ 64
       (524288 < a + scratchSize c.x.fn → exec (mk c.e) s = .next (Traps s c 8)) ∧
       (a + scratchSize c.x.fn ≤ 524288 → a % scratchSize c.x.fn ≠ 0 → exec (mk c.e) s = .next (Traps s c 9))))

/-! The whole stack. -/

/-- A step runs the command at the front of the queue, first in, first out, on the stack with the queue's rest; on an empty queue the
clock ticks (the model's choice, assumption 2), and AO hands over the Ouvend frame that it held once a sleep rolled back has left the stack
ACTIVE (assumption 165). -/
def Obligations.StepRunsTheFrontCommand : Prop :=
  (∀ (c : Instr) (s : State) (rest : List Instr), s.pending = c :: rest → step s = exec c { s with pending := rest }) ∧
  (∀ s : State, s.pending = [] →
    (heldDue (tick s.hw) = false → step s = .next { s with hw := tick s.hw }) ∧
    (heldDue (tick s.hw) = true → step s = .next (afterCore s (serveHeld { coreOf s with hw := begin (tick s.hw) }))))

/-- Every well-formed command completes and leaves the queue as it is, whatever the state; an ill-formed one stops by name (the model's
choice, assumption 5). -/
def Obligations.WellFormedCommandCompletes : Prop :=
  ∀ (c : Instr) (s : State),
    (c.wf = true → ∃ t, exec c s = .next t ∧ t.pending = s.pending) ∧
    (c.wf = false → exec c s = .fault .illFormed)

/-- The stored lines keep their canonical form at every step, from every state that has it: addresses strictly rising and no byte listed
that equals what an unlisted byte reads as. A step that ends in a state changes them only by lines stored, slots zeroed, zones filled or
power lost. -/
def Obligations.StoredLinesKeepTheirForm : Prop :=
  ∀ s t : State, step s = .next t →
    (Memory.wf s.dram = true → Memory.wf t.dram = true) ∧ ∃ ops : List DramOp, t.dram = runStores s.dram ops

/-- The state at reset (R9, R439, R440): RESET_N holds the stack, no command waits, nothing is stored, the stored lines have their form, and
the registers read the defaults of the dictionary's tables.
Where the spec is silent it takes the model's choices of assumption 1. -/
def Obligations.ResetState : Prop :=
  State.reset.hw.mode = .held ∧ State.reset.pending = [] ∧ Memory.wf State.reset.dram = true ∧ State.reset.dram.cells = [] ∧
  now State.reset.hw = 0 ∧
  (∀ idx sub unit, obj State.reset.hw idx sub unit = regDefault (regKey idx sub unit)) ∧
  obj State.reset.hw 0x7020 1 = 140 ∧ obj State.reset.hw 0x7010 1 = 31 ∧ obj State.reset.hw 0x4000 2 = 16 ∧ obj State.reset.hw 0x3410 0 0 = 0
end

