-- ==== Sys2Proof/Laws/Codes.lean ====
section
/-!
SUPPORT. Byte lists and the CRCs: the bytes of a value give it back, a CRC fits its width, a flit that carries its CRC checks.
-/
namespace Sys2Proof.Machine

@[simp] theorem length_leBytes (n v : Nat) : (leBytes n v).length = n := by
  induction n generalizing v with
  | zero => rfl
  | succ n ih => simp [leBytes, ih]

theorem leNat_leBytes (n v : Nat) : leNat (leBytes n v) = v % 256 ^ n := by
  induction n generalizing v with
  | zero => simp [leBytes, leNat, Nat.mod_one]
  | succ n ih => simp [leBytes, leNat, ih, Nat.pow_succ', Nat.mod_mul]

theorem crcByte_lt {poly w s : Nat} (b : Byte) (hp : poly < 2 ^ w) (hw : 8 ≤ w) (hs : s < 2 ^ w) : crcByte poly s b < 2 ^ w := by
  have h0 : s ^^^ b.toNat < 2 ^ w := Nat.xor_lt_two_pow hs (Nat.lt_of_lt_of_le b.isLt (Nat.pow_le_pow_right (by decide) hw))
  have step : ∀ t, t < 2 ^ w → crcShift poly t < 2 ^ w := fun t ht => by
    unfold crcShift
    split
    · exact Nat.xor_lt_two_pow (Nat.lt_of_le_of_lt (Nat.div_le_self t 2) ht) hp
    · exact Nat.lt_of_le_of_lt (Nat.div_le_self t 2) ht
  have fold : ∀ (l : List Nat) t, t < 2 ^ w → l.foldl (fun t _ => crcShift poly t) t < 2 ^ w := fun l => by
    induction l with
    | nil => exact fun _ ht => ht
    | cons _ l ih => exact fun t ht => ih _ (step t ht)
  exact fold _ _ h0

/-- A CRC fits its width. -/
theorem crcRefl_lt {poly w : Nat} (bs : List Byte) (hp : poly < 2 ^ w) (hw : 8 ≤ w) : crcRefl poly w bs < 2 ^ w := by
  have fold : ∀ (l : List Byte) s, s < 2 ^ w → l.foldl (crcByte poly) s < 2 ^ w := fun l => by
    induction l with
    | nil => exact fun _ hs => hs
    | cons b l ih => exact fun s hs => ih _ (crcByte_lt b hp hw hs)
  have hm : 2 ^ w - 1 < 2 ^ w := Nat.sub_lt (Nat.two_pow_pos w) Nat.one_pos
  exact Nat.xor_lt_two_pow (fold _ _ hm) hm

/-- 504 bytes with their CRC behind them are 512 bytes whose CRC checks (R109). -/
theorem flit_crc_checks (b : List Byte) (hb : b.length = 504) :
    (b ++ leBytes 8 (crc64 b)).length = 512 ∧ crc64 ((b ++ leBytes 8 (crc64 b)).take 504) = leNat ((b ++ leBytes 8 (crc64 b)).drop 504) := by
  have h : crc64 b < 256 ^ 8 := crcRefl_lt b (by decide) (by decide)
  rw [List.take_left' hb, List.drop_left' hb, leNat_leBytes, Nat.mod_eq_of_lt h, List.length_append, hb, length_leBytes]
  exact ⟨rfl, rfl⟩

end Sys2Proof.Machine
end

