-- ==== Sys2Proof/Laws/Tbl.lean ====
section
/-!
SUPPORT. Laws of sparse tables: a read after a write, writes over one another, and that every operation keeps the canonical form.
-/
namespace Sys2Proof.Machine

variable {α : Type}

@[simp] theorem tget_nil (d : α) (k : Nat) : tget d [] k = d := rfl

theorem tget_cons (d : α) (e : Nat × α) (r : Tbl α) (k : Nat) : tget d (e :: r) k = if e.1 = k then e.2 else tget d r k := rfl

theorem tdel_cons (e : Nat × α) (r : Tbl α) (k : Nat) : tdel (e :: r) k = if e.1 = k then tdel r k else e :: tdel r k := rfl

theorem tins_cons (k : Nat) (v : α) (e : Nat × α) (r : Tbl α) :
    tins k v (e :: r) = if k < e.1 then (k, v) :: e :: r else e :: tins k v r := rfl

@[simp] theorem tget_tdel_same (d : α) (t : Tbl α) (k : Nat) : tget d (tdel t k) k = d := by
  induction t with
  | nil => rfl
  | cons e r ih =>
    rw [tdel_cons]
    split
    · exact ih
    · rw [tget_cons, if_neg ‹_›, ih]

theorem tget_tdel_other (d : α) (t : Tbl α) {k k' : Nat} (h : k' ≠ k) : tget d (tdel t k) k' = tget d t k' := by
  induction t with
  | nil => rfl
  | cons e r ih =>
    rw [tdel_cons, tget_cons]
    split
    · rename_i he
      rw [ih, if_neg (by omega)]
    · rw [tget_cons, ih]

theorem tget_tins_same (d v : α) (t : Tbl α) (k : Nat) (h : ∀ e ∈ t, e.1 ≠ k) : tget d (tins k v t) k = v := by
  induction t with
  | nil => simp [tins, tget_cons]
  | cons e r ih =>
    rw [tins_cons]
    split
    · simp [tget_cons]
    · rw [tget_cons, if_neg (h e (by simp)), ih (fun x hx => h x (by simp [hx]))]

theorem tget_tins_other (d v : α) (t : Tbl α) {k k' : Nat} (h : k' ≠ k) : tget d (tins k v t) k' = tget d t k' := by
  induction t with
  | nil => simp [tins, tget_cons, Ne.symm h]
  | cons e r ih =>
    rw [tins_cons]
    split
    · rw [tget_cons, if_neg (Ne.symm h)]
    · rw [tget_cons, tget_cons, ih]

theorem tdel_not_mem (t : Tbl α) (k : Nat) : ∀ e ∈ tdel t k, e.1 ≠ k := by
  induction t with
  | nil => intro e he; cases he
  | cons e r ih =>
    rw [tdel_cons]
    split
    · exact ih
    · intro x hx
      cases hx with
      | head => assumption
      | tail _ hx => exact ih x hx

/-- A read after a write to the same key gives the value written. -/
@[simp] theorem tget_tput_same [DecidableEq α] (d v : α) (t : Tbl α) (k : Nat) : tget d (tput d t k v) k = v := by
  unfold tput
  split
  · rename_i h; rw [tget_tdel_same, h]
  · exact tget_tins_same d v _ k (tdel_not_mem t k)

/-- A write leaves every other key alone, whatever the two keys' defaults. -/
theorem tget_tput_other [DecidableEq α] (d d' v : α) (t : Tbl α) {k k' : Nat} (h : k' ≠ k) :
    tget d' (tput d t k v) k' = tget d' t k' := by
  unfold tput
  split
  · exact tget_tdel_other d' t h
  · rw [tget_tins_other d' v _ h, tget_tdel_other d' t h]

theorem tdel_of_not_mem (t : Tbl α) (k : Nat) (h : ∀ e ∈ t, e.1 ≠ k) : tdel t k = t := by
  induction t with
  | nil => rfl
  | cons e r ih =>
    rw [tdel_cons, if_neg (h e (by simp)), ih (fun x hx => h x (by simp [hx]))]

theorem tdel_tins (t : Tbl α) (k : Nat) (v : α) (h : ∀ e ∈ t, e.1 ≠ k) : tdel (tins k v t) k = t := by
  induction t with
  | nil => simp [tins, tdel]
  | cons e r ih =>
    have hr : ∀ x ∈ r, x.1 ≠ k := fun x hx => h x (by simp [hx])
    rw [tins_cons]
    split
    · rw [tdel_cons, if_pos rfl]
      exact tdel_of_not_mem _ _ h
    · rw [tdel_cons, if_neg (h e (by simp)), ih hr]

/-- Of two writes to one key the later stays. -/
theorem tput_tput [DecidableEq α] (d v w : α) (t : Tbl α) (k : Nat) : tput d (tput d t k v) k w = tput d t k w := by
  have h : tdel (tput d t k v) k = tdel t k := by
    unfold tput
    split
    · exact tdel_of_not_mem _ _ (tdel_not_mem t k)
    · exact tdel_tins _ _ _ (tdel_not_mem t k)
  unfold tput at h ⊢
  rw [h]

/-! The canonical form. -/

/-- Keys above a bound, strictly rising. -/
theorem tsorted_cons (lo : Option Nat) (e : Nat × α) (r : Tbl α) :
    tsorted lo (e :: r) = true ↔ (∀ l, lo = some l → l < e.1) ∧ tsorted (some e.1) r = true := by
  cases lo <;> simp [tsorted]

theorem tsorted_weaken {lo lo' : Option Nat} {t : Tbl α} (h : tsorted lo t = true)
    (hl : ∀ l', lo' = some l' → ∃ l, lo = some l ∧ l' ≤ l) : tsorted lo' t = true := by
  cases t with
  | nil => rfl
  | cons e r =>
    rw [tsorted_cons] at h ⊢
    refine ⟨fun l' hl' => ?_, h.2⟩
    obtain ⟨l, rfl, hle⟩ := hl l' hl'
    exact Nat.lt_of_le_of_lt hle (h.1 l rfl)

theorem tsorted_filter (p : Nat × α → Bool) {lo : Option Nat} {t : Tbl α} (h : tsorted lo t = true) : tsorted lo (t.filter p) = true := by
  induction t generalizing lo with
  | nil => rfl
  | cons e r ih =>
    rw [tsorted_cons] at h
    rw [List.filter_cons]
    split
    · rw [tsorted_cons]; exact ⟨h.1, ih h.2⟩
    · exact tsorted_weaken (ih h.2) (fun l' hl' => ⟨e.1, rfl, Nat.le_of_lt (h.1 l' hl')⟩)

theorem tdel_eq_filter (t : Tbl α) (k : Nat) : tdel t k = t.filter (fun e => decide (e.1 ≠ k)) := by
  induction t with
  | nil => rfl
  | cons e r ih =>
    rw [tdel_cons, List.filter_cons, ih]
    by_cases h : e.1 = k <;> simp [h]

theorem tsorted_tins {lo : Option Nat} {t : Tbl α} (k : Nat) (v : α) (h : tsorted lo t = true) (hk : ∀ e ∈ t, e.1 ≠ k)
    (hl : ∀ l, lo = some l → l < k) : tsorted lo (tins k v t) = true := by
  induction t generalizing lo with
  | nil => exact (tsorted_cons lo (k, v) []).mpr ⟨hl, rfl⟩
  | cons e r ih =>
    rw [tsorted_cons] at h
    rw [tins_cons]
    split
    · rename_i hlt
      rw [tsorted_cons]
      refine ⟨hl, ?_⟩
      rw [tsorted_cons]
      exact ⟨fun l hl' => by cases hl'; exact hlt, h.2⟩
    · rename_i hge
      have hne := hk e (by simp)
      rw [tsorted_cons]
      exact ⟨h.1, ih h.2 (fun x hx => hk x (by simp [hx])) (fun l hl' => by cases hl'; omega)⟩

theorem mem_tins (t : Tbl α) (k : Nat) (v : α) (e : Nat × α) (h : e ∈ tins k v t) : e = (k, v) ∨ e ∈ t := by
  induction t with
  | nil => simp [tins] at h; exact .inl h
  | cons x r ih =>
    rw [tins_cons] at h
    split at h
    · simpa using h
    · cases h with
      | head => simp
      | tail _ h => cases ih h with
        | inl h => exact .inl h
        | inr h => exact .inr (by simp [h])

/-- A filter keeps the form, also when the defaults of the entries it keeps are given by another function. -/
theorem twf_filter [DecidableEq α] (d d' : Nat → α) (t : Tbl α) (p : Nat × α → Bool) (h : twf d t = true)
    (hd : ∀ e ∈ t, p e = true → d' e.1 = d e.1) : twf d' (t.filter p) = true := by
  simp only [twf, Bool.and_eq_true, List.all_eq_true, List.mem_filter, and_imp] at h ⊢
  exact ⟨tsorted_filter p h.1, fun e he hp => by rw [hd e he hp]; exact h.2 e he⟩

/-- A write keeps the form. -/
theorem twf_tput [DecidableEq α] (d : Nat → α) (t : Tbl α) (k : Nat) (v : α) (h : twf d t = true) : twf d (tput (d k) t k v) = true := by
  have hdel : twf d (tdel t k) = true := by rw [tdel_eq_filter]; exact twf_filter d d t _ h (fun _ _ _ => rfl)
  unfold tput
  split
  · exact hdel
  · rename_i hv
    simp only [twf, Bool.and_eq_true, List.all_eq_true] at hdel ⊢
    refine ⟨tsorted_tins k v hdel.1 (tdel_not_mem t k) (fun l hl => by cases hl), fun e he => ?_⟩
    cases mem_tins _ _ _ _ he with
    | inl h => rw [h]; simp [hv]
    | inr h => exact hdel.2 e h

end Sys2Proof.Machine
end

