-- ==== Sys2Proof/Laws/State.lean ====
section
/-!
SUPPORT. What each named update of the state writes, and that it leaves every other field alone: one lemma per field per update.
-/
namespace Sys2Proof.Machine

variable (h : Hw)

/-! `setObj` writes `regs` alone. -/

@[simp] theorem setObj_blobs (i j u v : Nat) : (setObj h i j u v).blobs = h.blobs := rfl
@[simp] theorem setObj_dict (i j u v : Nat) : (setObj h i j u v).dict = h.dict := rfl
@[simp] theorem setObj_faults (i j u v : Nat) : (setObj h i j u v).faults = h.faults := rfl
@[simp] theorem setObj_clock (i j u v : Nat) : (setObj h i j u v).clock = h.clock := rfl
@[simp] theorem setObj_link (i j u v : Nat) : (setObj h i j u v).link = h.link := rfl
@[simp] theorem setObj_place (i j u v : Nat) : (setObj h i j u v).place = h.place := rfl
@[simp] theorem setObj_chans (i j u v : Nat) : (setObj h i j u v).chans = h.chans := rfl
@[simp] theorem setObj_jobs (i j u v : Nat) : (setObj h i j u v).jobs = h.jobs := rfl
@[simp] theorem setObj_power (i j u v : Nat) : (setObj h i j u v).power = h.power := rfl
@[simp] theorem setObj_therm (i j u v : Nat) : (setObj h i j u v).therm = h.therm := rfl
@[simp] theorem setObj_test (i j u v : Nat) : (setObj h i j u v).test = h.test := rfl
@[simp] theorem setObj_boot (i j u v : Nat) : (setObj h i j u v).boot = h.boot := rfl
@[simp] theorem setObj_image (i j u v : Nat) : (setObj h i j u v).image = h.image := rfl
@[simp] theorem setObj_mode (i j u v : Nat) : (setObj h i j u v).mode = h.mode := rfl
@[simp] theorem setObj_thmErr (i j u v : Nat) : (setObj h i j u v).thmErr = h.thmErr := rfl
@[simp] theorem setObj_inject (i j u v : Nat) : (setObj h i j u v).inject = h.inject := rfl
@[simp] theorem setObj_out (i j u v : Nat) : (setObj h i j u v).out = h.out := rfl
@[simp] theorem setObj_react (i j u v : Nat) : (setObj h i j u v).react = h.react := rfl
@[simp] theorem setObj_draws (i j u v : Nat) : (setObj h i j u v).draws = h.draws := rfl

/-! `setBlob` writes `blobs` alone. -/

@[simp] theorem setBlob_regs (i j : Nat) (v : List Byte) : (setBlob h i j v).regs = h.regs := rfl
@[simp] theorem setBlob_dict (i j : Nat) (v : List Byte) : (setBlob h i j v).dict = h.dict := rfl
@[simp] theorem setBlob_faults (i j : Nat) (v : List Byte) : (setBlob h i j v).faults = h.faults := rfl
@[simp] theorem setBlob_clock (i j : Nat) (v : List Byte) : (setBlob h i j v).clock = h.clock := rfl
@[simp] theorem setBlob_link (i j : Nat) (v : List Byte) : (setBlob h i j v).link = h.link := rfl
@[simp] theorem setBlob_place (i j : Nat) (v : List Byte) : (setBlob h i j v).place = h.place := rfl
@[simp] theorem setBlob_chans (i j : Nat) (v : List Byte) : (setBlob h i j v).chans = h.chans := rfl
@[simp] theorem setBlob_jobs (i j : Nat) (v : List Byte) : (setBlob h i j v).jobs = h.jobs := rfl
@[simp] theorem setBlob_power (i j : Nat) (v : List Byte) : (setBlob h i j v).power = h.power := rfl
@[simp] theorem setBlob_therm (i j : Nat) (v : List Byte) : (setBlob h i j v).therm = h.therm := rfl
@[simp] theorem setBlob_test (i j : Nat) (v : List Byte) : (setBlob h i j v).test = h.test := rfl
@[simp] theorem setBlob_boot (i j : Nat) (v : List Byte) : (setBlob h i j v).boot = h.boot := rfl
@[simp] theorem setBlob_image (i j : Nat) (v : List Byte) : (setBlob h i j v).image = h.image := rfl
@[simp] theorem setBlob_mode (i j : Nat) (v : List Byte) : (setBlob h i j v).mode = h.mode := rfl
@[simp] theorem setBlob_thmErr (i j : Nat) (v : List Byte) : (setBlob h i j v).thmErr = h.thmErr := rfl
@[simp] theorem setBlob_inject (i j : Nat) (v : List Byte) : (setBlob h i j v).inject = h.inject := rfl
@[simp] theorem setBlob_out (i j : Nat) (v : List Byte) : (setBlob h i j v).out = h.out := rfl
@[simp] theorem setBlob_react (i j : Nat) (v : List Byte) : (setBlob h i j v).react = h.react := rfl
@[simp] theorem setBlob_draws (i j : Nat) (v : List Byte) : (setBlob h i j v).draws = h.draws := rfl

/-! `emit` writes `out` alone. -/

@[simp] theorem emit_regs (o : Out) : (emit h o).regs = h.regs := rfl
@[simp] theorem emit_blobs (o : Out) : (emit h o).blobs = h.blobs := rfl
@[simp] theorem emit_dict (o : Out) : (emit h o).dict = h.dict := rfl
@[simp] theorem emit_faults (o : Out) : (emit h o).faults = h.faults := rfl
@[simp] theorem emit_clock (o : Out) : (emit h o).clock = h.clock := rfl
@[simp] theorem emit_link (o : Out) : (emit h o).link = h.link := rfl
@[simp] theorem emit_place (o : Out) : (emit h o).place = h.place := rfl
@[simp] theorem emit_chans (o : Out) : (emit h o).chans = h.chans := rfl
@[simp] theorem emit_jobs (o : Out) : (emit h o).jobs = h.jobs := rfl
@[simp] theorem emit_power (o : Out) : (emit h o).power = h.power := rfl
@[simp] theorem emit_therm (o : Out) : (emit h o).therm = h.therm := rfl
@[simp] theorem emit_test (o : Out) : (emit h o).test = h.test := rfl
@[simp] theorem emit_boot (o : Out) : (emit h o).boot = h.boot := rfl
@[simp] theorem emit_image (o : Out) : (emit h o).image = h.image := rfl
@[simp] theorem emit_mode (o : Out) : (emit h o).mode = h.mode := rfl
@[simp] theorem emit_thmErr (o : Out) : (emit h o).thmErr = h.thmErr := rfl
@[simp] theorem emit_inject (o : Out) : (emit h o).inject = h.inject := rfl
@[simp] theorem emit_react (o : Out) : (emit h o).react = h.react := rfl
@[simp] theorem emit_draws (o : Out) : (emit h o).draws = h.draws := rfl

/-! `setPath` writes `dict` alone. -/

@[simp] theorem setPath_regs (p : Nat) (v : PathState) : (setPath h p v).regs = h.regs := rfl
@[simp] theorem setPath_blobs (p : Nat) (v : PathState) : (setPath h p v).blobs = h.blobs := rfl
@[simp] theorem setPath_faults (p : Nat) (v : PathState) : (setPath h p v).faults = h.faults := rfl
@[simp] theorem setPath_clock (p : Nat) (v : PathState) : (setPath h p v).clock = h.clock := rfl
@[simp] theorem setPath_link (p : Nat) (v : PathState) : (setPath h p v).link = h.link := rfl
@[simp] theorem setPath_place (p : Nat) (v : PathState) : (setPath h p v).place = h.place := rfl
@[simp] theorem setPath_chans (p : Nat) (v : PathState) : (setPath h p v).chans = h.chans := rfl
@[simp] theorem setPath_jobs (p : Nat) (v : PathState) : (setPath h p v).jobs = h.jobs := rfl
@[simp] theorem setPath_power (p : Nat) (v : PathState) : (setPath h p v).power = h.power := rfl
@[simp] theorem setPath_therm (p : Nat) (v : PathState) : (setPath h p v).therm = h.therm := rfl
@[simp] theorem setPath_test (p : Nat) (v : PathState) : (setPath h p v).test = h.test := rfl
@[simp] theorem setPath_boot (p : Nat) (v : PathState) : (setPath h p v).boot = h.boot := rfl
@[simp] theorem setPath_image (p : Nat) (v : PathState) : (setPath h p v).image = h.image := rfl
@[simp] theorem setPath_mode (p : Nat) (v : PathState) : (setPath h p v).mode = h.mode := rfl
@[simp] theorem setPath_thmErr (p : Nat) (v : PathState) : (setPath h p v).thmErr = h.thmErr := rfl
@[simp] theorem setPath_inject (p : Nat) (v : PathState) : (setPath h p v).inject = h.inject := rfl
@[simp] theorem setPath_out (p : Nat) (v : PathState) : (setPath h p v).out = h.out := rfl
@[simp] theorem setPath_react (p : Nat) (v : PathState) : (setPath h p v).react = h.react := rfl
@[simp] theorem setPath_draws (p : Nat) (v : PathState) : (setPath h p v).draws = h.draws := rfl

/-! `setLane` writes `link` alone. -/

@[simp] theorem setLane_regs (n : Nat) (v : Lane) : (setLane h n v).regs = h.regs := rfl
@[simp] theorem setLane_blobs (n : Nat) (v : Lane) : (setLane h n v).blobs = h.blobs := rfl
@[simp] theorem setLane_dict (n : Nat) (v : Lane) : (setLane h n v).dict = h.dict := rfl
@[simp] theorem setLane_faults (n : Nat) (v : Lane) : (setLane h n v).faults = h.faults := rfl
@[simp] theorem setLane_clock (n : Nat) (v : Lane) : (setLane h n v).clock = h.clock := rfl
@[simp] theorem setLane_place (n : Nat) (v : Lane) : (setLane h n v).place = h.place := rfl
@[simp] theorem setLane_chans (n : Nat) (v : Lane) : (setLane h n v).chans = h.chans := rfl
@[simp] theorem setLane_jobs (n : Nat) (v : Lane) : (setLane h n v).jobs = h.jobs := rfl
@[simp] theorem setLane_power (n : Nat) (v : Lane) : (setLane h n v).power = h.power := rfl
@[simp] theorem setLane_therm (n : Nat) (v : Lane) : (setLane h n v).therm = h.therm := rfl
@[simp] theorem setLane_test (n : Nat) (v : Lane) : (setLane h n v).test = h.test := rfl
@[simp] theorem setLane_boot (n : Nat) (v : Lane) : (setLane h n v).boot = h.boot := rfl
@[simp] theorem setLane_image (n : Nat) (v : Lane) : (setLane h n v).image = h.image := rfl
@[simp] theorem setLane_mode (n : Nat) (v : Lane) : (setLane h n v).mode = h.mode := rfl
@[simp] theorem setLane_thmErr (n : Nat) (v : Lane) : (setLane h n v).thmErr = h.thmErr := rfl
@[simp] theorem setLane_inject (n : Nat) (v : Lane) : (setLane h n v).inject = h.inject := rfl
@[simp] theorem setLane_out (n : Nat) (v : Lane) : (setLane h n v).out = h.out := rfl
@[simp] theorem setLane_react (n : Nat) (v : Lane) : (setLane h n v).react = h.react := rfl
@[simp] theorem setLane_draws (n : Nat) (v : Lane) : (setLane h n v).draws = h.draws := rfl

/-! `setLaneset` writes `link` alone. -/

@[simp] theorem setLaneset_regs (n : Nat) (v : Laneset) : (setLaneset h n v).regs = h.regs := rfl
@[simp] theorem setLaneset_blobs (n : Nat) (v : Laneset) : (setLaneset h n v).blobs = h.blobs := rfl
@[simp] theorem setLaneset_dict (n : Nat) (v : Laneset) : (setLaneset h n v).dict = h.dict := rfl
@[simp] theorem setLaneset_faults (n : Nat) (v : Laneset) : (setLaneset h n v).faults = h.faults := rfl
@[simp] theorem setLaneset_clock (n : Nat) (v : Laneset) : (setLaneset h n v).clock = h.clock := rfl
@[simp] theorem setLaneset_place (n : Nat) (v : Laneset) : (setLaneset h n v).place = h.place := rfl
@[simp] theorem setLaneset_chans (n : Nat) (v : Laneset) : (setLaneset h n v).chans = h.chans := rfl
@[simp] theorem setLaneset_jobs (n : Nat) (v : Laneset) : (setLaneset h n v).jobs = h.jobs := rfl
@[simp] theorem setLaneset_power (n : Nat) (v : Laneset) : (setLaneset h n v).power = h.power := rfl
@[simp] theorem setLaneset_therm (n : Nat) (v : Laneset) : (setLaneset h n v).therm = h.therm := rfl
@[simp] theorem setLaneset_test (n : Nat) (v : Laneset) : (setLaneset h n v).test = h.test := rfl
@[simp] theorem setLaneset_boot (n : Nat) (v : Laneset) : (setLaneset h n v).boot = h.boot := rfl
@[simp] theorem setLaneset_image (n : Nat) (v : Laneset) : (setLaneset h n v).image = h.image := rfl
@[simp] theorem setLaneset_mode (n : Nat) (v : Laneset) : (setLaneset h n v).mode = h.mode := rfl
@[simp] theorem setLaneset_thmErr (n : Nat) (v : Laneset) : (setLaneset h n v).thmErr = h.thmErr := rfl
@[simp] theorem setLaneset_inject (n : Nat) (v : Laneset) : (setLaneset h n v).inject = h.inject := rfl
@[simp] theorem setLaneset_out (n : Nat) (v : Laneset) : (setLaneset h n v).out = h.out := rfl
@[simp] theorem setLaneset_react (n : Nat) (v : Laneset) : (setLaneset h n v).react = h.react := rfl
@[simp] theorem setLaneset_draws (n : Nat) (v : Laneset) : (setLaneset h n v).draws = h.draws := rfl

/-! `setPort` writes `link` alone. -/

@[simp] theorem setPort_regs (n : Nat) (v : Port) : (setPort h n v).regs = h.regs := rfl
@[simp] theorem setPort_blobs (n : Nat) (v : Port) : (setPort h n v).blobs = h.blobs := rfl
@[simp] theorem setPort_dict (n : Nat) (v : Port) : (setPort h n v).dict = h.dict := rfl
@[simp] theorem setPort_faults (n : Nat) (v : Port) : (setPort h n v).faults = h.faults := rfl
@[simp] theorem setPort_clock (n : Nat) (v : Port) : (setPort h n v).clock = h.clock := rfl
@[simp] theorem setPort_place (n : Nat) (v : Port) : (setPort h n v).place = h.place := rfl
@[simp] theorem setPort_chans (n : Nat) (v : Port) : (setPort h n v).chans = h.chans := rfl
@[simp] theorem setPort_jobs (n : Nat) (v : Port) : (setPort h n v).jobs = h.jobs := rfl
@[simp] theorem setPort_power (n : Nat) (v : Port) : (setPort h n v).power = h.power := rfl
@[simp] theorem setPort_therm (n : Nat) (v : Port) : (setPort h n v).therm = h.therm := rfl
@[simp] theorem setPort_test (n : Nat) (v : Port) : (setPort h n v).test = h.test := rfl
@[simp] theorem setPort_boot (n : Nat) (v : Port) : (setPort h n v).boot = h.boot := rfl
@[simp] theorem setPort_image (n : Nat) (v : Port) : (setPort h n v).image = h.image := rfl
@[simp] theorem setPort_mode (n : Nat) (v : Port) : (setPort h n v).mode = h.mode := rfl
@[simp] theorem setPort_thmErr (n : Nat) (v : Port) : (setPort h n v).thmErr = h.thmErr := rfl
@[simp] theorem setPort_inject (n : Nat) (v : Port) : (setPort h n v).inject = h.inject := rfl
@[simp] theorem setPort_out (n : Nat) (v : Port) : (setPort h n v).out = h.out := rfl
@[simp] theorem setPort_react (n : Nat) (v : Port) : (setPort h n v).react = h.react := rfl
@[simp] theorem setPort_draws (n : Nat) (v : Port) : (setPort h n v).draws = h.draws := rfl

/-! `setPlace` writes `place` alone. -/

@[simp] theorem setPlace_regs (v : Place) : (setPlace h v).regs = h.regs := rfl
@[simp] theorem setPlace_blobs (v : Place) : (setPlace h v).blobs = h.blobs := rfl
@[simp] theorem setPlace_dict (v : Place) : (setPlace h v).dict = h.dict := rfl
@[simp] theorem setPlace_faults (v : Place) : (setPlace h v).faults = h.faults := rfl
@[simp] theorem setPlace_clock (v : Place) : (setPlace h v).clock = h.clock := rfl
@[simp] theorem setPlace_link (v : Place) : (setPlace h v).link = h.link := rfl
@[simp] theorem setPlace_chans (v : Place) : (setPlace h v).chans = h.chans := rfl
@[simp] theorem setPlace_jobs (v : Place) : (setPlace h v).jobs = h.jobs := rfl
@[simp] theorem setPlace_power (v : Place) : (setPlace h v).power = h.power := rfl
@[simp] theorem setPlace_therm (v : Place) : (setPlace h v).therm = h.therm := rfl
@[simp] theorem setPlace_test (v : Place) : (setPlace h v).test = h.test := rfl
@[simp] theorem setPlace_boot (v : Place) : (setPlace h v).boot = h.boot := rfl
@[simp] theorem setPlace_image (v : Place) : (setPlace h v).image = h.image := rfl
@[simp] theorem setPlace_mode (v : Place) : (setPlace h v).mode = h.mode := rfl
@[simp] theorem setPlace_thmErr (v : Place) : (setPlace h v).thmErr = h.thmErr := rfl
@[simp] theorem setPlace_inject (v : Place) : (setPlace h v).inject = h.inject := rfl
@[simp] theorem setPlace_out (v : Place) : (setPlace h v).out = h.out := rfl
@[simp] theorem setPlace_react (v : Place) : (setPlace h v).react = h.react := rfl
@[simp] theorem setPlace_draws (v : Place) : (setPlace h v).draws = h.draws := rfl

/-! `setPc` writes `chans` alone. -/

@[simp] theorem setPc_regs (n : Nat) (v : Pc) : (setPc h n v).regs = h.regs := rfl
@[simp] theorem setPc_blobs (n : Nat) (v : Pc) : (setPc h n v).blobs = h.blobs := rfl
@[simp] theorem setPc_dict (n : Nat) (v : Pc) : (setPc h n v).dict = h.dict := rfl
@[simp] theorem setPc_faults (n : Nat) (v : Pc) : (setPc h n v).faults = h.faults := rfl
@[simp] theorem setPc_clock (n : Nat) (v : Pc) : (setPc h n v).clock = h.clock := rfl
@[simp] theorem setPc_link (n : Nat) (v : Pc) : (setPc h n v).link = h.link := rfl
@[simp] theorem setPc_place (n : Nat) (v : Pc) : (setPc h n v).place = h.place := rfl
@[simp] theorem setPc_jobs (n : Nat) (v : Pc) : (setPc h n v).jobs = h.jobs := rfl
@[simp] theorem setPc_power (n : Nat) (v : Pc) : (setPc h n v).power = h.power := rfl
@[simp] theorem setPc_therm (n : Nat) (v : Pc) : (setPc h n v).therm = h.therm := rfl
@[simp] theorem setPc_test (n : Nat) (v : Pc) : (setPc h n v).test = h.test := rfl
@[simp] theorem setPc_boot (n : Nat) (v : Pc) : (setPc h n v).boot = h.boot := rfl
@[simp] theorem setPc_image (n : Nat) (v : Pc) : (setPc h n v).image = h.image := rfl
@[simp] theorem setPc_mode (n : Nat) (v : Pc) : (setPc h n v).mode = h.mode := rfl
@[simp] theorem setPc_thmErr (n : Nat) (v : Pc) : (setPc h n v).thmErr = h.thmErr := rfl
@[simp] theorem setPc_inject (n : Nat) (v : Pc) : (setPc h n v).inject = h.inject := rfl
@[simp] theorem setPc_out (n : Nat) (v : Pc) : (setPc h n v).out = h.out := rfl
@[simp] theorem setPc_react (n : Nat) (v : Pc) : (setPc h n v).react = h.react := rfl
@[simp] theorem setPc_draws (n : Nat) (v : Pc) : (setPc h n v).draws = h.draws := rfl

/-! `setCh` writes `chans` alone. -/

@[simp] theorem setCh_regs (n : Nat) (v : Chan) : (setCh h n v).regs = h.regs := rfl
@[simp] theorem setCh_blobs (n : Nat) (v : Chan) : (setCh h n v).blobs = h.blobs := rfl
@[simp] theorem setCh_dict (n : Nat) (v : Chan) : (setCh h n v).dict = h.dict := rfl
@[simp] theorem setCh_faults (n : Nat) (v : Chan) : (setCh h n v).faults = h.faults := rfl
@[simp] theorem setCh_clock (n : Nat) (v : Chan) : (setCh h n v).clock = h.clock := rfl
@[simp] theorem setCh_link (n : Nat) (v : Chan) : (setCh h n v).link = h.link := rfl
@[simp] theorem setCh_place (n : Nat) (v : Chan) : (setCh h n v).place = h.place := rfl
@[simp] theorem setCh_jobs (n : Nat) (v : Chan) : (setCh h n v).jobs = h.jobs := rfl
@[simp] theorem setCh_power (n : Nat) (v : Chan) : (setCh h n v).power = h.power := rfl
@[simp] theorem setCh_therm (n : Nat) (v : Chan) : (setCh h n v).therm = h.therm := rfl
@[simp] theorem setCh_test (n : Nat) (v : Chan) : (setCh h n v).test = h.test := rfl
@[simp] theorem setCh_boot (n : Nat) (v : Chan) : (setCh h n v).boot = h.boot := rfl
@[simp] theorem setCh_image (n : Nat) (v : Chan) : (setCh h n v).image = h.image := rfl
@[simp] theorem setCh_mode (n : Nat) (v : Chan) : (setCh h n v).mode = h.mode := rfl
@[simp] theorem setCh_thmErr (n : Nat) (v : Chan) : (setCh h n v).thmErr = h.thmErr := rfl
@[simp] theorem setCh_inject (n : Nat) (v : Chan) : (setCh h n v).inject = h.inject := rfl
@[simp] theorem setCh_out (n : Nat) (v : Chan) : (setCh h n v).out = h.out := rfl
@[simp] theorem setCh_react (n : Nat) (v : Chan) : (setCh h n v).react = h.react := rfl
@[simp] theorem setCh_draws (n : Nat) (v : Chan) : (setCh h n v).draws = h.draws := rfl

/-! `setDie` writes `chans` alone. -/

@[simp] theorem setDie_regs (n : Nat) (v : Die) : (setDie h n v).regs = h.regs := rfl
@[simp] theorem setDie_blobs (n : Nat) (v : Die) : (setDie h n v).blobs = h.blobs := rfl
@[simp] theorem setDie_dict (n : Nat) (v : Die) : (setDie h n v).dict = h.dict := rfl
@[simp] theorem setDie_faults (n : Nat) (v : Die) : (setDie h n v).faults = h.faults := rfl
@[simp] theorem setDie_clock (n : Nat) (v : Die) : (setDie h n v).clock = h.clock := rfl
@[simp] theorem setDie_link (n : Nat) (v : Die) : (setDie h n v).link = h.link := rfl
@[simp] theorem setDie_place (n : Nat) (v : Die) : (setDie h n v).place = h.place := rfl
@[simp] theorem setDie_jobs (n : Nat) (v : Die) : (setDie h n v).jobs = h.jobs := rfl
@[simp] theorem setDie_power (n : Nat) (v : Die) : (setDie h n v).power = h.power := rfl
@[simp] theorem setDie_therm (n : Nat) (v : Die) : (setDie h n v).therm = h.therm := rfl
@[simp] theorem setDie_test (n : Nat) (v : Die) : (setDie h n v).test = h.test := rfl
@[simp] theorem setDie_boot (n : Nat) (v : Die) : (setDie h n v).boot = h.boot := rfl
@[simp] theorem setDie_image (n : Nat) (v : Die) : (setDie h n v).image = h.image := rfl
@[simp] theorem setDie_mode (n : Nat) (v : Die) : (setDie h n v).mode = h.mode := rfl
@[simp] theorem setDie_thmErr (n : Nat) (v : Die) : (setDie h n v).thmErr = h.thmErr := rfl
@[simp] theorem setDie_inject (n : Nat) (v : Die) : (setDie h n v).inject = h.inject := rfl
@[simp] theorem setDie_out (n : Nat) (v : Die) : (setDie h n v).out = h.out := rfl
@[simp] theorem setDie_react (n : Nat) (v : Die) : (setDie h n v).react = h.react := rfl
@[simp] theorem setDie_draws (n : Nat) (v : Die) : (setDie h n v).draws = h.draws := rfl

/-! `setTrk` writes `chans` alone. -/

@[simp] theorem setTrk_regs (n : Nat) (v : TrackSt) : (setTrk h n v).regs = h.regs := rfl
@[simp] theorem setTrk_blobs (n : Nat) (v : TrackSt) : (setTrk h n v).blobs = h.blobs := rfl
@[simp] theorem setTrk_dict (n : Nat) (v : TrackSt) : (setTrk h n v).dict = h.dict := rfl
@[simp] theorem setTrk_faults (n : Nat) (v : TrackSt) : (setTrk h n v).faults = h.faults := rfl
@[simp] theorem setTrk_clock (n : Nat) (v : TrackSt) : (setTrk h n v).clock = h.clock := rfl
@[simp] theorem setTrk_link (n : Nat) (v : TrackSt) : (setTrk h n v).link = h.link := rfl
@[simp] theorem setTrk_place (n : Nat) (v : TrackSt) : (setTrk h n v).place = h.place := rfl
@[simp] theorem setTrk_jobs (n : Nat) (v : TrackSt) : (setTrk h n v).jobs = h.jobs := rfl
@[simp] theorem setTrk_power (n : Nat) (v : TrackSt) : (setTrk h n v).power = h.power := rfl
@[simp] theorem setTrk_therm (n : Nat) (v : TrackSt) : (setTrk h n v).therm = h.therm := rfl
@[simp] theorem setTrk_test (n : Nat) (v : TrackSt) : (setTrk h n v).test = h.test := rfl
@[simp] theorem setTrk_boot (n : Nat) (v : TrackSt) : (setTrk h n v).boot = h.boot := rfl
@[simp] theorem setTrk_image (n : Nat) (v : TrackSt) : (setTrk h n v).image = h.image := rfl
@[simp] theorem setTrk_mode (n : Nat) (v : TrackSt) : (setTrk h n v).mode = h.mode := rfl
@[simp] theorem setTrk_thmErr (n : Nat) (v : TrackSt) : (setTrk h n v).thmErr = h.thmErr := rfl
@[simp] theorem setTrk_inject (n : Nat) (v : TrackSt) : (setTrk h n v).inject = h.inject := rfl
@[simp] theorem setTrk_out (n : Nat) (v : TrackSt) : (setTrk h n v).out = h.out := rfl
@[simp] theorem setTrk_react (n : Nat) (v : TrackSt) : (setTrk h n v).react = h.react := rfl
@[simp] theorem setTrk_draws (n : Nat) (v : TrackSt) : (setTrk h n v).draws = h.draws := rfl

/-! `setTxn` writes `chans` alone. -/

@[simp] theorem setTxn_regs (n : Nat) (v : Txn) : (setTxn h n v).regs = h.regs := rfl
@[simp] theorem setTxn_blobs (n : Nat) (v : Txn) : (setTxn h n v).blobs = h.blobs := rfl
@[simp] theorem setTxn_dict (n : Nat) (v : Txn) : (setTxn h n v).dict = h.dict := rfl
@[simp] theorem setTxn_faults (n : Nat) (v : Txn) : (setTxn h n v).faults = h.faults := rfl
@[simp] theorem setTxn_clock (n : Nat) (v : Txn) : (setTxn h n v).clock = h.clock := rfl
@[simp] theorem setTxn_link (n : Nat) (v : Txn) : (setTxn h n v).link = h.link := rfl
@[simp] theorem setTxn_place (n : Nat) (v : Txn) : (setTxn h n v).place = h.place := rfl
@[simp] theorem setTxn_jobs (n : Nat) (v : Txn) : (setTxn h n v).jobs = h.jobs := rfl
@[simp] theorem setTxn_power (n : Nat) (v : Txn) : (setTxn h n v).power = h.power := rfl
@[simp] theorem setTxn_therm (n : Nat) (v : Txn) : (setTxn h n v).therm = h.therm := rfl
@[simp] theorem setTxn_test (n : Nat) (v : Txn) : (setTxn h n v).test = h.test := rfl
@[simp] theorem setTxn_boot (n : Nat) (v : Txn) : (setTxn h n v).boot = h.boot := rfl
@[simp] theorem setTxn_image (n : Nat) (v : Txn) : (setTxn h n v).image = h.image := rfl
@[simp] theorem setTxn_mode (n : Nat) (v : Txn) : (setTxn h n v).mode = h.mode := rfl
@[simp] theorem setTxn_thmErr (n : Nat) (v : Txn) : (setTxn h n v).thmErr = h.thmErr := rfl
@[simp] theorem setTxn_inject (n : Nat) (v : Txn) : (setTxn h n v).inject = h.inject := rfl
@[simp] theorem setTxn_out (n : Nat) (v : Txn) : (setTxn h n v).out = h.out := rfl
@[simp] theorem setTxn_react (n : Nat) (v : Txn) : (setTxn h n v).react = h.react := rfl
@[simp] theorem setTxn_draws (n : Nat) (v : Txn) : (setTxn h n v).draws = h.draws := rfl

/-! `setJobs` writes `jobs` alone. -/

@[simp] theorem setJobs_regs (v : Jobs) : (setJobs h v).regs = h.regs := rfl
@[simp] theorem setJobs_blobs (v : Jobs) : (setJobs h v).blobs = h.blobs := rfl
@[simp] theorem setJobs_dict (v : Jobs) : (setJobs h v).dict = h.dict := rfl
@[simp] theorem setJobs_faults (v : Jobs) : (setJobs h v).faults = h.faults := rfl
@[simp] theorem setJobs_clock (v : Jobs) : (setJobs h v).clock = h.clock := rfl
@[simp] theorem setJobs_link (v : Jobs) : (setJobs h v).link = h.link := rfl
@[simp] theorem setJobs_place (v : Jobs) : (setJobs h v).place = h.place := rfl
@[simp] theorem setJobs_chans (v : Jobs) : (setJobs h v).chans = h.chans := rfl
@[simp] theorem setJobs_power (v : Jobs) : (setJobs h v).power = h.power := rfl
@[simp] theorem setJobs_therm (v : Jobs) : (setJobs h v).therm = h.therm := rfl
@[simp] theorem setJobs_test (v : Jobs) : (setJobs h v).test = h.test := rfl
@[simp] theorem setJobs_boot (v : Jobs) : (setJobs h v).boot = h.boot := rfl
@[simp] theorem setJobs_image (v : Jobs) : (setJobs h v).image = h.image := rfl
@[simp] theorem setJobs_mode (v : Jobs) : (setJobs h v).mode = h.mode := rfl
@[simp] theorem setJobs_thmErr (v : Jobs) : (setJobs h v).thmErr = h.thmErr := rfl
@[simp] theorem setJobs_inject (v : Jobs) : (setJobs h v).inject = h.inject := rfl
@[simp] theorem setJobs_out (v : Jobs) : (setJobs h v).out = h.out := rfl
@[simp] theorem setJobs_react (v : Jobs) : (setJobs h v).react = h.react := rfl
@[simp] theorem setJobs_draws (v : Jobs) : (setJobs h v).draws = h.draws := rfl

/-! `setEngine` writes `jobs` alone. -/

@[simp] theorem setEngine_regs (n : Nat) (v : Engine) : (setEngine h n v).regs = h.regs := rfl
@[simp] theorem setEngine_blobs (n : Nat) (v : Engine) : (setEngine h n v).blobs = h.blobs := rfl
@[simp] theorem setEngine_dict (n : Nat) (v : Engine) : (setEngine h n v).dict = h.dict := rfl
@[simp] theorem setEngine_faults (n : Nat) (v : Engine) : (setEngine h n v).faults = h.faults := rfl
@[simp] theorem setEngine_clock (n : Nat) (v : Engine) : (setEngine h n v).clock = h.clock := rfl
@[simp] theorem setEngine_link (n : Nat) (v : Engine) : (setEngine h n v).link = h.link := rfl
@[simp] theorem setEngine_place (n : Nat) (v : Engine) : (setEngine h n v).place = h.place := rfl
@[simp] theorem setEngine_chans (n : Nat) (v : Engine) : (setEngine h n v).chans = h.chans := rfl
@[simp] theorem setEngine_power (n : Nat) (v : Engine) : (setEngine h n v).power = h.power := rfl
@[simp] theorem setEngine_therm (n : Nat) (v : Engine) : (setEngine h n v).therm = h.therm := rfl
@[simp] theorem setEngine_test (n : Nat) (v : Engine) : (setEngine h n v).test = h.test := rfl
@[simp] theorem setEngine_boot (n : Nat) (v : Engine) : (setEngine h n v).boot = h.boot := rfl
@[simp] theorem setEngine_image (n : Nat) (v : Engine) : (setEngine h n v).image = h.image := rfl
@[simp] theorem setEngine_mode (n : Nat) (v : Engine) : (setEngine h n v).mode = h.mode := rfl
@[simp] theorem setEngine_thmErr (n : Nat) (v : Engine) : (setEngine h n v).thmErr = h.thmErr := rfl
@[simp] theorem setEngine_inject (n : Nat) (v : Engine) : (setEngine h n v).inject = h.inject := rfl
@[simp] theorem setEngine_out (n : Nat) (v : Engine) : (setEngine h n v).out = h.out := rfl
@[simp] theorem setEngine_react (n : Nat) (v : Engine) : (setEngine h n v).react = h.react := rfl
@[simp] theorem setEngine_draws (n : Nat) (v : Engine) : (setEngine h n v).draws = h.draws := rfl

/-! `setPower` writes `power` alone. -/

@[simp] theorem setPower_regs (v : Power) : (setPower h v).regs = h.regs := rfl
@[simp] theorem setPower_blobs (v : Power) : (setPower h v).blobs = h.blobs := rfl
@[simp] theorem setPower_dict (v : Power) : (setPower h v).dict = h.dict := rfl
@[simp] theorem setPower_faults (v : Power) : (setPower h v).faults = h.faults := rfl
@[simp] theorem setPower_clock (v : Power) : (setPower h v).clock = h.clock := rfl
@[simp] theorem setPower_link (v : Power) : (setPower h v).link = h.link := rfl
@[simp] theorem setPower_place (v : Power) : (setPower h v).place = h.place := rfl
@[simp] theorem setPower_chans (v : Power) : (setPower h v).chans = h.chans := rfl
@[simp] theorem setPower_jobs (v : Power) : (setPower h v).jobs = h.jobs := rfl
@[simp] theorem setPower_therm (v : Power) : (setPower h v).therm = h.therm := rfl
@[simp] theorem setPower_test (v : Power) : (setPower h v).test = h.test := rfl
@[simp] theorem setPower_boot (v : Power) : (setPower h v).boot = h.boot := rfl
@[simp] theorem setPower_image (v : Power) : (setPower h v).image = h.image := rfl
@[simp] theorem setPower_mode (v : Power) : (setPower h v).mode = h.mode := rfl
@[simp] theorem setPower_thmErr (v : Power) : (setPower h v).thmErr = h.thmErr := rfl
@[simp] theorem setPower_inject (v : Power) : (setPower h v).inject = h.inject := rfl
@[simp] theorem setPower_out (v : Power) : (setPower h v).out = h.out := rfl
@[simp] theorem setPower_react (v : Power) : (setPower h v).react = h.react := rfl
@[simp] theorem setPower_draws (v : Power) : (setPower h v).draws = h.draws := rfl

/-! `setTherm` writes `therm` alone. -/

@[simp] theorem setTherm_regs (v : Therm) : (setTherm h v).regs = h.regs := rfl
@[simp] theorem setTherm_blobs (v : Therm) : (setTherm h v).blobs = h.blobs := rfl
@[simp] theorem setTherm_dict (v : Therm) : (setTherm h v).dict = h.dict := rfl
@[simp] theorem setTherm_faults (v : Therm) : (setTherm h v).faults = h.faults := rfl
@[simp] theorem setTherm_clock (v : Therm) : (setTherm h v).clock = h.clock := rfl
@[simp] theorem setTherm_link (v : Therm) : (setTherm h v).link = h.link := rfl
@[simp] theorem setTherm_place (v : Therm) : (setTherm h v).place = h.place := rfl
@[simp] theorem setTherm_chans (v : Therm) : (setTherm h v).chans = h.chans := rfl
@[simp] theorem setTherm_jobs (v : Therm) : (setTherm h v).jobs = h.jobs := rfl
@[simp] theorem setTherm_power (v : Therm) : (setTherm h v).power = h.power := rfl
@[simp] theorem setTherm_test (v : Therm) : (setTherm h v).test = h.test := rfl
@[simp] theorem setTherm_boot (v : Therm) : (setTherm h v).boot = h.boot := rfl
@[simp] theorem setTherm_image (v : Therm) : (setTherm h v).image = h.image := rfl
@[simp] theorem setTherm_mode (v : Therm) : (setTherm h v).mode = h.mode := rfl
@[simp] theorem setTherm_thmErr (v : Therm) : (setTherm h v).thmErr = h.thmErr := rfl
@[simp] theorem setTherm_inject (v : Therm) : (setTherm h v).inject = h.inject := rfl
@[simp] theorem setTherm_out (v : Therm) : (setTherm h v).out = h.out := rfl
@[simp] theorem setTherm_react (v : Therm) : (setTherm h v).react = h.react := rfl
@[simp] theorem setTherm_draws (v : Therm) : (setTherm h v).draws = h.draws := rfl

/-! `setTest` writes `test` alone. -/

@[simp] theorem setTest_regs (v : Test) : (setTest h v).regs = h.regs := rfl
@[simp] theorem setTest_blobs (v : Test) : (setTest h v).blobs = h.blobs := rfl
@[simp] theorem setTest_dict (v : Test) : (setTest h v).dict = h.dict := rfl
@[simp] theorem setTest_faults (v : Test) : (setTest h v).faults = h.faults := rfl
@[simp] theorem setTest_clock (v : Test) : (setTest h v).clock = h.clock := rfl
@[simp] theorem setTest_link (v : Test) : (setTest h v).link = h.link := rfl
@[simp] theorem setTest_place (v : Test) : (setTest h v).place = h.place := rfl
@[simp] theorem setTest_chans (v : Test) : (setTest h v).chans = h.chans := rfl
@[simp] theorem setTest_jobs (v : Test) : (setTest h v).jobs = h.jobs := rfl
@[simp] theorem setTest_power (v : Test) : (setTest h v).power = h.power := rfl
@[simp] theorem setTest_therm (v : Test) : (setTest h v).therm = h.therm := rfl
@[simp] theorem setTest_boot (v : Test) : (setTest h v).boot = h.boot := rfl
@[simp] theorem setTest_image (v : Test) : (setTest h v).image = h.image := rfl
@[simp] theorem setTest_mode (v : Test) : (setTest h v).mode = h.mode := rfl
@[simp] theorem setTest_thmErr (v : Test) : (setTest h v).thmErr = h.thmErr := rfl
@[simp] theorem setTest_inject (v : Test) : (setTest h v).inject = h.inject := rfl
@[simp] theorem setTest_out (v : Test) : (setTest h v).out = h.out := rfl
@[simp] theorem setTest_react (v : Test) : (setTest h v).react = h.react := rfl
@[simp] theorem setTest_draws (v : Test) : (setTest h v).draws = h.draws := rfl

/-! `setFaults` writes `faults` alone. -/

@[simp] theorem setFaults_regs (v : Faults) : (setFaults h v).regs = h.regs := rfl
@[simp] theorem setFaults_blobs (v : Faults) : (setFaults h v).blobs = h.blobs := rfl
@[simp] theorem setFaults_dict (v : Faults) : (setFaults h v).dict = h.dict := rfl
@[simp] theorem setFaults_clock (v : Faults) : (setFaults h v).clock = h.clock := rfl
@[simp] theorem setFaults_link (v : Faults) : (setFaults h v).link = h.link := rfl
@[simp] theorem setFaults_place (v : Faults) : (setFaults h v).place = h.place := rfl
@[simp] theorem setFaults_chans (v : Faults) : (setFaults h v).chans = h.chans := rfl
@[simp] theorem setFaults_jobs (v : Faults) : (setFaults h v).jobs = h.jobs := rfl
@[simp] theorem setFaults_power (v : Faults) : (setFaults h v).power = h.power := rfl
@[simp] theorem setFaults_therm (v : Faults) : (setFaults h v).therm = h.therm := rfl
@[simp] theorem setFaults_test (v : Faults) : (setFaults h v).test = h.test := rfl
@[simp] theorem setFaults_boot (v : Faults) : (setFaults h v).boot = h.boot := rfl
@[simp] theorem setFaults_image (v : Faults) : (setFaults h v).image = h.image := rfl
@[simp] theorem setFaults_mode (v : Faults) : (setFaults h v).mode = h.mode := rfl
@[simp] theorem setFaults_thmErr (v : Faults) : (setFaults h v).thmErr = h.thmErr := rfl
@[simp] theorem setFaults_inject (v : Faults) : (setFaults h v).inject = h.inject := rfl
@[simp] theorem setFaults_out (v : Faults) : (setFaults h v).out = h.out := rfl
@[simp] theorem setFaults_react (v : Faults) : (setFaults h v).react = h.react := rfl
@[simp] theorem setFaults_draws (v : Faults) : (setFaults h v).draws = h.draws := rfl

/-! `setInject` writes `inject` alone. -/

@[simp] theorem setInject_regs (v : Inject) : (setInject h v).regs = h.regs := rfl
@[simp] theorem setInject_blobs (v : Inject) : (setInject h v).blobs = h.blobs := rfl
@[simp] theorem setInject_dict (v : Inject) : (setInject h v).dict = h.dict := rfl
@[simp] theorem setInject_faults (v : Inject) : (setInject h v).faults = h.faults := rfl
@[simp] theorem setInject_clock (v : Inject) : (setInject h v).clock = h.clock := rfl
@[simp] theorem setInject_link (v : Inject) : (setInject h v).link = h.link := rfl
@[simp] theorem setInject_place (v : Inject) : (setInject h v).place = h.place := rfl
@[simp] theorem setInject_chans (v : Inject) : (setInject h v).chans = h.chans := rfl
@[simp] theorem setInject_jobs (v : Inject) : (setInject h v).jobs = h.jobs := rfl
@[simp] theorem setInject_power (v : Inject) : (setInject h v).power = h.power := rfl
@[simp] theorem setInject_therm (v : Inject) : (setInject h v).therm = h.therm := rfl
@[simp] theorem setInject_test (v : Inject) : (setInject h v).test = h.test := rfl
@[simp] theorem setInject_boot (v : Inject) : (setInject h v).boot = h.boot := rfl
@[simp] theorem setInject_image (v : Inject) : (setInject h v).image = h.image := rfl
@[simp] theorem setInject_mode (v : Inject) : (setInject h v).mode = h.mode := rfl
@[simp] theorem setInject_thmErr (v : Inject) : (setInject h v).thmErr = h.thmErr := rfl
@[simp] theorem setInject_out (v : Inject) : (setInject h v).out = h.out := rfl
@[simp] theorem setInject_react (v : Inject) : (setInject h v).react = h.react := rfl
@[simp] theorem setInject_draws (v : Inject) : (setInject h v).draws = h.draws := rfl

/-! A command begins: what was driven outward and set going is cleared. -/

@[simp] theorem begin_regs : (begin h).regs = h.regs := rfl
@[simp] theorem begin_blobs : (begin h).blobs = h.blobs := rfl
@[simp] theorem begin_dict : (begin h).dict = h.dict := rfl
@[simp] theorem begin_faults : (begin h).faults = h.faults := rfl
@[simp] theorem begin_clock : (begin h).clock = h.clock := rfl
@[simp] theorem begin_link : (begin h).link = h.link := rfl
@[simp] theorem begin_place : (begin h).place = h.place := rfl
@[simp] theorem begin_chans : (begin h).chans = h.chans := rfl
@[simp] theorem begin_jobs : (begin h).jobs = h.jobs := rfl
@[simp] theorem begin_power : (begin h).power = h.power := rfl
@[simp] theorem begin_therm : (begin h).therm = h.therm := rfl
@[simp] theorem begin_test : (begin h).test = h.test := rfl
@[simp] theorem begin_boot : (begin h).boot = h.boot := rfl
@[simp] theorem begin_image : (begin h).image = h.image := rfl
@[simp] theorem begin_mode : (begin h).mode = h.mode := rfl
@[simp] theorem begin_thmErr : (begin h).thmErr = h.thmErr := rfl
@[simp] theorem begin_inject : (begin h).inject = h.inject := rfl
@[simp] theorem begin_out : (begin h).out = [] := rfl
@[simp] theorem begin_react : (begin h).react = {} := rfl
@[simp] theorem begin_draws : (begin h).draws = h.draws := rfl

/-! Reads after updates. -/

@[simp] theorem begin_begin : begin (begin h) = begin h := rfl

@[simp] theorem obj_begin (i j u : Nat) : obj (begin h) i j u = obj h i j u := rfl

@[simp] theorem awake_begin : awake (begin h) = awake h := rfl
@[simp] theorem linkState_begin : linkState (begin h) = linkState h := rfl
@[simp] theorem linkActive_begin : linkActive (begin h) = linkActive h := rfl
@[simp] theorem lsState_begin (n : Nat) : lsState (begin h) n = lsState h n := rfl
@[simp] theorem inService_begin (n : Nat) : inService (begin h) n = inService h n := rfl
@[simp] theorem lane_begin (n : Nat) : lane (begin h) n = lane h n := rfl
@[simp] theorem laneset_begin (n : Nat) : laneset (begin h) n = laneset h n := rfl
@[simp] theorem port_begin (n : Nat) : port (begin h) n = port h n := rfl
@[simp] theorem portOf_begin (n : Nat) : portOf (begin h) n = portOf h n := rfl
@[simp] theorem inPattern_begin (n : Nat) : inPattern (begin h) n = inPattern h n := rfl
@[simp] theorem inLock_begin (n : Nat) : inLock (begin h) n = inLock h n := rfl
@[simp] theorem judged_begin (n : Nat) : judged (begin h) n = judged h n := rfl
@[simp] theorem mayPark_begin (n : Nat) : mayPark (begin h) n = mayPark h n := rfl
@[simp] theorem engine_begin (n : Nat) : engine (begin h) n = engine h n := rfl
@[simp] theorem engState_begin (n : Nat) : engState (begin h) n = engState h n := rfl
@[simp] theorem pcSt_begin (n : Nat) : pcSt (begin h) n = pcSt h n := rfl
@[simp] theorem chSt_begin (n : Nat) : chSt (begin h) n = chSt h n := rfl
@[simp] theorem dieSt_begin (n : Nat) : dieSt (begin h) n = dieSt h n := rfl
@[simp] theorem dieState_begin (n : Nat) : dieState (begin h) n = dieState h n := rfl
@[simp] theorem trkSt_begin (n : Nat) : trkSt (begin h) n = trkSt h n := rfl
@[simp] theorem route_begin (n : Nat) : route (begin h) n = route h n := rfl
@[simp] theorem now_begin : now (begin h) = now h := rfl
@[simp] theorem blob_begin (i j : Nat) : blob (begin h) i j = blob h i j := rfl

/-- A register reads what was written to it. -/
@[simp] theorem obj_setObj_same (i j u v : Nat) : obj (setObj h i j u v) i j u = v :=
  tget_tput_same (regDefault (regKey i j u)) v h.regs (regKey i j u)

/-- A write leaves every other register alone. -/
theorem obj_setObj_other (v : Nat) {i j u i' j' u' : Nat} (hk : regKey i' j' u' ≠ regKey i j u) :
    obj (setObj h i j u v) i' j' u' = obj h i' j' u' :=
  tget_tput_other (regDefault (regKey i j u)) (regDefault (regKey i' j' u')) v h.regs hk

/-- Registers with different names, subindexes or units have different keys. -/
theorem regKey_inj {i j u i' j' u' : Nat} (hj : j < 256) (hj' : j' < 256) (hu : u < 4096) (hu' : u' < 4096)
    (h : regKey i j u = regKey i' j' u') : i = i' ∧ j = j' ∧ u = u' := by
  unfold regKey at h
  omega

/-- Of two writes to one register the later stays. -/
theorem setObj_setObj (i j u v w : Nat) : setObj (setObj h i j u v) i j u w = setObj h i j u w := by
  have ht : (setObj (setObj h i j u v) i j u w).regs = (setObj h i j u w).regs := tput_tput _ v w h.regs _
  unfold setObj at ht ⊢
  simp only at ht
  simp only [ht]

/-- A counter counts, up to the largest value of its type. -/
theorem obj_bumpBy_same (i j u n : Nat) : obj (bumpBy h i j u n) i j u = satAdd (objWidth i j) (obj h i j u) n :=
  obj_setObj_same h i j u _

@[simp] theorem port_setPort_same (n : Nat) (v : Port) : port (setPort h n v) n = v := tget_tput_same _ v _ n

theorem port_setPort_other (v : Port) {n m : Nat} (hn : m ≠ n) : port (setPort h n v) m = port h m := tget_tput_other _ _ v _ hn

@[simp] theorem laneset_setLaneset_same (n : Nat) (v : Laneset) : laneset (setLaneset h n v) n = v := tget_tput_same _ v _ n

theorem laneset_setLaneset_other (v : Laneset) {n m : Nat} (hn : m ≠ n) : laneset (setLaneset h n v) m = laneset h m :=
  tget_tput_other _ _ v _ hn

@[simp] theorem lane_setLane_same (n : Nat) (v : Lane) : lane (setLane h n v) n = v := tget_tput_same _ v _ n

theorem lane_setLane_other (v : Lane) {n m : Nat} (hn : m ≠ n) : lane (setLane h n v) m = lane h m := tget_tput_other _ _ v _ hn

@[simp] theorem engine_setEngine_same (n : Nat) (v : Engine) : engine (setEngine h n v) n = v := tget_tput_same _ v _ n

theorem engine_setEngine_other (v : Engine) {n m : Nat} (hn : m ≠ n) : engine (setEngine h n v) m = engine h m :=
  tget_tput_other _ _ v _ hn

@[simp] theorem pcSt_setPc_same (n : Nat) (v : Pc) : pcSt (setPc h n v) n = v := tget_tput_same _ v _ n

theorem pcSt_setPc_other (v : Pc) {n m : Nat} (hn : m ≠ n) : pcSt (setPc h n v) m = pcSt h m := tget_tput_other _ _ v _ hn

@[simp] theorem dieSt_setDie_same (n : Nat) (v : Die) : dieSt (setDie h n v) n = v := tget_tput_same _ v _ n

theorem dieSt_setDie_other (v : Die) {n m : Nat} (hn : m ≠ n) : dieSt (setDie h n v) m = dieSt h m := tget_tput_other _ _ v _ hn

/-! The frame around a meaning. -/

/-- What a command of the first frame answers. -/
theorem runHw_true (f : Hw → Hw) (s : State) : runHw true f s = .next { s with hw := settle (f (begin s.hw)) } := rfl

theorem runHw_false (f : Hw → Hw) (s : State) : runHw false f s = .fault .illFormed := rfl

theorem runCore_false (f : Core → Core) (s : State) : runCore false f s = .fault .illFormed := rfl

/-- What a command of the second frame answers. -/
theorem runCore_true (f : Core → Core) (s : State) :
    runCore true f s =
      .next { s with dram := runStores s.dram (f ⟨begin s.hw, s.dram, []⟩).stores, hw := settle (f ⟨begin s.hw, s.dram, []⟩).hw } := rfl

/-- Nothing set going, no IDLE and no call to end: nothing is settled. -/
theorem settle_calm (hr : h.react = {}) (hi : (h.mode == .run && idleCall h) = false) : settle h = h := by
  cases h
  simp only at hr
  subst hr
  simp [settle, settleTraffic, noteInjected, settleIdle, hi, settleLink, settleGrey]

end Sys2Proof.Machine
end

