-- ==== Sys2Proof/Laws/Dictionary.lean ====
section
/-!
SUPPORT. What a dictionary row does with an operation, said once: executed, it acts and is answered on its path; otherwise it is
answered with the status of what turned it away and nothing else happens.
-/
namespace Sys2Proof.Machine

/-- The core a served operation works on. -/
theorem dictOp_served (x : Extra) (mine : OpBody → Bool) {s : State} {src : OpSource} {p : Nat} {b : OpBody} {h : Hw}
    (hs : Served s src p b h) (hm : mine b = true) : dictOp x mine src (coreOf s) = serve x p true b { coreOf s with hw := h } := by
  cases src with
  | ouvend dest body =>
    obtain ⟨rfl, rfl, h1, h2, h3, h4, h5, rfl⟩ := hs
    have h1' : ovbHears (coreOf s).hw = true := h1
    have h2' : toStrap (coreOf s).hw dest = true := h2
    have hmode : (setPath (bump (frameEnd (coreOf s).hw) 0x1040 1) 0 { path (bump (frameEnd (coreOf s).hw) 0x1040 1) 0 with lastTag := body.tag, held := none }).mode = s.hw.mode := rfl
    have hsleep : (setPath (bump (frameEnd (coreOf s).hw) 0x1040 1) 0 { path (bump (frameEnd (coreOf s).hw) 0x1040 1) 0 with lastTag := body.tag, held := none }).power.sleep = s.hw.power.sleep := rfl
    have hz : (body.names 3 0x7000 3 && s.hw.power.sleep.isSome) = true ↔ (body.op = 3 ∧ body.index = 0x7000 ∧ body.sub = 3 ∧ s.hw.power.sleep.isSome = true) := by
      simp only [OpBody.names, OpBody.namesRun, Bool.and_eq_true, beq_iff_eq, decide_eq_true_eq]
      exact ⟨fun ⟨⟨⟨⟨ho, hi⟩, hlo⟩, hhi⟩, hq⟩ => ⟨ho, hi, Nat.le_antisymm hhi hlo, hq⟩,
        fun ⟨ho, hi, hs, hq⟩ => ⟨⟨⟨⟨ho, hi⟩, Nat.le_of_eq hs.symm⟩, Nat.le_of_eq hs⟩, hq⟩⟩
    unfold dictOp serveOuvend
    simp only [hm, h1', h2', if_true, Bool.not_true, Bool.true_or, Bool.or_self, if_false, Core.onHw, Bool.false_eq_true]
    simp only [hmode, hsleep]
    rw [if_neg (by cases hk : s.hw.mode <;> simp_all)]
    simp only [hz]
    by_cases hc : body.op = 3 ∧ body.index = 0x7000 ∧ body.sub = 3 ∧ s.hw.power.sleep.isSome = true
    · rw [if_pos hc] at h5
      simp only [if_pos hc]
      exact (if_neg (fun hk => Bool.false_ne_true (h5.symm.trans hk))).trans rfl
    · rw [if_neg hc] at h5
      simp only [if_neg hc]
      exact (if_neg (fun hk => Bool.false_ne_true (h5.symm.trans hk))).trans rfl
  | mgt n =>
    obtain ⟨body, rest, h1, rfl, h2, h4, h3, rfl, rfl⟩ := hs
    have h4' : sleepAnswerDue (coreOf s).hw = false := h4
    have h2' : mgtTaken (coreOf s).hw = true := h2
    have h1' : (port (coreOf s).hw n).mgt = body :: rest := h1
    have h3' : (path (coreOf s).hw (n + 1)).pending = none := h3
    unfold dictOp serveMgt
    simp only [h1', h2', h3', h4', hm, Bool.not_true, Option.isSome_none, Bool.or_self, Bool.false_eq_true, if_false]
    rfl

/-- An operation that is executed: its action's outcome, with the answer it gets. -/
theorem dictOp_takes (x : Extra) (mine : OpBody → Bool) {s : State} {src : OpSource} {p : Nat} {b : OpBody} {h : Hw}
    (ht : Takes s src p b h) (hm : mine b = true) :
    dictOp x mine src (coreOf s) =
      match execute x { coreOf s with hw := h } p p b with
      | .done c a => c.onHw (fun h => answerNow h p b a true)
      | .wait c => c.onHw (fun h => answerPending h p b true)
      | .later c a => c.onHw (fun h => finishOp (answerPending h p b true) p a) := by
  obtain ⟨hs, ⟨h1, h2, h3, h4⟩, _⟩ := ht
  rw [dictOp_served x mine hs hm]
  unfold serve
  simp only [h1, h2, h3, h4, Bool.false_eq_true, if_false, if_true, Option.isSome_none] <;>
    (cases execute x { coreOf s with hw := h } p p b <;> rfl)

/-- The action of an operation that no check refuses. -/
theorem execute_takes (x : Extra) (c : Core) (p w : Nat) (b : OpBody) (h : refusal c.hw p b = none) :
    execute x c p w b = (match b.op with
      | 2 => setAct c p b
      | 3 => if c.hw.mode == .off then actHw c c.hw .notReady else cmdAct x c p w b
      | 4 => listAct c b
      | 5 => blockAct x c p b
      | _ => getAct x c p b) := by
  unfold execute; rw [h] <;> rfl

/-- A command that is executed while the rails are up. -/
theorem execute_cmd (x : Extra) (c : Core) (p w : Nat) (b : OpBody) (h : refusal c.hw p b = none) (ho : b.op = 3) (hm : c.hw.mode ≠ .off) :
    execute x c p w b = cmdAct x c p w b := by
  rw [execute_takes x c p w b h]
  simp [ho, hm]

/-- The same for a command row. -/
theorem dictOp_cmd (x : Extra) (mine : OpBody → Bool) {s : State} {src : OpSource} {p : Nat} {b : OpBody} {h : Hw}
    (ht : Takes s src p b h) (hm : mine b = true) (ho : b.op = 3) (hn : h.mode ≠ .off) :
    dictOp x mine src (coreOf s) =
      match cmdAct x { coreOf s with hw := h } p p b with
      | .done c a => c.onHw (fun h => answerNow h p b a true)
      | .wait c => c.onHw (fun h => answerPending h p b true)
      | .later c a => c.onHw (fun h => finishOp (answerPending h p b true) p a) := by
  rw [dictOp_takes x mine ht hm, execute_cmd x _ p p b ht.2.2 ho hn]

end Sys2Proof.Machine
end

