-- ==== Sys2Proof/Laws/Kernel.lean ====
section
/-!
SUPPORT. What a kernel row does with the instruction its engine fetches, said once.
-/
namespace Sys2Proof.Machine

theorem kernelAt_begin (h : Hw) (e : Nat) : kernelAt (begin h) e = kernelAt h e := rfl

/-- The instruction is fetched and is the row's: its body's outcome. -/
theorem kstep_fetches {s : State} {c : KCtx} (op : KOp) (body : KCtx → Core → KRes) (hf : Fetches s c) (ho : c.x.op = op) :
    kstep op body c.e (coreOf s) =
      match body c (coreOf s) with
      | .next d => retire c.e (c.k.pc + (if 32 ≤ c.x.maj then 8 else 4)) d
      | .jump d pc => retire c.e pc d
      | .trap code => (coreOf s).onHw (kernelTrap c.e c.j c.q c.k.pc code)
      | .wait d => d := by
  obtain ⟨e, j, i, q, x, k⟩ := c
  obtain ⟨h1, h2⟩ := hf
  have h1' : kernelAt (coreOf s).hw e = some (j, i, q, .ins x) := h1
  have h2' : k = (engine (coreOf s).hw e).k := h2
  unfold kstep
  simp only at ho h2' ⊢
  rw [h1']
  simp only [ho, bne_self_eq_false, Bool.false_eq_true, if_false, ← h2'] <;> (cases body _ (coreOf s) <;> rfl)

/-- A row whose instruction is the one fetched. -/
theorem runCore_kstep {s : State} {c : KCtx} (op : KOp) (body : KCtx → Core → KRes) (hf : Fetches s c) (ho : c.x.op = op) :
    runCore true (kstep op body c.e) s = .next (afterCore s (
      match body c (coreOf s) with
      | .next d => retire c.e (c.k.pc + (if 32 ≤ c.x.maj then 8 else 4)) d
      | .jump d pc => retire c.e pc d
      | .trap code => (coreOf s).onHw (kernelTrap c.e c.j c.q c.k.pc code)
      | .wait d => d)) := by
  rw [runCore_true, ← kstep_fetches op body hf ho]; rfl

/-- A scalar body that runs. -/
theorem scalar_runs (c : KCtx) (d : Core) (srcs : List Nat) (f : KRes) (h : Runs c srcs) : c.scalar d srcs [] f = f := by
  simp [KCtx.scalar, h.1, h.2]

/-- A vector body that runs. -/
theorem vector_runs (c : KCtx) (d : Core) (w : Nat) (srcs vsrcs : List Nat) (f : List Nat → KRes) (h : RunsLanes c w srcs vsrcs) :
    c.vector d w srcs vsrcs f = f (c.lanes w) := by
  obtain ⟨h1, h2, h3⟩ := h
  have : (c.lanes w).isEmpty = false := by cases hl : c.lanes w with | nil => exact absurd hl h1 | cons => rfl
  simp only [KCtx.vector, this, h2, h3, Bool.or_self, Bool.false_eq_true, if_false]

/-- A predicate body that runs. -/
theorem bits_runs (c : KCtx) (d : Core) (srcs : List Nat) (v : Nat) (h1 : c.guard ≠ 0) (h2 : srcs.any c.k.staged = false) :
    c.bits d srcs v = .next (c.putP c.guard v d) := by
  simp only [KCtx.bits, h1, h2, Bool.false_eq_true, if_false]

end Sys2Proof.Machine
end

