-- ==== Sys2Proof/Laws/Memory.lean ====
section
/-!
SUPPORT. Laws of the stored lines: a read after a write, and that every change keeps the canonical form.
-/
namespace Sys2Proof.Machine

/-- A stored byte reads back. -/
@[simp] theorem readByte_writeByte_same (d : Dram) (a : Nat) (b : Byte) : readByte (writeByte d a b) a = b :=
  tget_tput_same (unlisted d a) b d.cells a

/-- A store leaves every other byte alone. -/
theorem readByte_writeByte_other (d : Dram) (b : Byte) {a a' : Nat} (h : a' ≠ a) : readByte (writeByte d a b) a' = readByte d a' :=
  tget_tput_other (unlisted d a) (unlisted d a') b d.cells h

theorem unlisted_writeByte (d : Dram) (a : Nat) (b : Byte) : unlisted (writeByte d a b) = unlisted d := rfl

theorem unlisted_writeBytes (d : Dram) (a : Nat) (bs : List Byte) : unlisted (writeBytes d a bs) = unlisted d := by
  induction bs generalizing d a with
  | nil => rfl
  | cons b bs ih => exact (ih (writeByte d a b) (a + 1)).trans (unlisted_writeByte d a b)

/-- Bytes outside those stored read as before. -/
theorem readByte_writeBytes_other (d : Dram) (a : Nat) (bs : List Byte) {a' : Nat} (h : a' < a ∨ a + bs.length ≤ a') :
    readByte (writeBytes d a bs) a' = readByte d a' := by
  induction bs generalizing d a with
  | nil => rfl
  | cons b bs ih =>
    simp only [List.length_cons] at h
    exact (ih (writeByte d a b) (a + 1) (by omega)).trans (readByte_writeByte_other d b (by omega))

/-- A stored byte keeps the form. -/
theorem wf_writeByte (d : Dram) (a : Nat) (b : Byte) (h : Memory.wf d = true) : Memory.wf (writeByte d a b) = true :=
  twf_tput (unlisted d) d.cells a b h

theorem wf_writeBytes (d : Dram) (a : Nat) (bs : List Byte) (h : Memory.wf d = true) : Memory.wf (writeBytes d a bs) = true := by
  induction bs generalizing d a with
  | nil => exact h
  | cons b bs ih => exact ih _ _ (wf_writeByte d a b h)

/-- What an unlisted byte reads as after a fill, outside the zone filled. -/
theorem unlisted_fill (d : Dram) (z : Zone) (a : Nat) (h : z.has a = false) : unlisted (DramOp.run d (.fill z)) a = unlisted d a := by
  simp only [DramOp.run, unlisted]
  split
  · rfl
  · split
    · rename_i hz; rw [hz] at h; cases h
    · simp [List.any_append, h]

/-- Every change keeps the form. -/
theorem wf_run (d : Dram) (op : DramOp) (h : Memory.wf d = true) : Memory.wf (op.run d) = true := by
  cases op with
  | line n raw => exact wf_writeBytes _ _ _ h
  | zero n count =>
    by_cases hz : d.zones.contains .all = true <;> simp only [DramOp.run, hz, if_true, if_false, Bool.false_eq_true]
    · exact twf_filter (unlisted d) _ _ _ h (fun _ _ _ => rfl)
    · exact wf_writeBytes _ _ _ h
  | fill z => exact twf_filter (unlisted d) _ _ _ h (fun e _ hp => unlisted_fill d z e.1 (by simpa using hp))
  | lose => rfl

theorem wf_runStores (d : Dram) (ops : List DramOp) (h : Memory.wf d = true) : Memory.wf (runStores d ops) = true := by
  induction ops generalizing d with
  | nil => exact h
  | cons op ops ih => exact ih _ (wf_run d op h)

end Sys2Proof.Machine
end

