-- ==== Sys2Proof/Laws/Shape.lean ====
section
/-!
SUPPORT. What a command can do, said once: every meaning works either on everything but the stored lines, or on stored lines
through changes of `DramOp`; none touches the queue.
-/
namespace Sys2Proof.Machine

/-- Every command's meaning has one of two frames. -/
theorem exec_shape (c : Instr) (s : State) :
    (∃ f, exec c s = runHw c.wf f s) ∨ (∃ f, exec c s = runCore c.wf f s) :=
  match c with
  | .resetNRelease strap failed => .inl ⟨_, show execResetNRelease strap failed s = runHw _ _ s from rfl⟩
  | .endOfPowerUp found => .inr ⟨_, show execEndOfPowerUp found s = runCore _ _ s from rfl⟩
  | .resetNLow => .inr ⟨_, show execResetNLow s = runCore _ _ s from rfl⟩
  | .pwrOkFall => .inl ⟨_, show execPwrOkFall s = runHw _ _ s from rfl⟩
  | .shutdown src => .inr ⟨_, show execShutdown src s = runCore _ _ s from rfl⟩
  | .shutdownReady => .inr ⟨_, show execShutdownReady s = runCore _ _ s from rfl⟩
  | .terminationSense up dn => .inl ⟨_, show execTerminationSense up dn s = runHw _ _ s from rfl⟩
  | .hello ls rates rate => .inl ⟨_, show execHello ls rates rate s = runHw _ _ s from rfl⟩
  | .setPreset ls pos preset => .inl ⟨_, show execSetPreset ls pos preset s = runHw _ _ s from rfl⟩
  | .setTaps ls pos cm2 cm1 c0 cp1 cp2 => .inl ⟨_, show execSetTaps ls pos cm2 cm1 c0 cp1 cp2 s = runHw _ _ s from rfl⟩
  | .reply ls pos status => .inl ⟨_, show execReply ls pos status s = runHw _ _ s from rfl⟩
  | .done ls mask => .inl ⟨_, show execDone ls mask s = runHw _ _ s from rfl⟩
  | .patternTimeout ls => .inl ⟨_, show execPatternTimeout s ls = runHw _ _ s from rfl⟩
  | .pilotLock lane freq snr => .inl ⟨_, show execPilotLock lane freq snr s = runHw _ _ s from rfl⟩
  | .codewordDecode ls frames decoded iters => .inl ⟨_, show execCodewordDecode ls frames decoded iters s = runHw _ _ s from rfl⟩
  | .lanesetLocked ls => .inl ⟨_, show execLanesetLocked ls s = runHw _ _ s from rfl⟩
  | .lockTimeout ls => .inl ⟨_, show execLockTimeout s ls = runHw _ _ s from rfl⟩
  | .capabilityBlock carrier block => .inl ⟨_, show execCapabilityBlock carrier block s = runHw _ _ s from rfl⟩
  | .exchangeTimeout ls => .inl ⟨_, show execExchangeTimeout s ls = runHw _ _ s from rfl⟩
  | .linkDownPauseEnd => .inl ⟨_, show execLinkDownPauseEnd s = runHw _ _ s from rfl⟩
  | .retrainLink src => .inr ⟨_, show execRetrainLink src s = runCore _ _ s from rfl⟩
  | .laneLockLost lane => .inl ⟨_, show execLaneLockLost lane s = runHw _ _ s from rfl⟩
  | .lanePairingFailure lane => .inl ⟨_, show execLanePairingFailure lane s = runHw _ _ s from rfl⟩
  | .laneWindowEnd lane => .inl ⟨_, show execLaneWindowEnd lane s = runHw _ _ s from rfl⟩
  | .wakeLockTimeout lane => .inl ⟨_, show execWakeLockTimeout lane s = runHw _ _ s from rfl⟩
  | .adcCalibration lane cal => .inl ⟨_, show execAdcCalibration s lane cal = runHw _ _ s from rfl⟩
  | .driftHoldEnd lane => .inl ⟨_, show execDriftHoldEnd lane s = runHw _ _ s from rfl⟩
  | .backgroundRetrainComplete ls trained => .inl ⟨_, show execBackgroundRetrainComplete ls trained s = runHw _ _ s from rfl⟩
  | .repairReq ls stripe pos => .inl ⟨_, show execRepairReq ls stripe pos s = runHw _ _ s from rfl⟩
  | .mirrorOn ls stripe pos count => .inl ⟨_, show execMirrorOn ls stripe pos count s = runHw _ _ s from rfl⟩
  | .spareTrained ls trained => .inl ⟨_, show execSpareTrained ls trained s = runHw _ _ s from rfl⟩
  | .switch ls stripe pos count => .inl ⟨_, show execSwitch ls stripe pos count s = runHw _ _ s from rfl⟩
  | .spareSwitchOver ls => .inl ⟨_, show execSpareSwitchOver ls s = runHw _ _ s from rfl⟩
  | .repairDone ls stripe pos => .inl ⟨_, show execRepairDone ls stripe pos s = runHw _ _ s from rfl⟩
  | .lanesetWithdrawal ls failed => .inl ⟨_, show execLanesetWithdrawal ls failed s = runHw _ _ s from rfl⟩
  | .train ls msg => .inl ⟨_, show execTrain ls msg s = runHw _ _ s from rfl⟩
  | .rejoin ls => .inl ⟨_, show execRejoin ls s = runHw _ _ s from rfl⟩
  | .testStart ls pattern => .inl ⟨_, show execTestStart ls pattern s = runHw _ _ s from rfl⟩
  | .testEnd ls => .inl ⟨_, show execTestEnd ls s = runHw _ _ s from rfl⟩
  | .refuse ls => .inl ⟨_, show execRefuse ls s = runHw _ _ s from rfl⟩
  | .patternTest src => .inr ⟨_, show execPatternTest src s = runCore _ _ s from rfl⟩
  | .repairRequest src => .inr ⟨_, show execRepairRequest src s = runCore _ _ s from rfl⟩
  | .clearCheckerCounters src => .inr ⟨_, show execClearCheckerCounters src s = runCore _ _ s from rfl⟩
  | .checkerCounterRead src bits errors => .inr ⟨_, show execCheckerCounterRead src bits errors s = runCore _ _ s from rfl⟩
  | .checkerSync lane => .inl ⟨_, show execCheckerSync lane s = runHw _ _ s from rfl⟩
  | .checkerSyncLoss lane bits errors => .inl ⟨_, show execCheckerSyncLoss lane bits errors s = runHw _ _ s from rfl⟩
  | .lanesetWake ls => .inl ⟨_, show execLanesetWake ls s = runHw _ _ s from rfl⟩
  | .wakeDetectorFire lane run last => .inl ⟨_, show execWakeDetectorFire lane s run last = runHw _ _ s from rfl⟩
  | .acquisitionWindowClose lane => .inl ⟨_, show execAcquisitionWindowClose lane s = runHw _ _ s from rfl⟩
  | .wakeWordRecognised lane signs last => .inl ⟨_, show execWakeWordRecognised lane s signs last = runHw _ _ s from rfl⟩
  | .wakeAckTimeout ls => .inl ⟨_, show execWakeAckTimeout ls s = runHw _ _ s from rfl⟩
  | .flitReceive ls given updates began => .inl ⟨_, show execFlitReceive ls given updates began s = runHw _ _ s from rfl⟩
  | .replayReq ls last => .inl ⟨_, show execReplayReq ls last s = runHw _ _ s from rfl⟩
  | .replayReqRepeat ls => .inl ⟨_, show execReplayReqRepeat ls s = runHw _ _ s from rfl⟩
  | .repeatedReplayWithdrawal ls => .inl ⟨_, show execRepeatedReplayWithdrawal ls s = runHw _ _ s from rfl⟩
  | .quietIdleEnter ls => .inl ⟨_, show execQuietIdleEnter ls s = runHw _ _ s from rfl⟩
  | .quietIdleExit ls => .inl ⟨_, show execQuietIdleExit ls s = runHw _ _ s from rfl⟩
  | .lanesetPark ls => .inl ⟨_, show execLanesetPark ls s = runHw _ _ s from rfl⟩
  | .parkFlitsSend ls => .inl ⟨_, show execParkFlitsSend ls s = runHw _ _ s from rfl⟩
  | .parkFlit ls => .inl ⟨_, show execParkFlit ls s = runHw _ _ s from rfl⟩
  | .rdRequest port => .inl ⟨_, show execRdRequest port s = runHw _ _ s from rfl⟩
  | .wrRequest port => .inl ⟨_, show execWrRequest port s = runHw _ _ s from rfl⟩
  | .wrcRequest port => .inl ⟨_, show execWrcRequest port s = runHw _ _ s from rfl⟩
  | .atom port => .inl ⟨_, show execAtom port s = runHw _ _ s from rfl⟩
  | .rmwAtomic ch => .inr ⟨_, show execRmwAtomic ch s = runCore _ _ s from rfl⟩
  | .fence port => .inl ⟨_, show execFence port s = runHw _ _ s from rfl⟩
  | .fenceComplete port => .inl ⟨_, show execFenceComplete port s = runHw _ _ s from rfl⟩
  | .release port => .inl ⟨_, show execRelease port s = runHw _ _ s from rfl⟩
  | .readResponse pc => .inr ⟨_, show execReadResponse pc s = runCore _ _ s from rfl⟩
  | .shareWindowEnd => .inl ⟨_, show execShareWindowEnd s = runHw _ _ s from rfl⟩
  | .admissionQueueRelease track cls => .inl ⟨_, show execAdmissionQueueRelease track cls s = runHw _ _ s from rfl⟩
  | .arbiterDecision pc => .inl ⟨_, show execArbiterDecision pc s = runHw _ _ s from rfl⟩
  | .grantCut pc => .inl ⟨_, show execGrantCut pc s = runHw _ _ s from rfl⟩
  | .writeQueueEntry pc => .inr ⟨_, show execWriteQueueEntry pc s = runCore _ _ s from rfl⟩
  | .writeDrain pc => .inr ⟨_, show execWriteDrain pc s = runCore _ _ s from rfl⟩
  | .routeTableRebuildComplete => .inl ⟨_, show execRouteTableRebuildComplete s = runHw _ _ s from rfl⟩
  | .journalRecordApply => .inl ⟨_, show execJournalRecordApply s = runHw _ _ s from rfl⟩
  | .slotZeroing track => .inr ⟨_, show execSlotZeroing track s = runCore _ _ s from rfl⟩
  | .parcelRecreateResume => .inr ⟨_, show execParcelRecreateResume s = runCore _ _ s from rfl⟩
  | .warmUpEnd => .inl ⟨_, show execWarmUpEnd s = runHw _ _ s from rfl⟩
  | .heatEpoch => .inl ⟨_, show execHeatEpoch s = runHw _ _ s from rfl⟩
  | .moveStart => .inl ⟨_, show execMoveStart s = runHw _ _ s from rfl⟩
  | .moveCopyDone parcel replayed => .inr ⟨_, show execMoveCopyDone parcel s replayed = runCore _ _ s from rfl⟩
  | .moveRecopyPass parcel replayed => .inr ⟨_, show execMoveRecopyPass parcel s replayed = runCore _ _ s from rfl⟩
  | .moveSwap parcel replayed => .inr ⟨_, show execMoveSwap parcel s replayed = runCore _ _ s from rfl⟩
  | .moveProgressTimeout parcel => .inl ⟨_, show execMoveProgressTimeout parcel s = runHw _ _ s from rfl⟩
  | .trackGate track => .inr ⟨_, show execTrackGate track s = runCore _ _ s from rfl⟩
  | .trackUnpark track => .inr ⟨_, show execTrackUnpark track s = runCore _ _ s from rfl⟩
  | .trackUnparkComplete track => .inl ⟨_, show execTrackUnparkComplete track s = runHw _ _ s from rfl⟩
  | .pin src => .inr ⟨_, show execPin src s = runCore _ _ s from rfl⟩
  | .unpin src => .inr ⟨_, show execUnpin src s = runCore _ _ s from rfl⟩
  | .arrayReset src => .inr ⟨_, show execArrayReset src s = runCore _ _ s from rfl⟩
  | .arrayResetComplete die eyes => .inr ⟨_, show execArrayResetComplete die s eyes = runCore _ _ s from rfl⟩
  | .act pc bank row bad => .inr ⟨_, show execAct pc bank row bad s = runCore _ _ s from rfl⟩
  | .pre pc bank bad => .inr ⟨_, show execPre pc bank bad s = runCore _ _ s from rfl⟩
  | .prea pc bad => .inr ⟨_, show execPrea pc bad s = runCore _ _ s from rfl⟩
  | .refpb pc bad => .inr ⟨_, show execRefpb pc bad s = runCore _ _ s from rfl⟩
  | .trr pc bank row bad => .inr ⟨_, show execTrr pc bank row bad s = runCore _ _ s from rfl⟩
  | .sre pc bad => .inr ⟨_, show execSre pc bad s = runCore _ _ s from rfl⟩
  | .srx pc bad => .inr ⟨_, show execSrx pc bad s = runCore _ _ s from rfl⟩
  | .mrw pc reg value bad => .inr ⟨_, show execMrw pc reg value bad s = runCore _ _ s from rfl⟩
  | .resync ch => .inr ⟨_, show execResync ch s = runCore _ _ s from rfl⟩
  | .rd pc bank col noise bad => .inr ⟨_, show execRd pc bank col noise bad s = runCore _ _ s from rfl⟩
  | .wr pc bank col bad noise => .inr ⟨_, show execWr pc bank col bad noise s = runCore _ _ s from rfl⟩
  | .rda pc bank col noise bad => .inr ⟨_, show execRda pc bank col noise bad s = runCore _ _ s from rfl⟩
  | .wra pc bank col bad noise => .inr ⟨_, show execWra pc bank col bad noise s = runCore _ _ s from rfl⟩
  | .trainCommand pc bad => .inr ⟨_, show execTrainCommand pc bad s = runCore _ _ s from rfl⟩
  | .alert ch again => .inr ⟨_, show execAlert ch again s = runCore _ _ s from rfl⟩
  | .retryBufferRelease ch => .inl ⟨_, show execRetryBufferRelease ch s = runHw _ _ s from rfl⟩
  | .replayLimit ch eyes again => .inr ⟨_, show execReplayLimit ch eyes s again = runCore _ _ s from rfl⟩
  | .rowIdleClose pc bank => .inr ⟨_, show execRowIdleClose pc bank s = runCore _ _ s from rfl⟩
  | .refreshDue pc => .inl ⟨_, show execRefreshDue pc s = runHw _ _ s from rfl⟩
  | .trrEscalation pc => .inl ⟨_, show execTrrEscalation pc s = runHw _ _ s from rfl⟩
  | .retrainingWindow ch eyes => .inl ⟨_, show execRetrainingWindow ch eyes s = runHw _ _ s from rfl⟩
  | .retrainingWindowEscalation ch => .inl ⟨_, show execRetrainingWindowEscalation ch s = runHw _ _ s from rfl⟩
  | .gearChange track => .inr ⟨_, show execGearChange track s = runCore _ _ s from rfl⟩
  | .gearChangeComplete track eyes => .inr ⟨_, show execGearChangeComplete track s eyes = runCore _ _ s from rfl⟩
  | .selfRefreshRateStep die step => .inl ⟨_, show execSelfRefreshRateStep die step s = runHw _ _ s from rfl⟩
  | .priorityScrubLine pc => .inr ⟨_, show execPriorityScrubLine pc s = runCore _ _ s from rfl⟩
  | .writeBack ch => .inl ⟨_, show execWriteBack ch s = runHw _ _ s from rfl⟩
  | .patrolScrubRow pc upsets => .inr ⟨_, show execPatrolScrubRow pc upsets s = runCore _ _ s from rfl⟩
  | .hardErrorCheck pc noise => .inr ⟨_, show execHardErrorCheck pc noise s = runCore _ _ s from rfl⟩
  | .scrubLate pc => .inl ⟨_, show execScrubLate pc s = runHw _ _ s from rfl⟩
  | .injectStoredLine src => .inr ⟨_, show execInjectStoredLine src s = runCore _ _ s from rfl⟩
  | .injectFlitCrc src => .inr ⟨_, show execInjectFlitCrc src s = runCore _ _ s from rfl⟩
  | .injectWriteCrc src => .inr ⟨_, show execInjectWriteCrc src s = runCore _ _ s from rfl⟩
  | .injectCommandParity src => .inr ⟨_, show execInjectCommandParity src s = runCore _ _ s from rfl⟩
  | .injectOuvendCrc src => .inr ⟨_, show execInjectOuvendCrc src s = runCore _ _ s from rfl⟩
  | .injectRouteEntry src => .inr ⟨_, show execInjectRouteEntry src s = runCore _ _ s from rfl⟩
  | .copy port => .inr ⟨_, show execCopy port s = runCore _ _ s from rfl⟩
  | .fill port => .inr ⟨_, show execFill port s = runCore _ _ s from rfl⟩
  | .gather port => .inr ⟨_, show execGather port s = runCore _ _ s from rfl⟩
  | .scatter port => .inr ⟨_, show execScatter port s = runCore _ _ s from rfl⟩
  | .reduce port => .inr ⟨_, show execReduce port s = runCore _ _ s from rfl⟩
  | .scan port => .inr ⟨_, show execScan port s = runCore _ _ s from rfl⟩
  | .histogram port => .inr ⟨_, show execHistogram port s = runCore _ _ s from rfl⟩
  | .atomicBatch port => .inr ⟨_, show execAtomicBatch port s = runCore _ _ s from rfl⟩
  | .checksum port => .inr ⟨_, show execChecksum port s = runCore _ _ s from rfl⟩
  | .kernel port => .inr ⟨_, show execKernel port s = runCore _ _ s from rfl⟩
  | .abort port => .inr ⟨_, show execAbort port s = runCore _ _ s from rfl⟩
  | .abortJob src => .inr ⟨_, show execAbortJob src s = runCore _ _ s from rfl⟩
  | .partStart eng => .inr ⟨_, show execPartStart eng s = runCore _ _ s from rfl⟩
  | .engineDomainOn track => .inl ⟨_, show execEngineDomainOn track s = runHw _ _ s from rfl⟩
  | .partialResult eng => .inr ⟨_, show execPartialResult eng s = runCore _ _ s from rfl⟩
  | .commitGrant eng => .inr ⟨_, show execCommitGrant eng s = runCore _ _ s from rfl⟩
  | .jobComplete port job => .inr ⟨_, show execJobComplete port job s = runCore _ _ s from rfl⟩
  | .speculativeRead eng su => .inr ⟨_, show execSpeculativeRead eng su s = runCore _ _ s from rfl⟩
  | .engineFault eng => .inl ⟨_, show execEngineFault eng s = runHw _ _ s from rfl⟩
  | .resetEngine src => .inr ⟨_, show execResetEngine src s = runCore _ _ s from rfl⟩
  | .engineWatchdog eng => .inl ⟨_, show execEngineWatchdog eng s = runHw _ _ s from rfl⟩
  | .jobTimeout port job => .inl ⟨_, show execJobTimeout port job s = runHw _ _ s from rfl⟩
  | .beginKernelLoad src => .inr ⟨_, show execBeginKernelLoad src s = runCore _ _ s from rfl⟩
  | .kernelImageAppend src => .inr ⟨_, show execKernelImageAppend src s = runCore _ _ s from rfl⟩
  | .activateKernel src => .inr ⟨_, show execActivateKernel src s = runCore _ _ s from rfl⟩
  | .retireKernel src => .inr ⟨_, show execRetireKernel src s = runCore _ _ s from rfl⟩
  | .kNop eng => .inr ⟨_, show execKNop eng s = runCore _ _ s from rfl⟩
  | .kEnd eng => .inr ⟨_, show execKEnd eng s = runCore _ _ s from rfl⟩
  | .kEndp eng => .inr ⟨_, show execKEndp eng s = runCore _ _ s from rfl⟩
  | .kTrap eng => .inr ⟨_, show execKTrap eng s = runCore _ _ s from rfl⟩
  | .kFence eng => .inr ⟨_, show execKFence eng s = runCore _ _ s from rfl⟩
  | .kMilestone eng => .inr ⟨_, show execKMilestone eng s = runCore _ _ s from rfl⟩
  | .kTime eng => .inr ⟨_, show execKTime eng s = runCore _ _ s from rfl⟩
  | .kJr eng => .inr ⟨_, show execKJr eng s = runCore _ _ s from rfl⟩
  | .kJalr eng => .inr ⟨_, show execKJalr eng s = runCore _ _ s from rfl⟩
  | .kAdd eng => .inr ⟨_, show execKAdd eng s = runCore _ _ s from rfl⟩
  | .kSub eng => .inr ⟨_, show execKSub eng s = runCore _ _ s from rfl⟩
  | .kMul eng => .inr ⟨_, show execKMul eng s = runCore _ _ s from rfl⟩
  | .kMulhu eng => .inr ⟨_, show execKMulhu eng s = runCore _ _ s from rfl⟩
  | .kMulhs eng => .inr ⟨_, show execKMulhs eng s = runCore _ _ s from rfl⟩
  | .kDivu eng => .inr ⟨_, show execKDivu eng s = runCore _ _ s from rfl⟩
  | .kDivs eng => .inr ⟨_, show execKDivs eng s = runCore _ _ s from rfl⟩
  | .kRemu eng => .inr ⟨_, show execKRemu eng s = runCore _ _ s from rfl⟩
  | .kRems eng => .inr ⟨_, show execKRems eng s = runCore _ _ s from rfl⟩
  | .kAnd eng => .inr ⟨_, show execKAnd eng s = runCore _ _ s from rfl⟩
  | .kOr eng => .inr ⟨_, show execKOr eng s = runCore _ _ s from rfl⟩
  | .kXor eng => .inr ⟨_, show execKXor eng s = runCore _ _ s from rfl⟩
  | .kSll eng => .inr ⟨_, show execKSll eng s = runCore _ _ s from rfl⟩
  | .kSrl eng => .inr ⟨_, show execKSrl eng s = runCore _ _ s from rfl⟩
  | .kSra eng => .inr ⟨_, show execKSra eng s = runCore _ _ s from rfl⟩
  | .kMins eng => .inr ⟨_, show execKMins eng s = runCore _ _ s from rfl⟩
  | .kMaxs eng => .inr ⟨_, show execKMaxs eng s = runCore _ _ s from rfl⟩
  | .kMinu eng => .inr ⟨_, show execKMinu eng s = runCore _ _ s from rfl⟩
  | .kMaxu eng => .inr ⟨_, show execKMaxu eng s = runCore _ _ s from rfl⟩
  | .kMov eng => .inr ⟨_, show execKMov eng s = runCore _ _ s from rfl⟩
  | .kPopc eng => .inr ⟨_, show execKPopc eng s = runCore _ _ s from rfl⟩
  | .kClz eng => .inr ⟨_, show execKClz eng s = runCore _ _ s from rfl⟩
  | .kEq eng => .inr ⟨_, show execKEq eng s = runCore _ _ s from rfl⟩
  | .kNe eng => .inr ⟨_, show execKNe eng s = runCore _ _ s from rfl⟩
  | .kLts eng => .inr ⟨_, show execKLts eng s = runCore _ _ s from rfl⟩
  | .kLes eng => .inr ⟨_, show execKLes eng s = runCore _ _ s from rfl⟩
  | .kLtu eng => .inr ⟨_, show execKLtu eng s = runCore _ _ s from rfl⟩
  | .kLeu eng => .inr ⟨_, show execKLeu eng s = runCore _ _ s from rfl⟩
  | .kFeq eng => .inr ⟨_, show execKFeq eng s = runCore _ _ s from rfl⟩
  | .kFlt eng => .inr ⟨_, show execKFlt eng s = runCore _ _ s from rfl⟩
  | .kFle eng => .inr ⟨_, show execKFle eng s = runCore _ _ s from rfl⟩
  | .kFadd eng => .inr ⟨_, show execKFadd eng s = runCore _ _ s from rfl⟩
  | .kFsub eng => .inr ⟨_, show execKFsub eng s = runCore _ _ s from rfl⟩
  | .kFmul eng => .inr ⟨_, show execKFmul eng s = runCore _ _ s from rfl⟩
  | .kFdiv eng => .inr ⟨_, show execKFdiv eng s = runCore _ _ s from rfl⟩
  | .kFma eng => .inr ⟨_, show execKFma eng s = runCore _ _ s from rfl⟩
  | .kFmin eng => .inr ⟨_, show execKFmin eng s = runCore _ _ s from rfl⟩
  | .kFmax eng => .inr ⟨_, show execKFmax eng s = runCore _ _ s from rfl⟩
  | .kFsqrt eng => .inr ⟨_, show execKFsqrt eng s = runCore _ _ s from rfl⟩
  | .kCvti eng => .inr ⟨_, show execKCvti eng s = runCore _ _ s from rfl⟩
  | .kCvtf eng => .inr ⟨_, show execKCvtf eng s = runCore _ _ s from rfl⟩
  | .kCvtw eng => .inr ⟨_, show execKCvtw eng s = runCore _ _ s from rfl⟩
  | .kBcst eng => .inr ⟨_, show execKBcst eng s = runCore _ _ s from rfl⟩
  | .kExt eng => .inr ⟨_, show execKExt eng s = runCore _ _ s from rfl⟩
  | .kIns eng => .inr ⟨_, show execKIns eng s = runCore _ _ s from rfl⟩
  | .kRsum eng => .inr ⟨_, show execKRsum eng s = runCore _ _ s from rfl⟩
  | .kRmin eng => .inr ⟨_, show execKRmin eng s = runCore _ _ s from rfl⟩
  | .kRmax eng => .inr ⟨_, show execKRmax eng s = runCore _ _ s from rfl⟩
  | .kVmov eng => .inr ⟨_, show execKVmov eng s = runCore _ _ s from rfl⟩
  | .kPand eng => .inr ⟨_, show execKPand eng s = runCore _ _ s from rfl⟩
  | .kPor eng => .inr ⟨_, show execKPor eng s = runCore _ _ s from rfl⟩
  | .kPxor eng => .inr ⟨_, show execKPxor eng s = runCore _ _ s from rfl⟩
  | .kPandn eng => .inr ⟨_, show execKPandn eng s = runCore _ _ s from rfl⟩
  | .kPnot eng => .inr ⟨_, show execKPnot eng s = runCore _ _ s from rfl⟩
  | .kPany eng => .inr ⟨_, show execKPany eng s = runCore _ _ s from rfl⟩
  | .kPcnt eng => .inr ⟨_, show execKPcnt eng s = runCore _ _ s from rfl⟩
  | .kPfrom eng => .inr ⟨_, show execKPfrom eng s = runCore _ _ s from rfl⟩
  | .kPto eng => .inr ⟨_, show execKPto eng s = runCore _ _ s from rfl⟩
  | .kVtag eng => .inr ⟨_, show execKVtag eng s = runCore _ _ s from rfl⟩
  | .kStag eng => .inr ⟨_, show execKStag eng s = runCore _ _ s from rfl⟩
  | .kSnext eng => .inr ⟨_, show execKSnext eng s = runCore _ _ s from rfl⟩
  | .kSget eng => .inr ⟨_, show execKSget eng s = runCore _ _ s from rfl⟩
  | .kSput eng => .inr ⟨_, show execKSput eng s = runCore _ _ s from rfl⟩
  | .kSset eng => .inr ⟨_, show execKSset eng s = runCore _ _ s from rfl⟩
  | .kSclose eng => .inr ⟨_, show execKSclose eng s = runCore _ _ s from rfl⟩
  | .kSpos eng => .inr ⟨_, show execKSpos eng s = runCore _ _ s from rfl⟩
  | .kScratchLoad eng => .inr ⟨_, show execKScratchLoad eng s = runCore _ _ s from rfl⟩
  | .kScratchStore eng => .inr ⟨_, show execKScratchStore eng s = runCore _ _ s from rfl⟩
  | .kSatom eng => .inr ⟨_, show execKSatom eng s = runCore _ _ s from rfl⟩
  | .kLock eng => .inr ⟨_, show execKLock eng s = runCore _ _ s from rfl⟩
  | .kUnlock eng => .inr ⟨_, show execKUnlock eng s = runCore _ _ s from rfl⟩
  | .kUnlocka eng => .inr ⟨_, show execKUnlocka eng s = runCore _ _ s from rfl⟩
  | .kLi eng => .inr ⟨_, show execKLi eng s = runCore _ _ s from rfl⟩
  | .kLih eng => .inr ⟨_, show execKLih eng s = runCore _ _ s from rfl⟩
  | .kVbcstiW eng => .inr ⟨_, show execKVbcstiW eng s = runCore _ _ s from rfl⟩
  | .kVbcstiD eng => .inr ⟨_, show execKVbcstiD eng s = runCore _ _ s from rfl⟩
  | .kBr eng => .inr ⟨_, show execKBr eng s = runCore _ _ s from rfl⟩
  | .kCall eng => .inr ⟨_, show execKCall eng s = runCore _ _ s from rfl⟩
  | .kSopen eng => .inr ⟨_, show execKSopen eng s = runCore _ _ s from rfl⟩
  | .regulatorFault rail track => .inl ⟨_, show execRegulatorFault rail track s = runHw _ _ s from rfl⟩
  | .clockCheck locked inRange offset => .inl ⟨_, show execClockCheck locked inRange offset s = runHw _ _ s from rfl⟩
  | .xckStop => .inl ⟨_, show execXckStop s = runHw _ _ s from rfl⟩
  | .xckResume => .inl ⟨_, show execXckResume s = runHw _ _ s from rfl⟩
  | .idleEntry => .inl ⟨_, show execIdleEntry s = runHw _ _ s from rfl⟩
  | .engineGate track => .inl ⟨_, show execEngineGate track s = runHw _ _ s from rfl⟩
  | .gatingBudgetTick => .inl ⟨_, show execGatingBudgetTick s = runHw _ _ s from rfl⟩
  | .idleLanesetPark => .inl ⟨_, show execIdleLanesetPark s = runHw _ _ s from rfl⟩
  | .unparkCall => .inl ⟨_, show execUnparkCall s = runHw _ _ s from rfl⟩
  | .powerMeasurement watts volts vddqc vpp => .inl ⟨_, show execPowerMeasurement watts volts vddqc vpp s = runHw _ _ s from rfl⟩
  | .sleepRequest src => .inr ⟨_, show execSleepRequest src s = runCore _ _ s from rfl⟩
  | .automaticSleep => .inl ⟨_, show execAutomaticSleep s = runHw _ _ s from rfl⟩
  | .sleepVoteTimeout block => .inl ⟨_, show execSleepVoteTimeout block s = runHw _ _ s from rfl⟩
  | .sleepStopStep sreFails => .inr ⟨_, show execSleepStopStep s sreFails = runCore _ _ s from rfl⟩
  | .sleepLinkParkTimeout => .inl ⟨_, show execSleepLinkParkTimeout s = runHw _ _ s from rfl⟩
  | .wake0 high => .inl ⟨_, show execWake0 high s = runHw _ _ s from rfl⟩
  | .wake1 high => .inl ⟨_, show execWake1 high s = runHw _ _ s from rfl⟩
  | .wakeComplete lost => .inr ⟨_, show execWakeComplete lost s = runCore _ _ s from rfl⟩
  | .sensorSample sensors => .inl ⟨_, show execSensorSample sensors s = runHw _ _ s from rfl⟩
  | .sensorFailed sensor => .inl ⟨_, show execSensorFailed sensor s = runHw _ _ s from rfl⟩
  | .distrustEvaluation => .inr ⟨_, show execDistrustEvaluation s = runCore _ _ s from rfl⟩
  | .distrustArm => .inl ⟨_, show execDistrustArm s = runHw _ _ s from rfl⟩
  | .gearCeilingStep track => .inl ⟨_, show execGearCeilingStep track s = runHw _ _ s from rfl⟩
  | .coolantWarm slice => .inl ⟨_, show execCoolantWarm slice s = runHw _ _ s from rfl⟩
  | .tripComparator sensor => .inr ⟨_, show execTripComparator sensor s = runCore _ _ s from rfl⟩
  | .secondStageTrip sensor => .inr ⟨_, show execSecondStageTrip sensor s = runCore _ _ s from rfl⟩
  | .dramMonitorWindow sensors => .inl ⟨_, show execDramMonitorWindow sensors s = runHw _ _ s from rfl⟩
  | .tripRestart eyes => .inr ⟨_, show execTripRestart s eyes = runCore _ _ s from rfl⟩
  | .preambleDetect amplitude delimiter reference => .inl ⟨_, show execPreambleDetect amplitude delimiter s reference = runHw _ _ s from rfl⟩
  | .falseDetection => .inl ⟨_, show execFalseDetection s = runHw _ _ s from rfl⟩
  | .ouvendFrameError frame => .inl ⟨_, show execOuvendFrameError frame s = runHw _ _ s from rfl⟩
  | .poll dest => .inl ⟨_, show execPoll dest s = runHw _ _ s from rfl⟩
  | .beacon time => .inl ⟨_, show execBeacon time s = runHw _ _ s from rfl⟩
  | .get src => .inr ⟨_, show execGet src s = runCore _ _ s from rfl⟩
  | .set src => .inr ⟨_, show execSet src s = runCore _ _ s from rfl⟩
  | .list src => .inr ⟨_, show execList src s = runCore _ _ s from rfl⟩
  | .blockGet src => .inr ⟨_, show execBlockGet src s = runCore _ _ s from rfl⟩
  | .finalAnswer path => .inl ⟨_, show execFinalAnswer path s = runHw _ _ s from rfl⟩
  | .beginLoading src => .inr ⟨_, show execBeginLoading src s = runCore _ _ s from rfl⟩
  | .commit src => .inr ⟨_, show execCommit src s = runCore _ _ s from rfl⟩
  | .discard src => .inr ⟨_, show execDiscard src s = runCore _ _ s from rfl⟩
  | .loadingAbandoned => .inl ⟨_, show execLoadingAbandoned s = runHw _ _ s from rfl⟩
  | .force src => .inr ⟨_, show execForce src s = runCore _ _ s from rfl⟩
  | .clear src => .inr ⟨_, show execClear src s = runCore _ _ s from rfl⟩
  | .clearOccurrences src => .inr ⟨_, show execClearOccurrences src s = runCore _ _ s from rfl⟩
  | .clearAllInactive src => .inr ⟨_, show execClearAllInactive src s = runCore _ _ s from rfl⟩
  | .emptyFirstAndLastFault src => .inr ⟨_, show execEmptyFirstAndLastFault src s = runCore _ _ s from rfl⟩
  | .enterGreyMode src => .inr ⟨_, show execEnterGreyMode src s = runCore _ _ s from rfl⟩
  | .resume src => .inr ⟨_, show execResume src s = runCore _ _ s from rfl⟩
  | .arm src => .inr ⟨_, show execArm src s = runCore _ _ s from rfl⟩
  | .trigger src => .inr ⟨_, show execTrigger src s = runCore _ _ s from rfl⟩
  | .milestoneBallEdge => .inl ⟨_, show execMilestoneBallEdge s = runHw _ _ s from rfl⟩
  | .milestoneRelease => .inl ⟨_, show execMilestoneRelease s = runHw _ _ s from rfl⟩
  | .snapshotRead src => .inr ⟨_, show execSnapshotRead src s = runCore _ _ s from rfl⟩
  | .stewardMismatch => .inl ⟨_, show execStewardMismatch s = runHw _ _ s from rfl⟩
  | .stewardWatchdog => .inl ⟨_, show execStewardWatchdog s = runHw _ _ s from rfl⟩
  | .stewardRestartComplete => .inl ⟨_, show execStewardRestartComplete s = runHw _ _ s from rfl⟩
  | .fuseWordRead src => .inr ⟨_, show execFuseWordRead src s = runCore _ _ s from rfl⟩
  | .fuseWordStrictRead src => .inr ⟨_, show execFuseWordStrictRead src s = runCore _ _ s from rfl⟩
  | .burnWord src failing => .inr ⟨_, show execBurnWord src failing s = runCore _ _ s from rfl⟩
  | .finaliseRegion src => .inr ⟨_, show execFinaliseRegion src s = runCore _ _ s from rfl⟩
  | .calibrationOverride src => .inr ⟨_, show execCalibrationOverride src s = runCore _ _ s from rfl⟩
  | .applyCalibration src => .inr ⟨_, show execApplyCalibration src s = runCore _ _ s from rfl⟩
  | .calibrationQuiescentPoint => .inl ⟨_, show execCalibrationQuiescentPoint s = runHw _ _ s from rfl⟩
  | .applyTimeout => .inl ⟨_, show execApplyTimeout s = runHw _ _ s from rfl⟩
  | .lifecycleTransition src => .inr ⟨_, show execLifecycleTransition src s = runCore _ _ s from rfl⟩
  | .interconnectReportWrite src => .inr ⟨_, show execInterconnectReportWrite src s = runCore _ _ s from rfl⟩
  | .proceedWithoutReport src => .inr ⟨_, show execProceedWithoutReport src s = runCore _ _ s from rfl⟩
  | .reportWindowTimeout => .inl ⟨_, show execReportWindowTimeout s = runHw _ _ s from rfl⟩
  | .runShutdownBist src => .inr ⟨_, show execRunShutdownBist src s = runCore _ _ s from rfl⟩
  | .bistComplete found lanes layers => .inl ⟨_, show execBistComplete found lanes layers s = runHw _ _ s from rfl⟩
  | .debugLineRead src => .inr ⟨_, show execDebugLineRead src s = runCore _ _ s from rfl⟩
  | .debugLineWrite src => .inr ⟨_, show execDebugLineWrite src s = runCore _ _ s from rfl⟩
  | .arrayTest src => .inr ⟨_, show execArrayTest src s = runCore _ _ s from rfl⟩
  | .arrayTestComplete failing => .inr ⟨_, show execArrayTestComplete failing s = runCore _ _ s from rfl⟩
  | .tapReset => .inl ⟨_, show execTapReset s = runHw _ _ s from rfl⟩
  | .extest cells => .inl ⟨_, show execExtest cells s = runHw _ _ s from rfl⟩
  | .idcode => .inl ⟨_, show execIdcode s = runHw _ _ s from rfl⟩
  | .samplePreload cells => .inl ⟨_, show execSamplePreload cells s = runHw _ _ s from rfl⟩
  | .clamp cells => .inl ⟨_, show execClamp cells s = runHw _ _ s from rfl⟩
  | .highz => .inl ⟨_, show execHighz s = runHw _ _ s from rfl⟩
  | .internalScan code => .inl ⟨_, show execInternalScan code s = runHw _ _ s from rfl⟩
  | .bypass code => .inl ⟨_, show execBypass code s = runHw _ _ s from rfl⟩
  | .lockWaitTimeout eng => .inl ⟨_, show execLockWaitTimeout eng s = runHw _ _ s from rfl⟩
  | .engineBackInService eng => .inl ⟨_, show execEngineBackInService eng s = runHw _ _ s from rfl⟩
  | .doneSend ls mask seeds trained markers => .inl ⟨_, show execDoneSend ls mask seeds trained s markers = runHw _ _ s from rfl⟩
  | .kIllegal eng => .inl ⟨_, show execKIllegal eng s = runHw _ _ s from rfl⟩
  | .kPcRange eng => .inl ⟨_, show execKPcRange eng s = runHw _ _ s from rfl⟩
  | .lossOfRails => .inr ⟨_, show execLossOfRails s = runCore _ _ s from rfl⟩

end Sys2Proof.Machine
end

