-- ==== Sys2Proof/Machine/Balls.lean ====
section
/-!
DEFINITION. The ball map of the package (R454 to R457): which of the 44 rows and 44 columns carries which lane, rail or pin.
-/
namespace Sys2Proof.Machine

/-- Crystal and control balls (Table 17.3). -/
inductive Pin where
  | xin
  | xout
  | ovP
  | ovN
  | addr (i : Nat)
  | wake0
  | wake1
  | pwrOk
  | resetN
  | errN
  | thermTripN
  | milestone
  | tck
  | tms
  | tdi
  | tdo
  | trstN
  | testmode
  | atestP
  | atestN
  | rsv (i : Nat)
  deriving DecidableEq, Repr

/-- What a ball is; rails are coded as in R465: 0 VIN_L, 1 VIN_S, 2 VIN_A, 3 VIN_D, 4 VIN_AO. -/
inductive Ball where
  | lane (n : Nat) (negative : Bool)
  | ground
  | rail (r : Nat)
  | pin (p : Pin)
  deriving DecidableEq, Repr

/-- The regions of Table 17.1. -/
inductive BallRegion where
  | north
  | south
  | west
  | east
  | corner
  | side
  | core
  deriving DecidableEq, Repr

def ballRegion (r c : Nat) : BallRegion :=
  let outer := r ≤ 9 ∨ 36 ≤ r
  let edge := c ≤ 9 ∨ 36 ≤ c
  if outer then
    if c ≤ 2 ∨ 43 ≤ c then .corner else if r ≤ 9 then .north else .south
  else if edge then
    if r ≤ 12 ∨ 33 ≤ r then .side else if c ≤ 9 then .west else .east
  else .core

/-- Row and column of LANEnnn_P, or of LANEnnn_N (R455): lanes number the positions of the upstream lanesets, then of the downstream ones (R34). -/
def laneBall (n : Nat) (negative : Bool) : Nat × Nat :=
  let ls := n / 9
  let m := n % 9 / 2
  let along := 3 * (n % 9 % 2) + (if negative then 1 else 0)
  if ls < 16 then (if ls < 8 then 1 + 2 * m else 44 - 2 * m, 5 * (ls % 8) + 3 + along)
  else
    let k := ls - 16
    (5 * (k % 4) + 13 + along, if k < 4 then 1 + 2 * m else 44 - 2 * m)

/-- The ball of a lane band: a lane's, or ground. The laneset follows from the block, which holds 18 signal balls. -/
def bandBall (r c ls : Nat) : Ball :=
  match ((List.range 18).map (fun i => (9 * ls + i / 2, i % 2 == 1))).find? (fun e => laneBall e.1 e.2 == (r, c)) with
  | some e => .lane e.1 e.2
  | none => .ground

/-- The ring of a core ball, from 0 to 12 (R456). -/
def coreRing (r c : Nat) : Nat := min (min (r - 10) (35 - r)) (min (c - 10) (35 - c))

/-- Rows and columns at whose crossings core balls are ground. -/
def groundLine (x : Nat) : Bool := [11, 17, 23, 29, 35].contains x

/-- The rail of a core ring (Table 17.2). -/
def ringRail (d : Nat) : Nat := if d = 0 then 1 else if d = 1 then 2 else if d ≤ 4 then 3 else if d = 11 then 4 else 0

/-- The pin at a ball of a corner block (Table 17.3). -/
def cornerPin (r c : Nat) : Option Pin :=
  match r, c with
  | 2, 44 => some .xin
  | 4, 44 => some .xout
  | 6, 44 => some .ovP
  | 7, 44 => some .ovN
  | 41, 44 => some .wake0
  | 42, 44 => some .wake1
  | 43, 44 => some .pwrOk
  | 44, 44 => some .resetN
  | 37, 43 => some .errN
  | 39, 43 => some .thermTripN
  | 41, 43 => some .milestone
  | 37, 1 => some .tck
  | 38, 1 => some .tms
  | 39, 1 => some .tdi
  | 40, 1 => some .tdo
  | 41, 1 => some .trstN
  | 38, 2 => some .testmode
  | 40, 2 => some .atestP
  | 41, 2 => some .atestN
  | r, 44 => if 36 ≤ r ∧ r ≤ 40 then some (.addr (r - 36)) else none
  | r, 1 => if r ≤ 9 then some (.rsv (r - 1)) else none
  | r, 2 => if r ≤ 9 ∧ r % 2 = 1 then some (.rsv (9 + r / 2)) else none
  | _, _ => none

/-- A ball of a corner block: a pin, VIN_AO or ground. -/
def cornerBall (r c : Nat) : Ball :=
  match cornerPin r c with
  | some p => .pin p
  | none => if c = 43 ∧ (r = 9 ∨ r = 36 ∨ r = 43) then .rail 4 else .ground

/-- The ball at a row and a column, each from 1 to 44. -/
def ballAt (r c : Nat) : Ball :=
  match ballRegion r c with
  | .north => bandBall r c ((c - 3) / 5)
  | .south => bandBall r c (8 + (c - 3) / 5)
  | .west => bandBall r c (16 + (r - 13) / 5)
  | .east => bandBall r c (20 + (r - 13) / 5)
  | .corner => cornerBall r c
  | .side => .rail 1
  | .core => if groundLine r && groundLine c then .ground else .rail (ringRail (coreRing r c))

/-- The level that an input's own resistor gives it while nothing drives it; none where it has no pull (R457). -/
def pull : Pin → Option Bool
  | .addr _ | .trstN | .tck | .testmode => some false
  | .wake0 | .wake1 | .tms | .tdi => some true
  | .xin | .xout | .ovP | .ovN | .pwrOk | .resetN | .errN | .thermTripN | .milestone | .tdo | .atestP | .atestN | .rsv _ => none

/-- The strap address that ADDR[4:0] give with no ball connected: 0, which is no strap address (R353, R457). -/
def strapUnconnected : Nat := ((List.range 5).map (fun i => if pull (.addr i) = some true then 2 ^ i else 0)).sum

end Sys2Proof.Machine
end

