-- ==== Sys2Proof/Tests/Slice0.lean ====
section
/-!
SUPPORT. Tests: commands that are not well formed are refused, worked examples of the spec and hand calculations from it, and a
witness for every statement that has hypotheses. A witness names its statement and holds one conjunct per clause, in order.
-/
namespace Sys2Proof.Tests
open Sys2Proof Sys2Proof.Machine

-- One theorem at a time: each waits for the kernel, and a thread held for each would exhaust the memory allowed.
set_option Elab.async false

/-! Small states. -/

/-- A stack whose dies were zero-filled, with no command waiting. -/
def stackOf (h : Hw) : State := { dram := { zones := [.all] }, hw := h, pending := [] }

/-- A stack that runs, in the power state ACTIVE. -/
def upHw : Hw := { mode := .run }

/-- The same with its link in a state of bring-up. -/
def linkIn (st : Nat) : Hw := setObj upHw 0x2200 2 0 st

/-- PATTERN with the rate agreed. -/
def pattern : Hw := { linkIn 1 with link := { up := { rate := some 0 } } }

/-- Laneset `ls` of an active link as `l`. -/
def withLaneset (ls : Nat) (l : Laneset) : Hw := setLaneset (linkIn 4) ls l

/-- Laneset `ls` of an active link in a phase of its withdrawal. -/
def withdrawn (ls : Nat) (ph : WdPhase) : Hw :=
  setLsState (withLaneset ls { wd := some { failedPos := none, spareMapped := false, phase := ph }, blockRun := 2 }) ls 1

/-- A repair of laneset `ls` in a phase. -/
def repairing (ls : Nat) (ph : MirrorPhase) : Hw := withLaneset ls { mirror := some { stripe := 0, oldPos := 0, spare := 8, phase := ph } }

/-- Trained values at position `pos` in the middle of their ranges. -/
def trained (pos : Nat) : Trained := 
  { pos := pos, ctle := 0, fullScale := 64, gain := 256, ffe := List.replicate 16 0, dfe := 0, levels := [-384, -128, 128, 384] }

/-- The bytes of a flit with header `hdr` and no slots, before its CRC. -/
def flitBody (hdr : Nat) : List Byte := leBytes 8 hdr ++ List.replicate 496 0#8

/-- A port with requests in its buffer. -/
def withReq (rs : List Req) : Hw := setPort (linkIn 4) 0 { req := rs.map (fun r => ⟨5, r⟩) }

/-! Well-formed commands: one term per kind of check that the check refuses. -/

theorem test_ill_formed_laneset : (Instr.testEnd 16).wf = false ∧ (Instr.laneLockLost 143).wf = false ∧ (Instr.laneLockLost 216).wf = false := by decide
theorem test_ill_formed_field : (Instr.hello 16 8 0).wf = false ∧ (Instr.done 0 512).wf = false ∧ (Instr.setTaps 0 0 128 0 0 0 0).wf = false := by decide
theorem test_ill_formed_unit : (Instr.rdRequest 4).wf = false ∧ (Instr.arbiterDecision 128).wf = false ∧ (Instr.kAdd 32).wf = false ∧ (Instr.gearChange 8).wf = false := by decide
theorem test_ill_formed_row : (Instr.act 0 16 0 false).wf = false ∧ (Instr.act 0 0 66560 false).wf = false ∧ (Instr.moveSwap 2097152 false).wf = false := by decide
theorem test_ill_formed_source : (Instr.get (.mgt 4)).wf = false ∧ (Instr.get (.ouvend 64 { op := 1, tag := 0, index := 0x1000, sub := 1 })).wf = false ∧
    (Instr.set (.ouvend 0 { op := 1, tag := 0, index := 0x1000, sub := 1 })).wf = false ∧ (Instr.pin (.ouvend 0 { op := 3, tag := 0, index := 0x4001, sub := 5 })).wf = false := by decide
theorem test_ill_formed_length : (Instr.flitReceive 16 (some ([], true)) [] 0).wf = false ∧ (Instr.terminationSense [] []).wf = false ∧ (Instr.endOfPowerUp [[]]).wf = false := by decide
theorem test_ill_formed_stops : exec (.testEnd 16) (stackOf upHw) = .fault .illFormed := rfl

/-! Witnesses: the link. -/

theorem test_witness_BringUpEventsComplete :
    (let up := List.replicate 16 511
     let dn := List.replicate 8 511
     let h : Hw := { linkIn 0 with link := { up := { firstSense := some 0, sense := some (up, dn) } } }
     (Instr.terminationSense up dn).wf ∧ awake h ∧ linkState h = 0 ∧ h.test.bistLinkDown = false ∧ obj h 0x1002 1 ≠ 3 ∧
     h.link.up.firstSense = some 0 ∧ h.link.up.sense = some (up, dn) ∧ (∃ m ∈ up, 8 ≤ maskCount m) ∧ (∃ m ∈ dn, 8 ≤ maskCount m)) ∧
    ((Instr.hello 16 7 2).wf ∧ awake (linkIn 1) ∧ linkState (linkIn 1) = 1 ∧ (linkIn 1).link.up.rate = none) ∧
    ((Instr.done 15 511).wf ∧ awake pattern ∧ inPattern pattern 15) ∧
    ((Instr.doneSend 23 511 ((List.range 9).map prbs13Seed) [trained 8] (List.replicate 9 markerM)).wf ∧ awake pattern ∧ inPattern pattern 23) ∧
    (awake (linkIn 1) ∧ linkState (linkIn 1) = 1) ∧
    ((Instr.patternTimeout (some 23)).wf ∧ awake (withdrawn 23 .pattern) ∧ inPhase (withdrawn 23 .pattern) 23 .pattern) ∧
    ((Instr.pilotLock 215 (-2147483648) 0).wf ∧ awake (linkIn 2)) ∧
    (let h := (List.range 8).foldl (fun h i => setLane h (laneOf 16 i) { locked := true }) (setLaneset (linkIn 2) 16 { goodCw := 16 })
     (Instr.lanesetLocked 16).wf ∧ awake h ∧ inLock h 16 ∧ 16 ≤ (laneset h 16).goodCw ∧
     (laneset h 16).map.all (fun i => (lane h (laneOf 16 i)).locked)) ∧
    (awake (linkIn 2) ∧ linkState (linkIn 2) = 2) ∧
    (let h := withdrawn 0 .lock
     (Instr.lockTimeout (some 0)).wf ∧ awake h ∧ inPhase h 0 .lock ∧ (laneset h 0).locked = false) ∧
    (let h := { linkIn 3 with link := { up := { rate := some 0 } } }
     let ok := 2 ^ 8 + 2 ^ 24 + 15 * 2 ^ 26 + 2 ^ 38
     let wrong := ok + 2 ^ 35
     (∀ n ∈ [ok, wrong], let b := blockFields (BitVec.ofNat 512 n).toNat
      (Instr.capabilityBlock 23 (BitVec.ofNat 512 n)).wf ∧ awake h ∧ linkState h = 3 ∧ bitAt b 24 ∧ bitAt b 25 = false ∧
      (laneset (setLaneset (begin h) 23 { laneset h 23 with capSeen := true }) (field b 29 26)).wd = none) ∧
     (field wrong 36 35 ≠ attemptRate h) ∧
     (field ok 15 8 = 1 ∧ field ok 36 35 = attemptRate h ∧ h.link.up.hostWide.any (· != hostWide ok) = false)) ∧
    (awake (linkIn 3) ∧ linkState (linkIn 3) = 3) ∧
    ((Instr.exchangeTimeout (some 16)).wf ∧ awake (withdrawn 16 .exchange) ∧ inPhase (withdrawn 16 .exchange) 16 .exchange) ∧
    (awake (linkIn 5) ∧ linkState (linkIn 5) = 5) := by decide +kernel

theorem test_witness_FailedAttemptStepsDown :
    attemptRate { linkIn 1 with link := { up := { rate := some 1 } } } < 2 ∧ attemptRate { linkIn 1 with link := { up := { rate := some 2 } } } = 2 := by decide

theorem test_witness_TapRequestsComplete :
    ((Instr.setPreset 15 8 0).wf ∧ awake pattern ∧ inPattern pattern 15) ∧
    ((Instr.setTaps 0 0 (-128) 127 0 0 0).wf ∧ awake pattern ∧ inPattern pattern 0) ∧
    (let h := setLane pattern (laneOf 23 8) { asked := true }
     (Instr.reply 23 8 2).wf ∧ awake h ∧ inPattern h 23 ∧ (lane h (laneOf 23 8)).asked) := by decide

/-- The plain cursor lies at 0 dB, but for the free error, and never above. -/
theorem test_mask_cursor_level : maskLevel [0, 0, 64, 0, 0] 1 0 = min 0 ((0 + max (-20) (min 20 (Config.maskError [0, 0, 64, 0, 0] 1 0)) + 5) / 10) := by
  have hp : tapPower [0, 0, 64, 0, 0] 1 112000 = 4096 * fixOne := by decide +kernel
  have hl : (fixLog2 (4096 * fixOne) - 12 * 1073741824) * 301029995664 / (1073741824 * 100000000) = 0 := by decide +kernel
  have hz : ¬(4096 * fixOne ≤ 0) := by decide
  unfold maskLevel
  simp only [hp, hz, if_false, hl]

/-- So a point at -327.68 dB refuses it whatever that error. -/
theorem test_mask_refuses_cursor : passesPoint [0, 0, 64, 0, 0] 0 0x18000 = false := by
  have hs : toSigned 16 (field 0x18000 15 0) = -32768 := by decide
  have hf : field 0x18000 31 16 = 1 := by decide
  unfold passesPoint
  simp only [hf, hs, test_mask_cursor_level]
  generalize Config.maskError _ _ _ = e
  rw [Bool.or_eq_false_iff]
  refine ⟨rfl, decide_eq_false ?_⟩
  omega

/-- With point 1 so set; 127 is out of range; a mask without points refuses nothing. -/
theorem test_witness_OnlyLegalTapsAreDriven :
    (tapsInRange [0, 0, 64, 0, 0] ∧ failingPoint [0, 0, 64, 0, 0] (laneRate upHw) (maskWords upHw) = none) ∧
    tapsInRange [0, 0, 127, 0, 127] = false ∧
    failingPoint [0, 0, 64, 0, 0] (laneRate upHw) (maskWords (setObj upHw 0x2010 1 0 0x18000)) = some 1 := by
  refine ⟨by decide +kernel, by decide, ?_⟩
  rw [show maskWords (setObj upHw 0x2010 1 0 0x18000) = (1, 0x18000) :: (span 2 15).map (fun n => (n, 0)) by decide +kernel,
    show laneRate upHw = 0 by decide]
  simp [failingPoint, test_mask_refuses_cursor]

/-- Frames of the code word 0 on every position. -/
def zeroFrames : List (List Int) := List.replicate 9 (shareFrame true false 0 0)

theorem test_witness_LaneConditionEventsComplete :
    (Instr.codewordDecode 23 zeroFrames 0 10).wf ∧
    ((Instr.laneLockLost 144).wf ∧ Machine.heard (linkIn 4) 144 ∧ judged (linkIn 4) 144 ∧
      Machine.heard (withdrawn 16 .pattern) 145 ∧ judged (withdrawn 16 .pattern) 145 = false) ∧
    ((Instr.lanePairingFailure 215).wf ∧ judged (setLane (linkIn 4) 215 { pairRun := 4 }) 215 ∧ 4 ≤ (lane (setLane (linkIn 4) 215 { pairRun := 4 }) 215).pairRun) ∧
    ((Instr.laneWindowEnd 144).wf ∧ judged (linkIn 4) 144) ∧
    ((Instr.wakeLockTimeout 144).wf ∧ judged (linkIn 4) 144 ∧ inService (linkIn 4) 16 ∧ (stripeAt (laneset (linkIn 4) 16) 0).isSome ∧
      (lane (linkIn 4) 144).locked = false) ∧
    ((Instr.adcCalibration 215 (List.replicate 8 (1, -1, 0))).wf ∧ awake (linkIn 4)) ∧
    ((Instr.driftHoldEnd 215).wf ∧ (lane (setLane (linkIn 4) 215 { holdEnd := some 7 }) 215).holdEnd.isSome) := by decide +kernel

/-- Word 0 is a codeword, word 1 is none; the highest word, index, position and byte. -/
theorem test_witness_CodewordIsCountedOnce :
    (2 ^ 2304 - 1 < 2 ^ 2304 ∧ (BcMsg.setTaps 8 (-128) 127 0 0 (-1)).wf ∧ (BcMsg.hello 255 255).wf ∧ 15 < 16) ∧
    (awake (linkIn 4) ∧ inService (linkIn 4) 23 ∧ linkState (linkIn 4) = 4 ∧ (laneset (linkIn 4) 23).quiet = false ∧
      ldpcOk 0 ∧ 1 ≤ obj (linkIn 4) 0x2215 0 ∧ ldpcOk 1 = false) := by decide +kernel

/-- Figure of a frame of the word 0 (R36, R38, R39): all levels −3, an even pilot pair +3, −3 at positions 72 and 73. -/
theorem test_zero_frame : shareFrame true false 0 0 = List.replicate 72 (-3) ++ [3, -3] ++ List.replicate 72 (-3) := by decide +kernel

/-- Seeds of R76, the first two and the last. -/
theorem test_prbs13_seeds : prbs13Seed 0 = 0x1155 ∧ prbs13Seed 1 = 0x12AA ∧ prbs13Seed 8 = 0x1BFD := by decide

theorem test_witness_RepairPhasesComplete :
    (let s := linkIn 4
     let h := wakeLaneset 15 (begin s)
     (Instr.repairReq 15 7 8).wf ∧ awake s ∧ inService h 15 ∧ (laneset h 15).mirror = none ∧ (laneset h 15).spare = some 8) ∧
    (let h := repairing 16 .asked
     (Instr.mirrorOn 16 0 8 4294967295).wf ∧ awake h ∧ ∃ m ∈ (laneset h 16).mirror, m.phase = .asked ∧ m.stripe = 0) ∧
    (let h := repairing 16 .training
     (Instr.spareTrained 16 (trained 8)).wf ∧ awake h ∧ ∃ m ∈ (laneset h 16).mirror, m.phase = .training ∧ (trained 8).pos = m.spare) ∧
    (let h := repairing 0 .training
     (Instr.switch 0 0 8 64).wf ∧ awake h ∧ ∃ m ∈ (laneset h 0).mirror, m.phase = .training ∧ m.stripe = 0) ∧
    (let h := repairing 16 .switching
     (Instr.spareSwitchOver 16).wf ∧ awake h ∧ ∃ m ∈ (laneset h 16).mirror, m.phase = .switching) ∧
    (let h := repairing 0 .switching
     (Instr.repairDone 0 0 8).wf ∧ awake h ∧ ∃ m ∈ (laneset h 0).mirror, m.phase = .switching ∧ m.stripe = 0) ∧
    (let h := repairing 16 .switched
     (Instr.backgroundRetrainComplete 16 (trained 8)).wf ∧ awake h ∧ ∃ m ∈ (laneset h 16).mirror, m.phase = .switched) := by decide +kernel

theorem test_witness_LanesetEventsComplete :
    ((Instr.lanesetWithdrawal 23 (some 8)).wf ∧ awake (linkIn 4) ∧ inService (linkIn 4) 23 ∧ linkActive (linkIn 4)) ∧
    ((Instr.train 0 (.done 511)).wf ∧ awake (withdrawn 0 .pattern)) ∧
    ((Instr.rejoin 16).wf ∧ awake (withdrawn 16 .exchange) ∧ inPhase (withdrawn 16 .exchange) 16 .exchange ∧
     (Instr.rejoin 0).wf ∧ inPhase (withdrawn 0 .exchange) 0 .exchange ∧ 2 ≤ (laneset (withdrawn 0 .exchange) 0).blockRun) ∧
    ((Instr.testStart 15 2).wf ∧ awake (linkIn 4) ∧ linkActive (linkIn 4) ∧ inService (linkIn 4) 15) ∧
    (let h := setLsState (linkIn 4) 0 4
     (Instr.testEnd 0).wf ∧ awake h ∧ lsState h 0 = 4) ∧
    (let h := setLane (linkIn 4) 215 { checkerSync := true }
     (Instr.checkerSyncLoss 215 256 32).wf ∧ awake h ∧ (lane h 215).checkerSync) ∧
    ((Instr.quietIdleEnter 16).wf ∧ awake (linkIn 4) ∧ linkActive (linkIn 4) ∧ inService (linkIn 4) 16 ∧ (laneset (linkIn 4) 16).quiet = false) ∧
    (let h := setObj (linkIn 4) 0x3030 2 0 1
     (Instr.quietIdleEnter 15).wf ∧ awake h ∧ linkActive h ∧ inService h 15 ∧ (laneset h 15).quiet = false ∧ flag h 0x3030 2 ∧
     (port h (portOf h 15)).wait = [] ∧ (port h (portOf h 15)).replay = []) ∧
    (let h := withLaneset 23 { quiet := true }
     (Instr.quietIdleExit 23).wf ∧ awake h ∧ (laneset h 23).quiet) := by decide +kernel

theorem test_witness_LanesetEventsComplete_parking :
    (let h := setObj (setObj (linkIn 4) 0x3031 0 0 1) 0x7000 1 0 1
     (Instr.lanesetPark 15).wf ∧ awake h ∧ mayPark h 15 ∧ parkCalled h 15) ∧
    (let h := setObj (setObj (withLaneset 15 { parkWait := true }) 0x3031 0 0 1) 0x7000 1 0 1
     (Instr.parkFlitsSend 15).wf ∧ awake h ∧ inService h 15 ∧ (laneset h 15).parkWait ∧ mayPark h 15 ∧ parkCalled h 15 ∧ (laneset h 15).retry = []) ∧
    ((Instr.parkFlit 23).wf ∧ awake (linkIn 4) ∧ inService (linkIn 4) 23) ∧
    (let h := setLsState (linkIn 4) 15 3
     (Instr.lanesetWake 15).wf ∧ awake h ∧ lsState h 15 = 3) ∧
    (let h := withLaneset 15 { wakeSent := true }
     (Instr.wakeAckTimeout 15).wf ∧ awake h ∧ (laneset h 15).wakeSent) ∧
    (let h := setLsState (linkIn 4) 23 3
     (Instr.wakeDetectorFire 215 16 15).wf ∧ h.mode = .run ∧ lsState h 23 = 3) ∧
    (let h := setLane (linkIn 4) 144 { window := some 111 }
     (Instr.acquisitionWindowClose 144).wf ∧ (lane h 144).window.isSome) ∧
    (let h := setLane (setLsState (linkIn 4) 16 3) 144 { window := some 111 }
     (Instr.wakeWordRecognised 144 wakeWordBits 111).wf ∧ h.mode = .run ∧ lsState h 16 = 3 ∧ wakeRecognised wakeWordBits ∧
     (stripeAt (laneset h 16) 0).isSome ∧ (lane h 144).window = some 111) := by decide +kernel

/-! Witnesses: flits and requests. -/

/-- A DATA flit with SEQ 0 and ACK 0xFFF that carries its CRC, given whole or made by a pair of codewords, converged and not. -/
theorem test_witness_FlitEventsComplete_flit :
    let b := flitBody (1 + 0xFFF * 2 ^ 16)
    let f := b ++ leBytes 8 (crc64 b)
    (∀ g ∈ [some (f, true), some (f, false), none], (Instr.flitReceive 16 g [] 0).wf = true) ∧
    awake (linkIn 4) ∧ linkActive (linkIn 4) ∧ inService (linkIn 4) 16 ∧ (port (linkIn 4) (portOf (linkIn 4) 16)).down = false ∧
    (∀ c ∈ [true, false], (arrivedFlit (laneset (linkIn 4) 16) (some (f, c))).2 = some (c, f) ∧ (arrivedFlit { rx := some (c, f) } none).2 = some (c, f)) ∧
    f.all (· == 0#8) = false ∧ crc64 (f.take 504) = leNat (f.drop 504) := by
  intro b f
  have h := flit_crc_checks b (by simp only [b, flitBody, List.length_append, length_leBytes, List.length_replicate])
  refine ⟨?_, by decide, by decide, by decide, by decide, by simp [arrivedFlit], rfl, h.2⟩
  simp [Instr.wf, wfFlitReceive, f, h.1]

theorem test_witness_FlitEventsComplete :
    ((Instr.replayReq 15 (some 4095)).wf ∧ awake (linkIn 4) ∧ linkActive (linkIn 4) ∧ takesFlits (linkIn 4) 15) ∧
    (let h := withLaneset 23 { replayWait := true }
     (Instr.replayReqRepeat 23).wf ∧ awake h ∧ linkActive h ∧ takesFlits h 23 ∧ (laneset h 23).replayWait ∧ (laneset h 23).quiet = false) ∧
    (let h := withLaneset 16 { failRun := 255 }
     (Instr.repeatedReplayWithdrawal 16).wf ∧ awake h ∧ linkActive h ∧ inService h 16 ∧ obj h 0x3010 2 ≤ (laneset h 16).failRun) ∧
    (let h := setObj (linkIn 4) 0x2230 215 0 1
     (Instr.checkerSync 215).wf ∧ awake h ∧ obj h 0x2230 215 ≠ 0 ∧ (laneset h 23).testPath = none) ∧
    (let h := setObj (withLaneset 23 { testPath := some 0 }) 0x2230 215 0 1
     (Instr.checkerSync 215).wf ∧ awake h ∧ obj h 0x2230 215 ≠ 0 ∧ (laneset h 23).testPath = some 0) ∧
    (let h := setLsState (withLaneset 16 { testPath := some 4 }) 16 4
     (Instr.refuse 16).wf ∧ awake h ∧ lsState h 16 = 4 ∧ (laneset h 16).testPath = some 4) := by decide +kernel

/-- Both ends of each window: 1 and 2,048 behind; the reorder capacity and 2,047 ahead. -/
theorem test_witness_DuplicateFlitsAreNotDelivered :
    (∀ seq ∈ [4095, 2048], let back := ((port upHw 0).expect + 4096 - seq) % 4096; 1 ≤ back ∧ back ≤ 2048) ∧
    (∀ seq ∈ [reorderCapacity upHw, 2047], let ahead := (seq + 4096 - (port upHw 0).expect) % 4096; reorderCapacity upHw ≤ ahead ∧ ahead < 2048) := by decide

theorem test_witness_AckFreesCoveredFlits :
    (port upHw 0).lastAck = 4095 ∧ (4095 + 4096 - (port upHw 0).lastAck) % 4096 = 0 ∧ (0 + 4096 - (port upHw 0).lastAck) % 4096 = 1 ∧
    (2046 + 4096 - (port upHw 0).lastAck) % 4096 = 2047 ∧ (2047 + 4096 - (port upHw 0).lastAck) % 4096 = 2048 := by decide

/-- A transfer of the last line of a parcel, of a whole parcel, and a wide atomic at its last word. -/
theorem test_witness_RequestsComplete :
    (let r := Req.rd 5 0 1023 1
     let h := withReq [r]
     (Instr.rdRequest 0).wf ∧ admitting h ∧ (port h 0).fence = none ∧
     pickReq (begin h) 0 rdReq [] (port h 0).req [] = some (⟨5, r⟩, []) ∧
     (offerTxn (lookup (begin h) 0).1 (txnOf (lookup (begin h) 0).1 0 r (entTrack (lookup (begin h) 0).2) 5)).2) ∧
    (let r := Req.wr false 5 0 0 1 0 [0]
     let h := withReq [r]
     (Instr.wrRequest 0).wf ∧ admitting h ∧ (port h 0).fence = none ∧
     pickReq (begin h) 0 (wrReq false) [] (port h 0).req [] = some (⟨5, r⟩, []) ∧
     (offerTxn (lookup (begin h) 0).1 (txnOf (lookup (begin h) 0).1 0 r (entTrack (lookup (begin h) 0).2) 5)).2) ∧
    (let r := Req.wr true 5 0 0 1 0 [0]
     let h := withReq [r]
     (Instr.wrcRequest 0).wf ∧ admitting h ∧ (port h 0).fence = none ∧
     pickReq (begin h) 0 (wrReq true) [] (port h 0).req [] = some (⟨5, r⟩, []) ∧
     (offerTxn (lookup (begin h) 0).1 (txnOf (lookup (begin h) 0).1 0 r (entTrack (lookup (begin h) 0).2) 5)).2) ∧
    (let r := Req.atom 5 0 0 14 true 4 true 1 2
     let h := withReq [r]
     (Instr.atom 0).wf ∧ admitting h ∧ (port h 0).fence = none ∧
     pickReq (begin h) 0 atomReq [] (port h 0).req [] = some (⟨5, r⟩, []) ∧
     (offerTxn (lookup (begin h) 0).1 (txnOf (lookup (begin h) 0).1 0 r (entTrack (lookup (begin h) 0).2) 5)).2) := by decide +kernel

/-- The oldest request of each kind, with a queue that has room and one below its limit; one of two parcels, a reserved operation and an
odd word of 64 bits, each taken by its own command. -/
theorem test_witness_RequestsComplete_oldest :
    (Instr.rdRequest 0).wf ∧ (Instr.wrRequest 0).wf ∧ (Instr.wrcRequest 0).wf ∧ (Instr.atom 0).wf ∧
    (∀ r ∈ [Req.rd 5 0 1023 1, .wr false 5 0 1023 1 0 [0], .wr true 5 0 1023 1 0 [0], .atom 5 0 1023 14 true 4 true 1 2],
      let h := withReq [r]
      admitting h ∧ (port h 0).fence = none ∧ (port h 0).req = [⟨5, r⟩] ∧ reqError r = none ∧ RoomForRequest (begin h) 0 0 1023) ∧
    (∀ x ∈ [(Req.rd 5 0 1023 2, 2), (.wr false 5 0 1023 2 0 [0, 0], 2), (.wr true 5 0 1023 2 0 [0, 0], 2), (.atom 5 0 0 0 false 5 false 0 0, 3),
        (.atom 5 0 0 15 true 0 false 0 0, 2)],
      let h := withReq [x.1]
      admitting h ∧ (port h 0).fence = none ∧ (port h 0).req = [⟨5, x.1⟩] ∧ reqError x.1 = some x.2 ∧
      (rdReq x.1 || wrReq false x.1 || wrReq true x.1 || atomReq x.1)) := by
  refine ⟨by decide, by decide, by decide, by decide, ?_, by decide +kernel⟩
  simp only [RoomForRequest]
  decide +kernel

theorem test_witness_FenceAndReleaseComplete :
    (let h := withReq [.fence 7 true]
     (Instr.fence 0).wf ∧ admitting h ∧ (port h 0).req = [⟨5, .fence 7 true⟩] ∧ (port h 0).fence = none) ∧
    (let h := setPort (linkIn 4) 3 { fence := some { tag := 7, jobs := true }, job := [[]] }
     (Instr.fenceComplete 3).wf ∧ awake h ∧ (port h 3).fence = some { tag := 7, jobs := true } ∧ fenceDone h 3 { tag := 7, jobs := true }) ∧
    (let h := withReq [.release true 7 2097151 1]
     (Instr.release 0).wf ∧ admitting h ∧ (port h 0).req = [⟨5, .release true 7 2097151 1⟩] ∧ (port h 0).fence = none ∧ h.chans.txns = [] ∧
     2097151 + 1 ≤ parcels) := by decide

theorem test_witness_AtomicArithmetic : (0 : Nat) < 32 ∧ (2 : Nat) ^ 32 - 1 < 2 ^ 32 := by decide
theorem test_witness_AtomicTouchesItsOperandAlone : 32 * 14 + 64 ≤ 512 ∧ 32 * 15 + 32 ≤ 512 ∧ (2 : Nat) ^ 64 - 1 < 2 ^ 64 := by decide


/-! Witnesses: arbiter, dies, integrity. -/

/-- Pseudo-channel `n` of a running stack as `p`; channel `n` as `c`. -/
def withPc (n : Nat) (p : Pc) : Hw := setPc upHw n p
def withCh (n : Nat) (c : Chan) : Hw := setCh upHw n c

/-- Line 0 lies in slot 0 of track 0: pseudo-channel 0, bank 0, row 0, column 0. One transaction of port 0 on it, and its transfer. -/
def oneTxn (k : TxnKind) : Txn := { port := 0, tag := 1, kind := k, cls := 0, label := 0, line := 0, count := 1, data := [0], track := 0, arrived := 0, left := 1 }
def oneXfer : Xfer := { txn := 0, pc := 0, lines := [{ idx := 0, line := 0 }], age := 0 }
def withTxn (k : TxnKind) (p : Pc) : Hw :=
  { upHw with chans := { pcs := [(0, p)], txns := [(0, oneTxn k)], inputs := [(inputOf upHw 0 0, [oneXfer])], nextTxn := 1 } }
/-- The same, out of the queues. -/
def grantedTxn (p : Pc) : Hw := { upHw with chans := { pcs := [(0, p)], txns := [(0, oneTxn .rd)], nextTxn := 1 } }
def oneWrite : WqEntry := { phys := 0, data := 0, poison := false }

theorem test_line_zero : physOf (route upHw 0) 0 = 0 ∧ pPc 0 = 0 ∧ pBank 0 = 0 ∧ pRow 0 = 0 ∧ pCol 0 = 0 := by decide

theorem test_witness_DataPathEventsComplete :
    (awake upHw ∧ grey upHw = false ∧ grey (setObj upHw 0x8300 1 0 1)) ∧
    (let h := setCls { upHw with chans := { txns := [(4, oneTxn .rd)] } } 7 0 { queue := [4] }
     (Instr.admissionQueueRelease 7 0).wf ∧ awake h ∧ grey h = false ∧ queuedOf h 7 0 = some 4 ∧ underLimit h 7 0 ∧
     (let k := setObj h 0x8300 1 0 1; awake k ∧ grey k ∧ firstQueued k 7 = some (0, 4))) ∧
    (let h := noteBehind (noteMarks (begin (withTxn .rd {})) 0) 0
     (Instr.arbiterDecision 0).wf ∧ takesGrants h 0 ∧ (pcSt h 0).granted = none ∧ ∃ w ∈ winner h 0, w.2 = .xfer oneXfer w.1) ∧
    (let h := withPc 127 { emergency := [5], granted := some (.drain 2 0) }
     (Instr.grantCut 127).wf ∧ takesGrants h 127 ∧ at14 h 127 ∧ (pcSt h 127).granted.isSome) ∧
    (let s := stackOf (withTxn (.wr true) {})
     (Instr.writeQueueEntry 0).wf ∧ awake s.hw ∧ nextWrite s.hw 0 = some oneXfer ∧ txn s.hw 0 = some (oneTxn (.wr true)) ∧
     (recreateFor ((coreOf s).onHw (fun h => dropXfer h oneXfer)) 0).2) ∧
    (let h := withPc 127 { granted := some (.drain 2 3), wq := [oneWrite] }
     (Instr.writeDrain 127).wf ∧ (pcSt h 127).granted = some (.drain 2 3) ∧ (pcSt h 127).sr = false ∧ (chSt h (chOf 127)).alert = none) ∧
    (let h := grantedTxn { granted := some (.xfer oneXfer 5), got := [(0, 0, false)] }
     let k := withTxn .rd { wq := [oneWrite] }
     (Instr.readResponse 0).wf ∧ awake h ∧ grantedRead h 0 = some (oneXfer, oneTxn .rd) ∧
     awake k ∧ grantedRead k 0 = none ∧ freeRead k 0 = some (oneXfer, oneTxn .rd)) ∧
    ((Instr.rmwAtomic 63).wf ∧ awake upHw ∧ dieOn upHw 15 ∧ (chSt upHw 63).alert = none) := by decide +kernel

/-- An urgent refresh at input 14 wins; in Grey mode it still does. -/
theorem test_witness_HighestInputWins :
    winner (withPc 0 { emergency := [5] }) 0 = some (14, .refresh true) ∧
    (let h := setObj (withPc 0 { emergency := [5] }) 0x8300 1 0 1; grey h ∧ winner h 0 = some (14, .refresh true)) := by decide +kernel

theorem test_witness_AdmissionKeepsLimits :
    (let q := oneTxn .rd
     queuedOf upHw q.track q.cls = none ∧ underLimit upHw q.track q.cls ∧ reclassWaits upHw q.track q.port q.cls = false) ∧
    (let h := setCls (withTxn .rd {}) 0 0 { queue := List.replicate 256 0 }
     (queuedOf h (oneTxn .rd).track (oneTxn .rd).cls).isSome ∧ 256 ≤ (clsSt h (oneTxn .rd).track (oneTxn .rd).cls).queue.length) := by decide +kernel

theorem test_witness_DieCommandsComplete :
    (∀ pc ∈ [0, 127], upHw.mode = .run ∧ dieState upHw (dieOf pc) ≠ 1 ∧ dieState upHw (dieOf pc) ≠ 3 ∧ (chSt upHw (chOf pc)).retry.length < 16 ∧
      live pc upHw ∧ (Instr.act pc 15 66559 true).wf ∧ (Instr.pre pc 15 true).wf ∧ mayClose upHw pc 15 ∧
      (Instr.prea pc true).wf ∧ (Instr.sre pc true).wf ∧ (pcSt upHw pc).rows = [] ∧
      (pcSt upHw pc).granted = none ∧ (Instr.mrw pc 0 49 true).wf ∧ (Instr.trainCommand pc true).wf) ∧
    mayOpen (withTxn .rd {}) 0 0 0 ∧
    (let h := withPc 127 { granted := some (.refresh false), rows := [(15, 7)] }
     dieState h 15 ≠ 1 ∧ dieState h 15 ≠ 3 ∧ (Instr.refpb 127 true).wf ∧ live 127 h ∧ rotationIdle h 127 ∧ refreshGranted h 127 ∧
     (∀ r ∈ (pcSt h 127).rows, mayClose h 127 r.1)) ∧
    (let h := withPc 127 { trr := [(15, 66559, 0, false)], granted := some (.targeted 15 66559 false) }
     dieState h 15 ≠ 1 ∧ dieState h 15 ≠ 3 ∧ (Instr.trr 127 15 66559 false).wf ∧ live 127 h ∧ trrGranted h 127 15 66559) ∧
    (let h := withPc 127 { sr := true }
     (Instr.srx 127 false).wf ∧ (pcSt h 127).sr ∧ awake h ∧ (trkSt h (trkOf 127)).change = none) ∧
    (let h := withPc 127 { rows := [(15, 0)] }
     (Instr.rowIdleClose 127 15).wf ∧ live 127 h ∧ thas (pcSt h 127).rows 15 ∧ rowNeeded h 127 15 = false) ∧
    (let h := grantedTxn { granted := some (.xfer oneXfer 5), rows := [(0, 0)] }
     (Instr.rd 0 0 0 1 false).wf ∧ (Instr.rda 0 0 0 0 false).wf ∧ live 0 h ∧ readTarget h 0 0 0 = some ({ idx := 0, line := 0 }, 0)) ∧
    (let h := withPc 0 { granted := some (.drain 2 3), wq := [oneWrite], rows := [(0, 0)] }
     (Instr.wr 0 0 0 false 1).wf ∧ (Instr.wra 0 0 0 true 0).wf ∧ live 0 h ∧ (pcSt h 0).granted = some (.drain 2 3) ∧ (pcSt h 0).wq = [oneWrite] ∧
     pBank oneWrite.phys = 0 ∧ pCol oneWrite.phys = 0 ∧ tfind (pcSt h 0).rows 0 = some (pRow oneWrite.phys)) := by decide +kernel

theorem test_witness_IssueAndAlert :
    (chSt upHw 0).alert = none ∧ (chSt (withCh 63 { alert := some (15, true) }) 63).alert.isSome ∧ upHw.inject.parity = none ∧ upHw.inject.write = none ∧
    burstFails oneWrite 0 = false ∧ burstFails oneWrite 1 = true := by decide +kernel

/-- The accepted read and write of a line: both kinds of condition of DieEffects. -/
theorem test_witness_DieEffects :
    readTarget (grantedTxn { granted := some (.xfer oneXfer 5), rows := [(0, 0)] }) 0 0 0 = some ({ idx := 0, line := 0 }, 0) ∧
    (chSt upHw (chOf (pPc oneWrite.phys))).failed = false := by decide +kernel

theorem test_witness_ChannelEventsComplete :
    (let full := setOwed upHw 127 (owedLimit upHw 127)
     (Instr.refreshDue 127).wf ∧ upHw.mode = .run ∧ live 127 upHw ∧ owed upHw 127 < owedLimit upHw 127 ∧
     full.mode = .run ∧ live 127 full ∧ owedLimit full 127 ≤ owed full 127) ∧
    (let h := withPc 127 { trr := [(0, 0, 0, true), (1, 0, 0, false)] }
     (Instr.trrEscalation 127).wf ∧ h.mode = .run ∧ (pcSt h 127).trr.findIdx (fun r => !r.2.2.2) < (pcSt h 127).trr.length) ∧
    (let h := withCh 63 { alert := some (15, true), fails := 3, retry := [(15, .prea 126)] }
     (Instr.alert 63 true).wf ∧ h.mode = .run ∧ (chSt h 63).alert = some (15, true) ∧ (chSt h 63).fails < 4 ∧ (Instr.resync 63).wf) ∧
    ((Instr.retryBufferRelease 63).wf ∧ (chSt upHw 63).alert = none) ∧
    (let h := withCh 63 { alert := some (0, false), retry := [(15, .prea 126), (0, .prea 127)] }
     (chSt h 63).alert = some (0, false) ∧ (chSt h 63).retry.head? = some (15, .prea 126)) := by decide +kernel

theorem test_witness_ChannelEventsComplete_limits :
    (∀ r ∈ [false, true], let h := withCh 63 { alert := some (0, false), fails := 4, retrained := r }
     (Instr.replayLimit 63 [] true).wf ∧ h.mode = .run ∧ (chSt h 63).alert.isSome ∧ 4 ≤ (chSt h 63).fails ∧ (chSt h 63).retrained = r ∧
     gear h 7 ≠ 2 ∧ gear (setObj h 0x5010 1 7 2) 7 = 2) ∧
    (let h := withPc 126 { granted := some (.retrain false) }
     (Instr.retrainingWindow 63 [⟨11, 63, 100, 50⟩]).wf ∧ awake h ∧ dieOn h 15 ∧ (trkSt h 7).change = none ∧ windowGranted h 63 ∧
     windowGranted upHw 63 = false ∧ (chSt upHw 63).retrain = false ∧
     (let k := withCh 63 { retrain := true }; windowGranted k 63 = false ∧ (chSt k 63).retrain)) ∧
    (let h := withCh 63 { retrain := true }
     (Instr.retrainingWindowEscalation 63).wf ∧ awake h ∧ (chSt h 63).retrain) ∧
    (let h := setTrk upHw 7 { powerGear := 2 }
     (Instr.gearChange 7).wf ∧ awake h ∧ (∀ k < 8, (trkSt h k).change = none) ∧ gearReady h 7 ∧ (∀ k < 7, gearReady h k = false)) ∧
    (let h := setTrk upHw 7 { change := some (2, 0) }
     (Instr.gearChangeComplete 7 (List.replicate 8 [])).wf ∧ awake h ∧ (trkSt h 7).change = some (2, 0)) ∧
    (let h := setDieState upHw 15 2
     (Instr.selfRefreshRateStep 15 0).wf ∧ dieState h 15 = 2) ∧
    (let h := withPc 127 { prio := [(15, 66560 * 16 - 1)], granted := some .scrub }
     (Instr.priorityScrubLine 127).wf ∧ h.mode = .run ∧ live 127 h ∧ (chSt h 63).alert = none ∧ (pcSt h 127).prio = [(15, 66560 * 16 - 1)] ∧ (pcSt h 127).granted = some .scrub) ∧
    (let h := setDieState upHw 15 1
     (Instr.arrayResetComplete 15 (List.replicate 4 [])).wf ∧ h.mode = .run ∧ dieState h 15 = 1) := by decide +kernel

theorem test_witness_IntegrityEventsComplete :
    (let e : Correction := { phys := 0, data := 0, poison := false }
     let h := withCh 0 { corr := [e] }
     let k := withCh 0 { corr := [{ e with stale := true }] }
     (Instr.writeBack 0).wf ∧ awake h ∧ (chSt h 0).corr = [e] ∧ e.stale = false ∧ wqFind h e.phys = none ∧ (pcSt h (pPc e.phys)).wq.length < 32 ∧
     awake k ∧ (chSt k 0).corr = [{ e with stale := true }]) ∧
    ((Instr.patrolScrubRow 0 [(15, 1)]).wf ∧ patrolDue upHw 0 ∧ (chSt upHw 0).alert = none ∧ slotState (setSlot upHw 0 0 .retired) 0 0 = .retired ∧ slotState (setSlot upHw 0 0 .parked) 0 0 = .parked ∧
      slotState upHw 0 0 ≠ .retired ∧ slotState upHw 0 0 ≠ .parked ∧ (pcSt (withPc 0 { granted := some .scrub }) 0).granted = some .scrub) ∧
    (let h := { upHw with chans := { hard := [(0, 71)] } }
     (Instr.hardErrorCheck 0 0).wf ∧ patrolRuns h 0 ∧ (chSt h 0).alert = none ∧ h.chans.hard.find? (fun e => pPc e.1 == 0) = some (0, 71) ∧ wqFind h 0 = none) ∧
    ((Instr.scrubLate 127).wf ∧ patrolRuns upHw 127 ∧ (pcSt upHw 127).late = false) := by decide +kernel


/-! Witnesses: placement. -/

/-- A move of parcel 8, which lies in slot 1 of track 1, to slot 262,144 of track 2. -/
def aMove (copied : Bool) : Move := { parcel := 8, srcTrack := 1, srcSlot := 1, dstTrack := 2, dstSlot := 262144, prio := 2, copied := copied }
def withMove (m : Move) : Hw := setMoves upHw [m]
def withPlace (p : Place) : Hw := { upHw with place := p }

theorem test_witness_PlacementEventsComplete :
    (let h := withPlace { journal := [.released 0 1] }
     awake h ∧ h.place.journal = [.released 0 1]) ∧
    (let h := setObj upHw 0x4000 1 0 3
     awake h ∧ obj h 0x4000 1 = 3) ∧
    (let h := setObj (withPlace { slots := [(slotKey 1 5, .freeDirty)] }) 0x4030 1 0 65535
     (Instr.slotZeroing 1).wf ∧ placing h ∧ trackOn h 1 ∧ trackParked h 1 = false ∧ zeroedSlots h 1 < obj h 0x4030 1 ∧
     lowestSlot h 1 .freeDirty none = some 5) ∧
    (let h := withPlace { waits := [2097151] }
     awake h ∧ h.place.waits = [2097151]) ∧
    (let h := { setObj upHw 0x4000 3 0 0 with clock := { now := 65535000000 } }
     placing h ∧ obj h 0x4000 1 = 0 ∧ h.boot.readyAt + ms (obj h 0x4000 2) ≤ now h ∧ obj h 0x4000 3 ≤ obj h 0x4000 4 ∧
     h.place.queue = [] ∧ h.place.moves = []) ∧
    placing upHw ∧
    (let r : MoveReq := { parcel := 8, prio := 2, track := none, retire := none }
     let h := begin (setObj (withPlace { queue := [r] }) 0x4000 1 0 1)
     placing h ∧ grey h = false ∧ h.place.queue.filter (moot h) = [] ∧ h.place.waitsEpoch = false ∧ h.place.moves.length < obj h 0x4010 2 ∧
     (let h := setPlace h { h.place with queue := h.place.queue.map (deferMove h) }
      firstReq h = some r ∧ (destination h r).isSome)) := by decide +kernel

theorem test_witness_PlacementEventsComplete_moves :
    (let m := aMove false
     let h := withMove m
     (Instr.moveCopyDone 8 true).wf ∧ awake h ∧ moveOf h 8 = some m ∧ m.copied = false ∧ trackOn h m.srcTrack ∧ trackOn h m.dstTrack ∧
     copyFails h m true (List.range 1024) ∧ copyFails h m false (List.range 1024) = false) ∧
    (let m := { aMove true with dirty := 2 ^ 1024 - 1 }
     let h := withMove m
     (Instr.moveRecopyPass 8 true).wf ∧ awake h ∧ moveOf h 8 = some m ∧ m.copied ∧ recopied h m = false ∧ trackOn h m.srcTrack ∧ trackOn h m.dstTrack ∧
     copyFails h m true (dirtyLines m) ∧ copyFails h m false (dirtyLines m) = false) ∧
    (let m := aMove true
     let p := pPc (physLine 1 1 0)
     let q := { oneTxn (.atom false 0 false 0 1 0) with line := 8192, track := 1 }
     let k : Chans := { pcs := [(p, { wq := (List.range 32).map (fun i => { phys := physLine 1 9 i, data := 0, poison := false }) })], txns := [(0, q)], nextTxn := 1 }
     let full := setCh { withMove m with chans := k } (chOf p) { rmw := [.host 0 8192] }
     (Instr.moveSwap 8 true).wf ∧
     (∀ h ∈ [withMove m, full], awake h ∧ moveOf h 8 = some m ∧ m.copied ∧ recopied h m ∧ trackOn h m.srcTrack ∧ trackOn h m.dstTrack ∧
       (∀ e < 32, (engine h e).locks = []) ∧ moveOf (finishIssued m (coreOf (stackOf h))).hw 8 = some m) ∧
     unitLines (finishIssued m (coreOf (stackOf full))).hw 1 8 ≠ [] ∧
     (let h := (finishIssued m (coreOf (stackOf (withMove m)))).hw
      unitLines h 1 8 = [] ∧ copyFails h m true (dirtyLines m) ∧ copyFails h m false (dirtyLines m) = false)) ∧
    (let m := aMove true
     let h := withMove m
     (Instr.moveProgressTimeout 8).wf ∧ awake h ∧ moveOf h 8 = some m ∧ ∀ d ∈ [2, 3, 4, 5], dieState h d ≠ 1) ∧
    (let h := setObj (setObj (setObj (setObj upHw 0x4011 3 7 0) 0x7030 1 0 2) 0x4030 2 0 0) 0x4011 6 7 1
     (Instr.trackGate 7).wf ∧ placing h ∧ compacts h 7 ∧ obj h 0x4011 3 7 = 0 ∧ trackOn h 7 ∧ resetPending h 14 = false ∧ resetPending h 15 = false ∧
     h.place.moves = []) ∧
    (let h := setObj (setObj upHw 0x4011 5 7 1) 0x7030 1 0 0
     (Instr.trackUnpark 7).wf ∧ placing h ∧ trackParked h 7 ∧ unparkingCalled h ∧ h.place.unparking.contains 7 = false ∧ h.test.testDie = none) ∧
    (let h := withPlace { unparking := [7] }
     (Instr.trackUnparkComplete 7).wf ∧ awake h ∧ h.place.unparking.contains 7) := by decide +kernel

/-- The widest value of every field; the last parcel, slot and line; both sides of slot 262,144. -/
theorem test_witness_RouteEntryFields : entryOf 7 (2 ^ 19 - 1) 3 true true < 2 ^ 32 ∧ entSlot (entryOf 7 (2 ^ 19 - 1) 0 false false) = 2 ^ 19 - 1 := by decide
theorem test_witness_StaticAssignmentFillsEveryTrack : 2097151 < parcels ∧ entTrack (staticEntry 2097151) = 0 ∧ entSlot (staticEntry 2097151) = 16 * 16383 + 0 := by decide
theorem test_witness_SlotGeometry :
    (7 < 8 ∧ 266239 < slotsPerTrack ∧ pRow (physLine 7 266239 1023) = 66559) ∧ pRow (physLine 0 262143 1023) = 65535 ∧ pRow (physLine 0 262144 0) = 65536 := by decide
theorem test_witness_ZeroedSlotReadsZero : 72 * 1 ≤ 72 ∧ 72 < 72 * (1 + 1) ∧ 71 < 72 * 1 ∧ 72 * (1 + 1) ≤ 144 := by decide

/-! Witnesses: jobs. -/

/-- A descriptor of a type with three windows of one line each, W1 and W2 writable, and arguments that every type takes. -/
def descOf (op : Nat) : List Byte :=
  leBytes 64 (op + 2 ^ 96 + 2 ^ 128 + 2 ^ 159 + 2 ^ 160 + 2 * 2 ^ 192 + 2 ^ 223 + 2 ^ 224 + 2 ^ 256 + 4 * 2 ^ 320 + 4 * 2 ^ 384)

def withDesc (b : List Byte) : Hw := setPort (setObj (linkIn 4) 0x6102 0 0 0) 0 { job := [b] }

theorem test_witness_DescriptorsAreAdmitted :
    ∀ op ∈ span 1 10, let h := withDesc (descOf op)
      takesJobs h ∧ grey h = false ∧ (port h 0).job = [descOf op] ∧ descOf op ≠ [] ∧ goodDesc (parseDesc (descOf op)) ∧ obj h 0x6001 0 < 256 ∧
      (parseDesc (descOf op)).opcode = op ∧ obj h 0x6102 (parseDesc (descOf op)).kernel ≠ 0xFF ∧ (Instr.copy 0).wf ∧ (Instr.kernel 0).wf := by decide +kernel

/-- Job 0 of port 0 with id 1, of a type, and its one part, on engine 0. -/
def aPart : Part := { track := 0, home := true, parcels := [0], lines := 1, engine := some 0, running := true }
def awayPart : Part := { aPart with home := false }
def aJob (op : Nat) (st : Option Nat) (p : Part) : Job :=
  { port := 0, desc := { opcode := op, cls := 0, jobId := 1, cmode := 1, w0 := { base := 0, len := 1 } }, admitted := 0, homeTrack := 0, parts := [p], status := st }
def withJob (q : Job) (g : Engine) : Hw := { linkIn 4 with jobs := { jobs := [(0, q)], nextJob := 1, engines := [(0, g)] } }

theorem test_witness_AbortCompletes :
    let b := descOf 15
    let h := fun (st : Option Nat) => setPort (withJob (aJob 1 st aPart) {}) 0 { job := [b] }
    let due := { withDesc b with jobs := { aborts := [(0, 6)] } }
    let credit := fun (h : Hw) => setObj (setPort h 0 { port h 0 with nextSeq := 0 }) 0x3011 0 0 64
    (Instr.abort 0).wf ∧ b ≠ [] ∧ (parseDesc b).opcode = 15 ∧ goodDesc (parseDesc b) ∧
    (takesJobs (withDesc b) ∧ grey (withDesc b) = false ∧ (port (withDesc b) 0).job = [b] ∧ tfind (withDesc b).jobs.aborts 0 = none ∧ jobNamed (withDesc b) 0 ((parseDesc b).arg0 % 65536) = none) ∧
    (takesJobs due ∧ grey due = false ∧ (port due 0).job = [b] ∧ tfind due.jobs.aborts 0 = some 6) ∧
    (∀ st ∈ [none, some 5], ∀ g ∈ [h st, credit (h st)], takesJobs g ∧ grey g = false ∧ (port g 0).job = [b] ∧ tfind g.jobs.aborts 0 = none ∧
      jobNamed g 0 ((parseDesc b).arg0 % 65536) = some 0 ∧ jobAt g 0 = some (aJob 1 st aPart)) ∧
    (∀ st ∈ [none, some 5], ∀ x ∈ [(h st, false), (credit (h st), true)],
      let q := aJob 1 st aPart
      let a := if st = none then 0 else 6
      let c := (coreOf (stackOf x.1)).onHw (fun h => onJob h 0 (fun q => { q with abort := some a }))
      let c := if st = none then c.onHw (fun h => endJob h 0 5 (noResult { q with abort := some a })) else c
      ∃ k ∈ jobAt c.hw 0, (tryComplete 0 k c).2 = x.2) := by decide +kernel

/-- A COPY whose windows share a line: without a record; with one that can be written, and one whose die is in reset. -/
theorem test_witness_MalformedDescriptorIsRefused :
    let b := leBytes 64 (1 + 2 ^ 96 + 2 ^ 159 + 2 ^ 160)
    let r := leBytes 64 (1 + 2 * 2 ^ 48 + 2 ^ 96 + 2 ^ 159 + 2 ^ 160)
    let busy := setDieState (withDesc r) 0 1
    (Instr.copy 0).wf ∧
    (∀ x ∈ [(withDesc b, b), (withDesc r, r), (busy, r)], takesJobs x.1 ∧ grey x.1 = false ∧ (port x.1 0).job = [x.2] ∧ x.2 ≠ [] ∧
      (parseDesc x.2).opcode = 1 ∧ goodDesc (parseDesc x.2) = false) ∧
    sendsRecord (parseDesc b) = false ∧ sendsRecord (parseDesc r) ∧ (recordReady (coreOf (stackOf (withDesc r))) (slotless 0 (parseDesc r))).2 ∧
    (recordReady (coreOf (stackOf busy)) (slotless 0 (parseDesc r))).2 = false := by decide +kernel

theorem test_witness_JobEventsComplete :
    (let h := withJob (aJob 8 none aPart) { queue := [(0, 0)] }
     (Instr.partStart 0).wf ∧ awake h ∧ (engine h 0).part = none ∧ engState h 0 = 0 ∧ domainState h (engDomain 0) = 0 ∧
     nextPart h (engine h 0).queue = some (0, 0) ∧ jobAt h 0 = some (aJob 8 none aPart)) ∧
    ((Instr.engineDomainOn 7).wf ∧ upHw.mode = .run ∧ obj upHw 0x7000 1 ≤ 1) ∧
    (∀ op ∈ [1, 2, 3, 4, 5, 8, 10],
      let h := withJob (aJob op none aPart) { part := some (0, 0), asking := some 0 }
      (Instr.commitGrant 0).wf ∧ awake h ∧ Machine.running h 0 = some (0, 0, aJob op none aPart, aPart) ∧ (engine h 0).asking = some 0 ∧
      (op = 5 → combines op ∧ aPart.home) ∧ windowsUp h (aJob op none aPart).desc) ∧
    (∀ st ∈ [0, 5], let q := aJob 1 (some st) aPart
      let h := withJob q {}
      let h := setObj (setPort h 0 { port h 0 with nextSeq := 0 }) 0x3011 0 0 64
      (Instr.jobComplete 0 1).wf ∧ awake h ∧
      h.jobs.jobs.find? (fun e => e.2.port == 0 && e.2.desc.jobId == 1 && e.2.status.isSome) = some (0, q) ∧ q.status = some st ∧
      (sendsJcpl q st = true → canSend h 0 (completion q st)) ∧ (recordReady (coreOf (stackOf h)) q).2) := by decide +kernel

theorem test_witness_JobEventsComplete_partial :
    ∀ op ∈ [5, 9],
     let h := withJob (aJob op none awayPart) { part := some (0, 0) }
     (Instr.partialResult 0).wf ∧ awake h ∧ Machine.running h 0 = some (0, 0, aJob op none awayPart, awayPart) ∧ combines op ∧
     windowsUp h (aJob op none awayPart).desc := by decide +kernel

theorem test_witness_JobEventsComplete_limits :
    (let q := aJob 1 none aPart
     let h := withJob q { part := some (0, 0) }
     (Instr.speculativeRead 0 0).wf ∧ awake h ∧ Machine.running h 0 = some (0, 0, q, aPart) ∧ q.desc.nospec = false ∧ flag h 0x6030 1 ∧
     (stream (engine h 0) 0).ahead.length < obj h 0x6030 2 ∧ builtinAhead q.desc aPart 0 (stream (engine h 0) 0).ahead.length = some (0, 0)) ∧
    ((Instr.engineFault 31).wf ∧ awake upHw ∧ engState upHw 31 ≤ 1) ∧
    (let h := withJob (aJob 10 none aPart) { part := some (0, 0) }
     (Instr.engineWatchdog 0).wf ∧ awake h ∧ engState h 0 ≤ 1 ∧ (engine h 0).part.isSome) ∧
    (let h := setEngState upHw 31 4
     (Instr.engineBackInService 31).wf ∧ h.mode = .run ∧ engState h 31 = 4) ∧
    (let q := aJob 1 none aPart
     let h := setObj (withJob q { part := some (0, 0) }) 0x6000 3 0 1
     (Instr.jobTimeout 0 1).wf ∧ jobNamed h 0 1 = some 0 ∧ jobAt h 0 = some q ∧ obj h 0x6000 3 ≠ 0 ∧ q.committed = false ∧ q.status = none) ∧
    (let q := aJob 10 none aPart
     let h := { upHw with jobs := { jobs := [(0, q), (1, q)], nextJob := 2, engines := [(0, { part := some (0, 0), wait := some (0, 0) }), (1, { part := some (1, 0), locks := [0] })] } }
     (Instr.lockWaitTimeout 0).wf ∧ (engine h 0).wait = some (0, 0) ∧ (engine h 0).part = some (0, 0) ∧ lockedBy h 0 0 = some 1 ∧
     (engine h 1).part = some (1, 0) ∧ jobAt h (if older h 0 1 then 1 else 0) = some q) := by decide +kernel

/-- A kernel's stream reads ahead the first offset of its sequence that is not in the buffer. -/
theorem test_kernel_ahead :
    let s : Stream := { opened := true, next := 4, stride := 2, ahead := [⟨4, 4, 0, false⟩, ⟨8, 8, 0, false⟩] }
    kernelAhead { (aJob 10 none aPart).desc with w0 := { base := 0, len := 16 } } s 4 = some (6, 6) ∧
    kernelAhead { (aJob 10 none aPart).desc with w0 := { base := 0, len := 16 } } { s with ahead := ⟨6, 6, 0, false⟩ :: s.ahead } 3 = none := by decide

theorem test_witness_CompletedJobIsGone :
    (let q := aJob 1 (some 0) aPart
     q.port < 4 ∧ jobAt (withJob q {}) 0 = some q ∧ q.status = some 0 ∧ q.desc.cmode < 2 ∧ sendsJcpl q 0 = false) ∧
    (aJob 1 (some 255) aPart).desc.jobId < 65536 := by decide


/-! Witnesses: power and sleep. -/

def sleeping (q : Sleep) : Hw := { upHw with power := { sleep := some q } }

theorem test_witness_PowerEventsComplete :
    (∀ rail ∈ [0, 1], (Instr.regulatorFault rail 7).wf ∧ upHw.mode ≠ .held ∧
      (if rail = 1 then (railsUp upHw).power.vppUp else (railsUp upHw).power.vddqcUp) = true) ∧
    ((Instr.clockCheck false true 0).wf ∧ thmOn upHw ∧ upHw.power.xckStopped = false ∧ pllRuns upHw ∧ pllRuns (setObj upHw 0x7000 1 0 2) = false) ∧
    ({ upHw with power := { xckStopped := true } }).power.xckStopped ∧
    (obj upHw 0x7000 1 = 0 ∧ upHw.power.sleep = none ∧ activity upHw = false) ∧
    ((Instr.engineGate 7).wf ∧ upHw.mode = .run ∧ obj upHw 0x7000 1 ≤ 1 ∧
      (span 28 4).all (fun e => (engine upHw e).part.isNone && (engine upHw e).queue.isEmpty) ∧ domainState upHw (engDomain 7) = 0) ∧
    (let h := setObj upHw 0x7000 1 0 1; h.mode = .run ∧ obj h 0x7000 1 = 1) ∧
    (let h := setObj upHw 0x7030 1 0 1; h.mode = .run ∧ obj h 0x7000 1 = 0 ∧ obj h 0x7030 1 = 1) ∧
    ((Instr.powerMeasurement (List.replicate 5 0) (List.replicate 5 0) (List.replicate 8 0) (List.replicate 8 0)).wf ∧ thmOn upHw ∧ thmOn { mode := .trip }) ∧
    upHw.mode ≠ .off := by decide +kernel

theorem test_witness_CapActsOnce :
    obj upHw 0x7020 5 < powerScale upHw ∧ obj upHw 0x7020 1 * 65536 < obj upHw 0x7020 1 * 65536 + 1 ∧
    (0 < (obj upHw 0x7020 1 - obj upHw 0x7020 2) * 65536 ∧ ({ upHw with power := { below := 8 } }).power.below < 9) ∧
    ({ upHw with power := { actions := [.engines, .scale] } }).power.actions = [.engines, .scale] := by decide

theorem test_witness_SleepEventsComplete :
    (let h := setObj (setObj upHw 0x7000 1 0 1) 0x7000 4 0 1
     sleepable h ∧ obj h 0x7000 1 = 1 ∧ obj h 0x7000 4 ≠ 0 ∧ grey h = false) ∧
    (let q : Sleep := { path := none, start := 0 }
     let k := setDieState (sleeping q) 15 1
     (Instr.sleepVoteTimeout 7).wf ∧ (Instr.sleepStopStep (some 63)).wf ∧ (sleeping q).power.sleep = some q ∧ q.stopping = false ∧
     refusing (sleeping q) = [] ∧ dctDefers (sleeping q) = false ∧ k.power.sleep = some q ∧ refusing k = [] ∧ dctDefers k) ∧
    (let q : Sleep := { path := none, start := 0 }
     refusing { withReq [.fence 0 false] with power := { sleep := some q } } ≠ []) ∧
    (let q : Sleep := { path := none, start := 0, stopping := true, stopped := 4 }
     (sleeping q).power.sleep = some q ∧ q.stopping ∧ (span 16 8).any (inService (sleeping q))) ∧
    (Instr.wake0 true).wf ∧ (Instr.wake1 false).wf ∧ flag (setObj upHw 0x7010 2 0 1) 0x7010 2 ∧ flag (setObj upHw 0x7010 3 0 0) 0x7010 3 = false := by decide +kernel

theorem test_witness_WakeEventBeginsWake :
    let h := setObj upHw 0x7000 1 0 2
    h.mode = .run ∧ h.power.sleep = none ∧ obj h 0x7000 1 = 2 ∧ bitAt (obj h 0x7010 1) 0 ∧ bitAt (obj h 0x7010 1) 4 ∧
    bitAt (obj (setObj h 0x7010 1 0 0) 0x7010 1) 0 = false := by decide

/-! Witnesses: temperature, trips, reset and start. -/

/-- Thermal records of every die: unit conductances, `idle` mW of idle power, nothing for activations and lines. -/
def withThermal (idle : Nat) (h : Hw) : Hw := { h with test := { h.test with calib := (List.range 16).map (fun d => (256 * 3 + d, [65537, 65536 * idle, 0])) } }

/-- With 210 mW the estimate of a die is 105.00 °C: 0 °C and 210 mW over 2 mW/°C. -/
theorem test_witness_ThermalAndTripEventsComplete :
    (∀ m ∈ [Mode.run, .trip, .dramOff], (Instr.sensorSample [(0, 0), (155, 0)]).wf ∧ thmOn { mode := m } ∧ ({ mode := m } : Hw).power.xckStopped = false) ∧
    ((Instr.sensorFailed 155).wf ∧ readable upHw 155 ∧ disagrees upHw 155 = false ∧
      (let h := setObj upHw 0x7800 155 0 (ofSigned 16 (degC (obj upHw 0x7820 4) + 1)); thmOn h ∧ h.power.xckStopped = false ∧ readable h 155 ∧ disagrees h 155) ∧
      disagrees (setObj upHw 0x7800 155 0 (ofSigned 16 (degC (obj upHw 0x7820 4)))) 155 = false) ∧
    (let h := withThermal 0 upHw
     awake h ∧ h.faults.restarting = false ∧ h.power.xckStopped = false ∧ hotDies ((List.range 16).foldl evaluateDie (begin h)) = []) ∧
    (let h := setObj (withThermal 210 upHw) 0x7821 1 15 1
     awake h ∧ h.faults.restarting = false ∧ h.power.xckStopped = false ∧ hotDies ((List.range 16).foldl evaluateDie (begin h)) = [15]) ∧
    (let h := setObj upHw 0x7810 2 0 (ofSigned 16 (degC 100))
     (Instr.gearCeilingStep 0).wf ∧ degC 100 ≤ trackTemp h 0 ∧ obj h 0x7810 4 0 = 3 ∧ obj (setObj h 0x7810 4 0 1) 0x7810 4 0 < 2) ∧
    (∀ c ∈ [1, 2], let h := setObj upHw 0x7810 4 7 c
     (Instr.gearCeilingStep 7).wf ∧ thmOn h ∧ trackTemp h 7 < degC 100 ∧ band h 14 ≠ 2 ∧ band h 15 ≠ 2 ∧ obj h 0x7810 4 7 = c) := by decide +kernel

theorem test_witness_ThermalAndTripEventsComplete_trip :
    (let h := setObj (setObj upHw 0x7860 2 0 (ofSigned 16 (degC 90))) 0x7860 3 0 (ofSigned 16 (degC 90))
     h.mode = .run ∧ h.therm.warm1 = false ∧ tempObj h 0x7860 4 0 < outletRise h 1 ∧ h.therm.warm2 = false ∧ tempObj h 0x7860 4 0 < outletRise h 2) ∧
    ((Instr.tripComparator 151).wf ∧ upHw.mode = .run) ∧
    ((Instr.secondStageTrip 127).wf ∧ ({ mode := .trip } : Hw).mode = .trip ∧ upHw.mode = .run) ∧
    (Instr.tripRestart (List.replicate 64 [⟨11, 63, 100, 50⟩])).wf ∧
    ((Instr.dramMonitorWindow [(0, 0)]).wf ∧ ({ mode := .dramOff } : Hw).mode = .dramOff ∧ ({ mode := .dramOff } : Hw).power.xckStopped = false) ∧
    (∀ m ∈ [Mode.trip, Mode.dramOff], ∀ v ∈ [true, false], allCool { mode := m, image := { valid := v } }) := by decide +kernel

theorem test_witness_TripTakesEffect :
    (coreOf (stackOf upHw)).hw.mode = .run ∧ (coreOf (stackOf { mode := .stopping })).hw.mode = .stopping ∧ (coreOf State.reset).hw.mode = .held ∧
    (let h := setObj { mode := .off } 0xC010 2 0 4; h.mode = .off ∧ obj h 0xC010 2 = 4) := by decide

theorem test_witness_BandsHaveHysteresis :
    degC 95 < degC 95 + 1 ∧ degC 93 < degC 95 ∧ degC 93 < degC 93 + 1 ∧ degC 85 < degC 93 ∧ degC 83 < degC 85 ∧ nextBand (degC 83) 2 = 0 ∧
    nextBand (degC 95) 2 = 2 ∧ nextBand (degC 95) 0 = 1 ∧ nextBand (degC 93) 2 = 1 ∧ nextBand (degC 85) 0 = 0 ∧ nextBand (degC 85) 2 = 1 := by decide

theorem test_witness_StartEventsComplete :
    upHw.mode ≠ .held ∧
    ((Instr.resetNRelease 31 [0]).wf ∧ State.reset.hw.mode = .held) ∧
    (let h : Hw := { mode := .powerUp }
     (Instr.endOfPowerUp []).wf ∧ h.mode = .powerUp ∧ h.test.window = false ∧ obj h 0x7880 1 ≠ 3 ∧ obj (setObj h 0x7880 1 0 3) 0x7880 1 = 3) ∧
    (upHw.mode ≠ .held ∧ upHw.mode ≠ .off) ∧
    (let h : Hw := { mode := .stopping }
     h.mode = .stopping ∧ h.boot.shutdownBist = false) := by decide

/-! Witnesses: faults, fuses, test, Ouvend. -/

theorem test_witness_FaultAndTestEventsComplete :
    (upHw.mode = .run ∧ upHw.faults.ballLow = false) ∧
    ({ upHw with faults := { ballLow := true } }).faults.ballLow ∧
    ((Instr.beacon (2 ^ 64 - 1)).wf ∧ aoOn upHw) ∧
    stewardsRun upHw ∧
    ({ upHw with faults := { restarting := true } }).faults.restarting ∧
    (let h := { upHw with test := { applyPaths := [4, 0] } }
     h.test.applyPaths = [4, 0] ∧ quiescent h) ∧
    (let h := { upHw with test := { testDie := some 15, testPath := some 0 } }
     (Instr.arrayTestComplete 0).wf ∧ h.test.testDie = some 15 ∧ h.test.testPath = some 0) ∧
    (let h := setObj upHw 0xB010 2 0 1
     (Instr.bistComplete [] [] (List.replicate 20 7)).wf ∧ obj h 0xB010 2 = 1) ∧
    obj (setObj upHw 0x1010 1 0 1) 0x1010 1 = 1 := by decide +kernel

theorem test_witness_BeaconSteps :
    let h := setObj upHw 0x9030 1 0 1
    flag h 0x9030 1 ∧ (obj h 0x9030 3 : Int) < ((obj h 0x9030 3 + 1 : Nat) : Int) + obj h 0x9030 2 - now h ∧ ((0 : Nat) : Int) + obj h 0x9030 2 - now h ≤ obj h 0x9030 3 := by decide

theorem test_witness_TestAccessPort :
    (Instr.samplePreload 0).wf ∧ (Instr.extest 1).wf ∧ (Instr.clamp 0).wf ∧ (Instr.internalScan 0x8F).wf ∧ (Instr.bypass 255).wf ∧
    State.reset.hw.mode = .held ∧ upHw.mode ≠ .held ∧ State.reset.hw.test.tapInstr = 1 := by decide

theorem test_witness_OuvendEventsComplete :
    (let h := { upHw with boot := { strap := 31 } }
     let k := setPath h 0 { held := some [0#8] }
     (Instr.poll 31).wf ∧ ovbHears h ∧ toStrap h 31 ∧ (path h 0).held = none ∧ ovbHears k ∧ toStrap k 31 ∧ (path k 0).held = some [0#8]) ∧
    (let h := { upHw with dict := { reception := some 50 } }
     (Instr.preambleDetect 100 true 90).wf ∧ ovbHears h ∧ h.dict.reception = some 50 ∧ 2 * 50 ≤ 100 ∧ 99 < 2 * 50) ∧
    (let h := { upHw with dict := { search := true } }
     (Instr.preambleDetect 100 true 0).wf ∧ ovbHears h ∧ h.dict.reception = none ∧ h.dict.search) ∧
    ((Instr.preambleDetect 100 false 0).wf ∧ ovbHears upHw ∧ upHw.dict.reception = none ∧ upHw.dict.search = false) ∧
    ((Instr.ouvendFrameError [0#8, 0#8, 0#8, 0#8, 0#8, 0#8, 0#8, 0#8]).wf ∧ frameCrcOk [0#8, 0#8, 0#8, 0#8, 0#8, 0#8, 0#8, 0#8] = false) ∧
    (let q : PendingOp := { body := { op := 3, tag := 1, index := 0, sub := 0 }, final := some [0#8] }
     let h := setPath upHw 0 { pending := some q }
     (path h 0).pending = some q ∧ q.final = some [0#8]) ∧
    (let h := setObj upHw 0x7000 1 0 4
     (Instr.wakeComplete [(2047, 31, 1)]).wf ∧ h.mode = .run ∧ obj h 0x7000 1 = 4) := by decide +kernel


/-! Witnesses: the dictionary. An operation over Ouvend to a stack at address 5; what it finds is decided by `taken`. -/

def at5 : Hw := { upHw with boot := { strap := 5 } }
def heard (g : Hw) (b : OpBody) : Hw :=
  let h := bump (frameEnd (begin g)) 0x1040 1
  let h := setPath h 0 { path h 0 with lastTag := b.tag, held := none }
  if b.op = 3 ∧ b.index = 0x7000 ∧ b.sub = 3 ∧ g.power.sleep.isSome = true then h else wakeEvent 3 5 h
def reaches (h : Hw) (b : OpBody) : Bool :=
  ovbHears h && toStrap h 5 && !(h.mode == .trip) && !(h.mode == .dramOff) && !asleep (heard h b)
def taken (h : Hw) (b : OpBody) : Bool :=
  let k := heard h b
  reaches h b && !k.faults.restarting && !malformed b && (path k 0).pending.isNone && (recorded k 0 b).isNone && (refusal k 0 b).isNone && !(k.mode == .off)

theorem served_of_reaches {h : Hw} {b : OpBody} (hk : reaches h b = true) : Served (stackOf h) (.ouvend 5 b) 0 b (heard h b) := by
  simp [reaches] at hk
  obtain ⟨⟨⟨⟨h1, h2⟩, h3⟩, h4⟩, h5⟩ := hk
  exact ⟨rfl, rfl, h1, h2, h3, h4, h5, rfl⟩

theorem takes_of_taken {h : Hw} {b : OpBody} (hk : taken h b = true) :
    Takes (stackOf h) (.ouvend 5 b) 0 b (heard h b) ∧ (heard h b).mode ≠ .off := by
  simp [taken] at hk
  obtain ⟨⟨⟨⟨⟨⟨h1, h2⟩, h3⟩, h4⟩, h5⟩, h6⟩, h7⟩ := hk
  exact ⟨⟨served_of_reaches h1, ⟨h2, h3, h4, h5⟩, h6⟩, h7⟩

def getOf (idx sub : Nat) (sel : Nat := 0) (off : Nat := 0) : OpBody := { op := 1, tag := 1, index := idx, sub := sub, selector := sel, offset := off }
def setOf (idx sub : Nat) (data : List Byte) (sel : Nat := 0) : OpBody := { op := 2, tag := 1, index := idx, sub := sub, selector := sel, data := data }
def cmdOf (idx sub : Nat) (data : List Byte := []) (sel : Nat := 0) : OpBody := { op := 3, tag := 1, index := idx, sub := sub, selector := sel, data := data }

/-- An operation of port 0's MGT buffer: its body's 16 bytes of header spell GET 0x1000:03. -/
theorem test_witness_Served_mgt :
    let body := [1#8, 0#8, 1#8, 0#8, 0#8, 16#8, 3#8, 0#8] ++ List.replicate 8 0#8
    let h := setPort (linkIn 4) 0 { mgt := [body] }
    (port h 0).mgt = [body] ∧ parseBody body = getOf 0x1000 3 ∧ mgtTaken h ∧ sleepAnswerDue h = false ∧ (path h 1).pending = none := by decide +kernel

theorem test_witness_DictionaryOperationsComplete :
    (∀ x ∈ [(0x7020, 1), (0xA003, 2)], taken at5 (getOf x.1 x.2) ∧ (rowAt x.1 x.2).isSome ∧ segmented x.1 x.2 = false) ∧
    (let h := setObj at5 0x7030 5 0 1
     let b := getOf 0xB200 2
     taken h b ∧ segmented b.index b.sub ∧ ∃ r ∈ rowAt b.index b.sub, (readBytes (coreOf (stackOf (heard h b))) 0 r b.sub b.selector false).isSome) ∧
    (let b := getOf 0x9020 2
     taken at5 b ∧ segmented b.index b.sub ∧ ∃ r ∈ rowAt b.index b.sub, readBytes (coreOf (stackOf (heard at5 b))) 0 r b.sub b.selector false = none) ∧
    (let b := getOf 0x5011 0 0x2000 37
     taken at5 b ∧ segmented b.index b.sub ∧ ∃ r ∈ rowAt b.index b.sub, (readBytes (coreOf (stackOf (heard at5 b))) 0 r b.sub b.selector false).isSome) ∧
    (let b := setOf 0x1010 6 [20#8, 0#8]
     taken at5 b ∧ (rowAt b.index b.sub).isSome ∧ segmented b.index b.sub = false) ∧
    (let h := setObj (setObj at5 0x1010 1 0 1) 0x1010 5 0 1
     let b := setOf 0x4050 3 [0#8, 0#8, 0#8, 0#8]
     taken h b ∧ segmented b.index b.sub ∧ ∃ r ∈ rowAt b.index b.sub,
       segment (heard h b) (segKey b.index b.sub 0) (segmentMax r) (segmentBase (heard h b) 0 b.index b.sub) b.offset b.data = some (some b.data) ∧
       (putBytes (coreOf (stackOf (heard h b))) 0 b.index b.sub b.data).isSome) ∧
    taken at5 { op := 4, tag := 1, index := 0, sub := 0, count := 15 } ∧ taken at5 { op := 5, tag := 1, index := 0x7020, sub := 1, count := 240 } := by decide +kernel

theorem test_witness_RefusedOperationDoesNothing :
    (let h := { at5 with faults := { restarting := true } }
     reaches h (getOf 0x1000 3) ∧ (heard h (getOf 0x1000 3)).faults.restarting) ∧
    (let b := { getOf 0x1000 3 with flags := 2 }
     reaches at5 b ∧ (heard at5 b).faults.restarting = false ∧ malformed b) ∧
    (let b := getOf 0x1000 3
     let h := setPath at5 0 { pending := some { body := b } }
     reaches h b ∧ (heard h b).faults.restarting = false ∧ malformed b = false ∧ (path (heard h b) 0).pending.isSome) ∧
    (let b := getOf 0x1000 3
     let h := setPath at5 0 { record := some { op := 1, tag := 1, index := 0x1000, sub := 3, selector := 0, offset := 0, answer := [0#8] } }
     reaches h b ∧ (heard h b).faults.restarting = false ∧ malformed b = false ∧ (path (heard h b) 0).pending = none ∧ recorded (heard h b) 0 b = some [0#8]) ∧
    (let b := getOf 0x1000 0xFF
     reaches at5 b ∧ (heard at5 b).faults.restarting = false ∧ malformed b = false ∧ (path (heard at5 b) 0).pending = none ∧ recorded (heard at5 b) 0 b = none ∧
     refusal (heard at5 b) 0 b = some { status := .noSuchObject, total := fixedTotal b }) := by decide +kernel

/-- After the end of a shutdown AO still hears: a SET and a command that no check refuses. -/
theorem test_witness_RefusedOperationDoesNothing_off :
    let h := setObj { at5 with mode := .off } 0xC010 2 0 4
    ∀ b ∈ [setOf 0x1010 6 [20#8, 0#8], cmdOf 0x9000 1], reaches h b ∧ (heard h b).faults.restarting = false ∧ malformed b = false ∧
      (path (heard h b) 0).pending = none ∧ recorded (heard h b) 0 b = none ∧ refusal (heard h b) 0 b = none ∧ (heard h b).mode = .off := by decide +kernel

/-- A LOADING session that Ouvend owns; the same with a shadow that a joint check refuses. -/
def loading : Hw := setObj (setObj at5 0x1010 1 0 1) 0x1010 5 0 1

theorem test_witness_SessionAndFaultCommandsComplete :
    (taken at5 (cmdOf 0x1010 2) ∧ (cmdOf 0x1010 2).names 3 0x1010 2 ∧ (Instr.beginLoading (.ouvend 5 (cmdOf 0x1010 2))).wf) ∧
    (taken loading (cmdOf 0x1010 3) ∧ commitFailure (heard loading (cmdOf 0x1010 3)) = none ∧ (Instr.commit (.ouvend 5 (cmdOf 0x1010 3))).wf) ∧
    (let h := { loading with dict := { blobShadows := [(0x405003, [0#8])] } }
     taken h (cmdOf 0x1010 3) ∧ (commitFailure (heard h (cmdOf 0x1010 3))).isSome) ∧
    (taken loading (cmdOf 0x1010 4) ∧ (Instr.discard (.ouvend 5 (cmdOf 0x1010 4))).wf) ∧
    (let n := obj (heard at5 (cmdOf 0x8000 9)) 0x8000 1 0
     taken at5 (cmdOf 0x8000 9) ∧ (Instr.force (.ouvend 5 (cmdOf 0x8000 9))).wf ∧ assigned n ∧ srcEnabled (heard at5 (cmdOf 0x8000 9)) n ∧
     taken at5 (cmdOf 0x8000 10) ∧ (Instr.clear (.ouvend 5 (cmdOf 0x8000 10))).wf ∧ srcActive (heard at5 (cmdOf 0x8000 10)) n = false ∧
     taken at5 (cmdOf 0x8000 11) ∧ (Instr.clearOccurrences (.ouvend 5 (cmdOf 0x8000 11))).wf) ∧
    (taken at5 (cmdOf 0x8001 4) ∧ (Instr.clearAllInactive (.ouvend 5 (cmdOf 0x8001 4))).wf) ∧
    (taken at5 (cmdOf 0x8012 4) ∧ (Instr.emptyFirstAndLastFault (.ouvend 5 (cmdOf 0x8012 4))).wf) ∧
    (taken at5 (cmdOf 0x8300 2) ∧ (Instr.enterGreyMode (.ouvend 5 (cmdOf 0x8300 2))).wf) ∧
    (let h := setObj at5 0x8300 1 0 1
     let k := heard h (cmdOf 0x8300 3)
     taken h (cmdOf 0x8300 3) ∧ (Instr.resume (.ouvend 5 (cmdOf 0x8300 3))).wf ∧ grey k ∧ integrityLatch k = false ∧ obj k 0x4000 1 ≠ 3) ∧
    (taken at5 (cmdOf 0x9000 1) ∧ (Instr.arm (.ouvend 5 (cmdOf 0x9000 1))).wf ∧ taken at5 (cmdOf 0x9000 8) ∧ (Instr.trigger (.ouvend 5 (cmdOf 0x9000 8))).wf) ∧
    (let h := setObj { at5 with faults := { snapTaken := true } } 0x9020 1 0 0x400001
     taken h (getOf 0x9020 2) ∧ (Instr.snapshotRead (.ouvend 5 (getOf 0x9020 2))).wf ∧ (snapAt (heard h (getOf 0x9020 2)) 0 0).isSome) := by decide +kernel

/-- The forms that answer another status: before step 11, an unassigned source, a source that holds, Grey mode that stays, no snapshot. -/
theorem test_witness_SessionAndFaultCommandsComplete_refused :
    (let h : Hw := { at5 with mode := .powerUp }
     taken h (cmdOf 0x1010 2) ∧ (heard h (cmdOf 0x1010 2)).mode = .powerUp ∧ (heard at5 (cmdOf 0x1010 2)).mode ≠ .powerUp) ∧
    (let h := setObj at5 0x8000 1 0 100
     taken h (cmdOf 0x8000 9) ∧ assigned (obj (heard h (cmdOf 0x8000 9)) 0x8000 1 0) = false) ∧
    (let h := setActive at5 (obj at5 0x8000 1 0) true
     taken h (cmdOf 0x8000 10) ∧ srcActive (heard h (cmdOf 0x8000 10)) (obj (heard h (cmdOf 0x8000 10)) 0x8000 1 0)) ∧
    (let h := setObj (setObj at5 0x8300 1 0 1) 0x4000 1 0 3
     taken h (cmdOf 0x8300 3) ∧ grey (heard h (cmdOf 0x8300 3)) ∧ obj (heard h (cmdOf 0x8300 3)) 0x4000 1 = 3 ∧
     taken at5 (cmdOf 0x8300 3) ∧ grey (heard at5 (cmdOf 0x8300 3)) = false) ∧
    (taken at5 (getOf 0x9020 2) ∧ snapAt (heard at5 (getOf 0x9020 2)) 0 0 = none) := by decide +kernel

theorem test_witness_TestCommandsComplete :
    (taken at5 (getOf 0xA003 2) ∧ (Instr.fuseWordRead (.ouvend 5 (getOf 0xA003 2))).wf ∧ taken at5 (getOf 0xA003 3) ∧
      (Instr.fuseWordStrictRead (.ouvend 5 (getOf 0xA003 3))).wf) ∧
    (let b := cmdOf 0xA004 2 [0#8]
     taken at5 b ∧ (Instr.burnWord (.ouvend 5 b) 0).wf ∧ burnRegion (leNat b.data) = some 0 ∧ burnOpen (heard at5 b) 0 ∧ finalised (heard at5 b) 0 = false) ∧
    (let b := cmdOf 0xA004 3 [6#8]
     taken at5 b ∧ (Instr.finaliseRegion (.ouvend 5 b)).wf ∧ finalised (heard at5 b) 6 = false ∧ burnOpen (heard at5 b) 6 ∧
     ∀ w ∈ (region 6).words, marginal (heard at5 b) w = false) ∧
    (let b := setOf 0xA020 4 (List.replicate 12 0#8)
     taken at5 b ∧ (Instr.calibrationOverride (.ouvend 5 b)).wf ∧ ∃ r ∈ rowAt 0xA020 4,
       segment (heard at5 b) (segKey 0xA020 4 0) (segmentMax r) (heard at5 b).test.overrideIn b.offset b.data = some (some b.data)) ∧
    (taken at5 (cmdOf 0xA020 3) ∧ (Instr.applyCalibration (.ouvend 5 (cmdOf 0xA020 3))).wf) ∧
    (let b := cmdOf 0xA040 1 [1#8]
     let k := cmdOf 0xA040 1 [3#8]
     taken at5 b ∧ taken at5 k ∧ (Instr.lifecycleTransition (.ouvend 5 b)).wf ∧ obj (heard at5 b) 0xA040 4 = lifecycle (heard at5 b) ∧ lifecycle (heard at5 b) = 0 ∧
     leNat b.data = 1 ∧ leNat k.data = 3) ∧
    (let h := setObj (setObj (setObj at5 0x1002 1 0 1) 0xA040 4 0 1) 0xA000 2 0 1
     let b := cmdOf 0xA040 1 [2#8]
     taken h b ∧ obj (heard h b) 0xA040 4 = lifecycle (heard h b) ∧ lifecycle (heard h b) = 1 ∧ leNat b.data = 2 ∧ inUse (heard h b) 2 ∧ authorised (heard h b) = false) := by decide +kernel

theorem test_witness_TestCommandsComplete_bist :
    (let h := { at5 with test := { window := true } }
     let b := setOf 0xB000 1 [0#8]
     taken h b ∧ (Instr.interconnectReportWrite (.ouvend 5 b)).wf ∧ (heard h b).test.window ∧ ∃ r ∈ rowAt 0xB000 1,
       segment (heard h b) (segKey 0xB000 1 0) (segmentMax r) (heard h b).test.reportIn b.offset b.data = some (some b.data)) ∧
    (taken at5 (cmdOf 0xB000 3) ∧ (Instr.proceedWithoutReport (.ouvend 5 (cmdOf 0xB000 3))).wf) ∧
    (let b := cmdOf 0xB010 1
     let h := setObj at5 0xB010 2 0 1
     taken h b ∧ obj (heard h b) 0xB010 2 = 1 ∧
     taken at5 b ∧ (Instr.runShutdownBist (.ouvend 5 b)).wf ∧ obj (heard at5 b) 0xB010 2 ≠ 1 ∧ (heard at5 b).mode = .run ∧ obj (heard at5 b) 0x7000 1 ≤ 1 ∧
     jobHeld (heard at5 b) = false ∧ reqHeld (heard at5 b) = false) ∧
    (let h := setObj at5 0x7030 5 0 1
     let b := setOf 0xB200 2 (List.replicate 72 0#8)
     taken h (getOf 0xB200 2) ∧ (Instr.debugLineRead (.ouvend 5 (getOf 0xB200 2))).wf ∧ debugReady (heard h (getOf 0xB200 2)) 0 ∧
     taken h b ∧ (Instr.debugLineWrite (.ouvend 5 b)).wf ∧ debugReady (heard h b) 0 ∧ obj (heard h b) 0xB200 1 0 = 0 ∧ b.offset = 0 ∧ b.data.length = 72) ∧
    (let h := setObj at5 0x4011 5 7 1
     let b := cmdOf 0xB300 1 [15#8]
     taken h b ∧ (Instr.arrayTest (.ouvend 5 b)).wf ∧ trackParked (heard h b) 7 ∧ (heard h b).test.testDie = none ∧ (heard h b).place.unparking.contains 7 = false) ∧
    (let b := cmdOf 0xC010 1 [0#8]
     let k := heard at5 b
     taken at5 b ∧ (Instr.shutdown (.ouvend 5 b)).wf ∧ jobHeld k = false ∧ reqHeld k = false ∧ k.power.sleep = none ∧ obj k 0xC010 2 = 0 ∧ awake k ∧ leNat b.data = 0) := by decide +kernel

def at5Active : Hw := { linkIn 4 with boot := { strap := 5 } }

theorem test_witness_BlockCommandsComplete :
    (∀ idx ∈ [0x2231, 0x2232], let b := getOf idx 0xD7
      taken at5 b ∧ (Instr.checkerCounterRead (.ouvend 5 b) 0 0).wf ∧ b.readsChecker) ∧
    (taken at5 (cmdOf 0x2234 0xD7) ∧ (Instr.clearCheckerCounters (.ouvend 5 (cmdOf 0x2234 0xD7))).wf) ∧
    (let b := cmdOf 0x2200 6
     let h := setObj at5 0x1002 1 0 1
     let k := heard h b
     taken h b ∧ (Instr.retrainLink (.ouvend 5 b)).wf ∧ k.mode = .run ∧ obj k 0x7000 1 ≤ 1 ∧ obj k 0xB010 2 ≠ 1 ∧ lifecycle k ≠ 3 ∧ k.test.bistLinkDown = false) ∧
    (∀ ls ∈ [0, 15, 16, 23], let b := cmdOf 0x2233 ls [1#8]
      let k := heard at5Active b
      taken at5Active b ∧ (Instr.patternTest (.ouvend 5 b)).wf ∧ leNat b.data ≠ 0 ∧ awake k ∧ linkActive k ∧ inService k ls ∧ taken at5Active (cmdOf 0x2233 ls [0#8])) := by decide +kernel

theorem test_witness_BlockCommandsComplete_units :
    (let b := cmdOf 0x2221 23 [7#8]
     let k := heard at5Active b
     taken at5Active b ∧ (Instr.repairRequest (.ouvend 5 b)).wf ∧ awake k ∧ linkActive k ∧ inService k 23 ∧ stripeAt (laneset k 23) 7 = some 7 ∧
     (laneset k 23).spare = some 8) ∧
    (∀ ls ∈ [0, 16], let b := cmdOf 0x2221 ls [7#8]
     taken at5 b ∧ linkActive (heard at5 b) = false ∧ taken at5Active b ∧ awake (heard at5Active b) ∧ linkActive (heard at5Active b)) ∧
    (∀ sub ∈ [4, 5], let h := setObj at5 0x4001 1 0 2097151
      let b := cmdOf 0x4001 sub [1#8]
      taken h b ∧ (sub = 4 → (Instr.pin (.ouvend 5 b)).wf) ∧ (sub = 5 → (Instr.unpin (.ouvend 5 b)).wf) ∧
      obj (heard h b) 0x4001 1 0 + leNat b.data ≤ parcels ∧ awake (heard h b) ∧
      (let z := cmdOf 0x4001 sub [2#8]; taken h z ∧ parcels < obj (heard h z) 0x4001 1 0 + leNat z.data)) ∧
    (let b := cmdOf 0x1110 3 [] (unitSel 2 15)
     taken at5 b ∧ (Instr.arrayReset (.ouvend 5 b)).wf ∧ (∀ d ∈ selMembers b.selector 2, resetBarred (heard at5 b) d = false) ∧
     (let h := setDieState at5 15 1; taken h b ∧ (selMembers b.selector 2).find? (resetBarred (heard h b)) = some 15)) ∧
    (let b := cmdOf 0x9B00 3
     let k := heard at5 b
     let x := lookup k (obj k 0x9B00 1 0 / 1024)
     taken at5 b ∧ (Instr.injectStoredLine (.ouvend 5 b)).wf ∧ awake k ∧ entReleased x.2 = false ∧
     dieOn x.1 (lineDie (physOf x.2 (obj k 0x9B00 1 0))) ∧ wqFind x.1 (physOf x.2 (obj k 0x9B00 1 0)) = none) ∧
    (∀ sub ∈ [4, 5, 6, 8, 9], let b := cmdOf 0x9B00 sub [0#8]
      taken at5 b ∧ (heard at5 b).inject = {} ∧ (heard at5 b).place.sramBad = []) ∧
    (Instr.injectFlitCrc (.ouvend 5 (cmdOf 0x9B00 4))).wf ∧ (Instr.injectWriteCrc (.ouvend 5 (cmdOf 0x9B00 5))).wf ∧
    (Instr.injectCommandParity (.ouvend 5 (cmdOf 0x9B00 6))).wf ∧ (Instr.injectOuvendCrc (.ouvend 5 (cmdOf 0x9B00 8))).wf ∧
    (Instr.injectRouteEntry (.ouvend 5 (cmdOf 0x9B00 9))).wf := by decide +kernel

theorem test_witness_BlockCommandsComplete_jobs :
    (∀ x ∈ [(none, false), (none, true), (some 0, false)], let q := { aJob 1 x.1 aPart with committed := x.2 }
      let h := { withJob q {} with boot := { strap := 5 } }
      let b := cmdOf 0x6006 1 [1#8, 0#8, 0#8, 0#8]
      let k := heard h b
      taken h b ∧ (Instr.abortJob (.ouvend 5 b)).wf ∧ jobNamed k 0 1 = some 0 ∧ jobAt k 0 = some q ∧
      (jobAt (endJob k 0 5 (noResult q)) 0).isSome ∧ taken at5 b ∧ jobNamed (heard at5 b) 0 1 = none) ∧
    (let b := cmdOf 0x6015 31
     taken at5 b ∧ (Instr.resetEngine (.ouvend 5 b)).wf ∧ servesParts (heard at5 b) 31) ∧
    (let b := cmdOf 0x6100 3
     taken at5 b ∧ (Instr.beginKernelLoad (.ouvend 5 b)).wf ∧ loadsBarred (heard at5 b) = false ∧
     (List.range 64).find? (fun k => !thas (dropLoad (heard at5 b) 0).jobs.store k && (dropLoad (heard at5 b) 0).jobs.loads.all (fun l => l.2.1 != k)) = some 0) ∧
    (let h := { at5 with jobs := { loads := [(0, 63, 1, [])] } }
     let b := setOf 0x6100 2 [0#8]
     let a := cmdOf 0x6100 4 [0#8, 0#8, 0#8, 0#8]
     let z := cmdOf 0x6100 4 [1#8, 0#8, 0#8, 0#8]
     taken h b ∧ (Instr.kernelImageAppend (.ouvend 5 b)).wf ∧ loadsBarred (heard h b) = false ∧ tfind (heard h b).jobs.loads 0 = some (63, 1, []) ∧
     (∃ r ∈ rowAt 0x6100 2, segment (heard h b) (segKey 0x6100 2 0) (segmentMax r) [] b.offset b.data = some (some b.data)) ∧
     taken h a ∧ (Instr.activateKernel (.ouvend 5 a)).wf ∧ crc32c [] = leNat a.data ∧ taken h z ∧ crc32c [] ≠ leNat z.data) ∧
    (taken at5 (cmdOf 0x6105 63) ∧ (Instr.retireKernel (.ouvend 5 (cmdOf 0x6105 63))).wf) ∧
    (taken at5 (cmdOf 0x7000 3) ∧ (Instr.sleepRequest (.ouvend 5 (cmdOf 0x7000 3))).wf ∧ sleepable (heard at5 (cmdOf 0x7000 3))) := by decide +kernel

/-! Witnesses: kernel instructions. Words are written out from Table 9.1: OP [31:26], RD [25:21], RA [20:16], RB [15:11], PN [10], PG [9:7], FN [6:0]. -/

def kword (op rd ra rb fn : Nat) : Nat := op * 2 ^ 26 + rd * 2 ^ 21 + ra * 2 ^ 16 + rb * 2 ^ 11 + fn

/-- Engine 0 runs a KERNEL part whose image is a word and an immediate word, with registers `k` and stream unit 0 as `t`. -/
def kernelOf (w imm : Nat) (k : Kern := {}) (t : Stream := {}) : Hw :=
  { withJob { aJob 10 none aPart with slot := some 0 } { part := some (0, 0), k := k, su := [(0, t)] } with
    jobs := { jobs := [(0, { aJob 10 none aPart with slot := some 0 })], nextJob := 1, engines := [(0, { part := some (0, 0), k := k, su := [(0, t)] })],
              store := [(0, leBytes 4 w ++ leBytes 4 imm)] } }

/-- What the engine fetches, with its registers. -/
def kctx (h : Hw) : Option KCtx :=
  match kernelAt h 0 with
  | some (j, i, q, .ins x) => some { e := 0, j := j, i := i, q := q, x := x, k := (engine h 0).k }
  | _ => none

theorem fetches_of_kctx {h : Hw} {c : KCtx} (hc : kctx h = some c) : Fetches (stackOf h) c := by
  unfold kctx at hc
  split at hc
  · next heq => injection hc with hc; subst hc; exact ⟨heq, rfl⟩
  · exact absurd hc (by simp)

/-- `Runs` and `RunsLanes`, as a test decides them. -/
def runs (c : KCtx) (srcs : List Nat) : Bool := bitAt c.guard 0 && !srcs.any c.k.staged
def runsLanes (c : KCtx) (w : Nat) (srcs vsrcs : List Nat) : Bool := !(c.lanes w).isEmpty && !srcs.any c.k.staged && !vsrcs.any c.k.vtagged

theorem runs_of (c : KCtx) (l : List Nat) (h : runs c l = true) : Runs c l := by simpa [runs, Runs] using h
theorem runsLanes_of (c : KCtx) (w : Nat) (a b : List Nat) (h : runsLanes c w a b = true) : RunsLanes c w a b := by simpa [runsLanes, RunsLanes, and_assoc] using h

/-- By hand from Tables 9.1 and 9.4: a register form, an immediate form with its sign, and three words with no instruction. -/
theorem test_kernel_words :
    kdecode (kword 1 1 2 3 0) 0 = some { op := .add, maj := 1, rd := 1, ra := 2, rb := 3, pn := false, pg := 0, fn := 0, imm := 0 } ∧
    kdecode (kword 0x20 1 0 0 1) 0xFFFFFFFF = some { op := .sub, maj := 0x20, rd := 1, ra := 0, rb := 0, pn := false, pg := 0, fn := 1, imm := -1 } ∧
    kdecode (kword 1 1 2 3 0x16) 0 = none ∧ kdecode (kword 4 16 0 0 0) 0 = none ∧ kdecode (kword 0x30 0 0 0 0) 0 = none := by decide

theorem test_witness_KernelControlComplete :
    (∀ x ∈ [(0, KOp.nop), (1, .stop), (2, .endp), (3, .trap), (4, .fence), (5, .milestone), (6, .time), (7, .jr), (8, .jalr)],
      ∃ c ∈ kctx (kernelOf (kword 0 0 0 0 x.1) 0), c.e < 32 ∧ c.x.op = x.2 ∧ runs c [c.x.ra]) ∧
    (∀ x ∈ [(0, KOp.br), (1, .call)], ∃ c ∈ kctx (kernelOf (kword 0x23 0 0 0 x.1) 2), c.e < 32 ∧ c.x.op = x.2 ∧ runs c []) ∧
    ((Instr.kIllegal 0).wf ∧ ∃ a ∈ kernelAt (kernelOf (kword 0x30 0 0 0 0) 0) 0, a.2.2.2 = .illegal) ∧
    ((Instr.kPcRange 0).wf ∧ ∃ a ∈ kernelAt (kernelOf 0 0 { pc := 8 }) 0, a.2.2.2 = .beyond) := by decide +kernel

def intCodes : List (Nat × KOp) :=
  [(0, .add), (1, .sub), (2, .mul), (3, .mulhu), (4, .mulhs), (5, .divu), (6, .divs), (7, .remu), (8, .rems), (9, .and), (10, .or), (11, .xor),
   (12, .sll), (13, .srl), (14, .sra), (15, .mins), (16, .maxs), (17, .minu), (18, .maxu)]

/-- Every code in a register form, an immediate form and, where Table 9.4 has one, a form on lanes of 32 and of 64 bits. -/
theorem test_witness_KernelIntegerComplete :
    (∀ x ∈ intCodes, (∃ c ∈ kctx (kernelOf (kword 1 1 2 3 x.1) 0), c.x.op = x.2 ∧ c.x.maj ≠ 4 ∧ runs c (c.x.ra :: c.srcB)) ∧
      (∃ c ∈ kctx (kernelOf (kword 0x20 1 2 0 x.1) 5), c.x.op = x.2 ∧ c.x.maj ≠ 4 ∧ runs c (c.x.ra :: c.srcB))) ∧
    (∀ x ∈ intCodes, x.1 < 3 ∨ 9 ≤ x.1 → ∀ f ∈ [0, 64], ∃ c ∈ kctx (kernelOf (kword 4 15 14 13 (x.1 + f)) 0),
      c.x.op = x.2 ∧ c.x.maj = 4 ∧ runsLanes c c.laneW [] [c.x.ra, c.x.rb]) := by decide +kernel

theorem test_witness_KernelDataComplete :
    (∀ x ∈ [(kword 1 1 0 2 0x13, 0, KOp.mov), (kword 0x20 1 0 0 0x13, 7, .mov), (kword 1 1 2 0 0x14, 0, .popc), (kword 1 1 2 0 0x15, 0, .clz),
        (kword 3 1 2 0 0x4A, 0, .cvtw), (kword 0x22 1 0 0 0, 7, .li), (kword 0x22 1 0 0 1, 7, .lih), (kword 8 1 2 0 5, 0, .pany),
        (kword 8 1 2 0 6, 0, .pcnt), (kword 8 1 2 0 8, 0, .pto)],
      ∃ c ∈ kctx (kernelOf x.1 x.2.1), c.x.op = x.2.2 ∧ runs c (c.x.rd :: c.x.ra :: c.srcB)) ∧
    (∀ x ∈ [(0, KOp.eq), (1, .ne), (2, .lts), (3, .les), (4, .ltu), (5, .leu), (6, .feq), (7, .flt), (8, .fle)],
      (∃ c ∈ kctx (kernelOf (kword 2 1 2 3 x.1) 0), c.x.op = x.2 ∧ c.x.maj ≠ 6 ∧ runs c (c.x.ra :: c.srcB)) ∧
      (∃ c ∈ kctx (kernelOf (kword 6 1 2 3 x.1) 0), c.x.op = x.2 ∧ c.x.maj = 6 ∧ runsLanes c c.laneW [] [c.x.ra, c.x.rb])) ∧
    (∀ x ∈ [(0, 3, KOp.fadd), (1, 3, .fsub), (2, 3, .fmul), (3, 3, .fdiv), (4, 3, .fma), (5, 3, .fmin), (6, 3, .fmax), (7, 0, .fsqrt), (8, 0, .cvti), (9, 0, .cvtf)],
      (∃ c ∈ kctx (kernelOf (kword 3 1 2 x.2.1 x.1) 0), c.x.op = x.2.2 ∧ c.x.maj ≠ 5 ∧ runs c [c.x.ra, c.x.rb, c.x.rd]) ∧
      (∃ c ∈ kctx (kernelOf (kword 5 1 2 x.2.1 x.1) 0), c.x.op = x.2.2 ∧ c.x.maj = 5 ∧ runsLanes c c.fmt.width [] [c.x.ra, c.x.rb, c.x.rd])) := by decide +kernel

theorem test_witness_KernelDataComplete_lanes :
    (∀ x ∈ [(3, KOp.rsum), (4, .rmin), (5, .rmax)], ∀ f ∈ [0, 32], ∃ c ∈ kctx (kernelOf (kword 7 1 2 0 (x.1 + f)) 0),
      c.x.op = x.2 ∧ runsLanes c c.laneW [] [c.x.ra]) ∧
    (∃ c ∈ kctx (kernelOf (kword 7 1 2 0 0) 0), c.x.op = .bcst ∧ runsLanes c c.laneW [c.x.ra] []) ∧
    (∃ c ∈ kctx (kernelOf (kword 0x22 1 0 0 2) 0), c.x.op = .vbcstiW ∧ runsLanes c 32 [] []) ∧
    (∃ c ∈ kctx (kernelOf (kword 0x22 1 0 0 3) 0), c.x.op = .vbcstiD ∧ runsLanes c 64 [] []) ∧
    (∃ c ∈ kctx (kernelOf (kword 7 1 2 0 6) 0), c.x.op = .vmov ∧ c.lanes c.laneW ≠ []) ∧
    (∃ c ∈ kctx (kernelOf (kword 7 1 2 3 1) 0 { s := [(3, 15)] }), c.x.op = .ext ∧ runsLanes c c.laneW [c.x.rb] [c.x.ra] ∧ c.k.sreg c.x.rb ∈ c.lanes c.laneW) ∧
    (∃ c ∈ kctx (kernelOf (kword 7 1 2 3 2) 0 { s := [(3, 15)] }), c.x.op = .ins ∧ runsLanes c c.laneW [c.x.ra, c.x.rb] [] ∧ c.k.sreg c.x.rb ∈ c.lanes c.laneW) ∧
    (∀ x ∈ [(0, 3, KOp.pand), (1, 3, .por), (2, 3, .pxor), (3, 3, .pandn), (4, 0, .pnot), (7, 0, .pfrom), (9, 0, .vtag), (10, 0, .stag)],
      ∃ c ∈ kctx (kernelOf (kword 8 1 2 x.2.1 x.1) 0), c.x.op = x.2.2 ∧ c.guard ≠ 0 ∧ ([c.x.ra].any c.k.staged) = false) := by decide +kernel

/-- Stream unit 0 on W0, a window of one line, in a mode. -/
def unit0 (mode : Nat) : Stream := { opened := true, win := 0, mode := mode, next := 0, stride := 1 }

theorem test_witness_KernelMemoryComplete :
    (∃ c ∈ kctx (kernelOf (kword 9 1 0 0 0) 0 {} (unit0 0)), c.x.op = .snext ∧ runs c [] ∧ c.su = 0 ∧ 0 < (c.window (unit0 0)).len ∧
      streamUp c 0 0 (c.window (unit0 0)).base (begin (kernelOf (kword 9 1 0 0 0) 0 {} (unit0 0)))) ∧
    (∃ c ∈ kctx (kernelOf (kword 9 1 2 0 1) 0 {} (unit0 2)), c.x.op = .sget ∧ runs c [c.x.ra] ∧ c.su = 0 ∧ c.k.sreg c.x.ra < (c.window (unit0 2)).len ∧
      streamUp c 0 (c.k.sreg c.x.ra) 0 (begin (kernelOf (kword 9 1 2 0 1) 0 {} (unit0 2)))) ∧
    (let h := kernelOf (kword 9 0 2 0 2) 0 {} (unit0 1)
     ∃ c ∈ kctx h, c.x.op = .sput ∧ runs c [] ∧ c.su = 0 ∧ 0 < (c.window (unit0 1)).len ∧ (issueHeld c (fun su l => su == c.su || l.line == 0) (coreOf (stackOf h))).2) ∧
    (let h := kernelOf (kword 9 0 2 3 3) 0 {} (unit0 3)
     ∃ c ∈ kctx h, c.x.op = .sset ∧ runs c [c.x.rb] ∧ c.k.sreg c.x.rb < (c.window (unit0 3)).len ∧ (issueHeld c (fun _ l => l.line == 0) (coreOf (stackOf h))).2 ∧
       (let b := (issueHeld c (fun _ l => l.line == 0) (coreOf (stackOf h))).1; writeUp b.hw c.q.desc.cls 0 ∧ (recreateFor b 0).2)) ∧
    (∃ c ∈ kctx (kernelOf (kword 9 0 0 0 4) 0 {} (unit0 0)), c.x.op = .sclose ∧ runs c []) ∧
    (∃ c ∈ kctx (kernelOf (kword 9 1 0 0 5) 0 {} (unit0 1)), c.x.op = .spos ∧ runs c [] ∧ (unit0 1).mode < 2) ∧
    (let h := kernelOf (kword 0x24 0 0 0 0) 1
     ∃ c ∈ kctx h, c.x.op = .sopen ∧ runs c [c.x.ra] ∧ ((windowsOf c.q.desc).getD (c.x.fn % 4) {}).len ≠ 0 ∧ field c.x.fn 3 2 % 2 = 0 ∧
       (issueHeld c (fun su _ => su == c.x.rd) (coreOf (stackOf h))).2) ∧
    (∀ x ∈ [(kword 10 1 2 3 3, KOp.scratchLoad), (kword 10 1 2 3 4, .scratchLoad), (kword 10 1 2 3 11, .scratchStore), (kword 10 1 2 3 12, .scratchStore)],
      ∃ c ∈ kctx (kernelOf x.1 0 { s := [(2, 524224)] }), c.x.op = x.2 ∧ runs c (c.x.ra :: c.srcB ++ [c.x.rd]) ∧
        (c.k.sreg c.x.ra + c.opB) % 2 ^ 64 + scratchSize c.x.fn ≤ 524288 ∧ (c.k.sreg c.x.ra + c.opB) % 2 ^ 64 % scratchSize c.x.fn = 0) := by decide +kernel

/-- SATOM of an add on the last word of W0's line; LOCK, UNLOCK and UNLOCKA of its line. -/
theorem test_witness_KernelMemoryComplete_locks :
    (let h := kernelOf (kword 12 1 2 3 0) 0 { s := [(2, 15), (3, 1)] } (unit0 3)
     ∃ c ∈ kctx h, c.x.op = .satom ∧ runs c [c.x.ra, c.x.rb] ∧ c.x.fn % 8 = 0 ∧ c.k.sreg c.x.ra * 4 / 64 < (c.window (unit0 3)).len ∧
       (let d := issueHeld c (fun _ l => l.line == 0) (coreOf (stackOf h))
        let m := rmwBefore d.1 (chOf (pPc (physOf (route d.1.hw 0) 0))) 0
        let r := rmwLine m 0 (15 * 4 % 64 / 4) false 0 (c.k.sreg c.x.rb) 0 false (some c.q.desc.cls) m.hw.chans.nextTxn
        d.2 ∧ lockedBy d.1.hw c.e 0 = none ∧ engUp d.1.hw c.q.desc.cls 0 ∧ r.2.1 ∧ r.2.2.isSome)) ∧
    (let h := kernelOf (kword 13 0 2 0 0) 0 {} (unit0 3)
     ∃ c ∈ kctx h, c.x.op = .lock ∧ runs c [c.x.ra] ∧ c.k.sreg c.x.ra < (c.window (unit0 3)).len ∧ (engine h 0).locks = [] ∧
       (let d := issueHeld c (fun _ l => l.line == 0) (coreOf (stackOf h)); d.2 ∧ lockedBy d.1.hw c.e 0 = none)) ∧
    (∃ c ∈ kctx (kernelOf (kword 13 0 2 0 1) 0 {} (unit0 3)), c.x.op = .unlock ∧ runs c [c.x.ra] ∧ c.k.sreg c.x.ra < (c.window (unit0 3)).len) ∧
    (∃ c ∈ kctx (kernelOf (kword 13 0 0 0 2) 0), c.x.op = .unlocka ∧ runs c []) := by decide +kernel

/-- A guard p1 of zeros; a tagged s2; a closed unit; a position beyond the window; scratch beyond its end and misaligned. -/
theorem test_witness_KernelGuardsAndTraps :
    (∀ x ∈ [(0, KOp.add), (1, .sub), (2, .mul), (12, .sll)],
      (∃ c ∈ kctx (kernelOf (kword 1 1 2 3 x.1 + 128) 0), c.x.op = x.2 ∧ c.x.maj ≠ 4 ∧ bitAt c.guard 0 = false) ∧
      (∃ c ∈ kctx (kernelOf (kword 1 1 2 3 x.1) 0 { stag := [(2, true)] }), c.x.op = x.2 ∧ bitAt c.guard 0 ∧ c.k.staged c.x.ra)) ∧
    (∀ x ∈ [(0, kword 9 1 0 0 0, KOp.snext), (1, kword 9 0 2 0 2, .sput)],
      (∃ c ∈ kctx (kernelOf x.2.1 0), c.x.op = x.2.2 ∧ bitAt c.guard 0 ∧ (stream (engine (kernelOf x.2.1 0) c.e) c.su).opened = false) ∧
      (∃ c ∈ kctx (kernelOf x.2.1 0 {} { unit0 x.1 with next := 1 }), c.x.op = x.2.2 ∧ c.su = 0 ∧ (c.window { unit0 x.1 with next := 1 }).len ≤ 1)) ∧
    (∀ x ∈ [(kword 10 1 2 3 3, KOp.scratchLoad), (kword 10 1 2 3 11, .scratchStore)],
      (∃ c ∈ kctx (kernelOf x.1 0 { s := [(2, 524288)] }), c.x.op = x.2 ∧ 524288 < (c.k.sreg c.x.ra + c.opB) % 2 ^ 64 + scratchSize c.x.fn ∧
        ((c.x.ra :: c.srcB ++ [c.x.rd]).any c.k.staged) = false) ∧
      (∃ c ∈ kctx (kernelOf x.1 0 { s := [(2, 1)] }), c.x.op = x.2 ∧ (c.k.sreg c.x.ra + c.opB) % 2 ^ 64 + scratchSize c.x.fn ≤ 524288 ∧
        (c.k.sreg c.x.ra + c.opB) % 2 ^ 64 % scratchSize c.x.fn ≠ 0)) := by decide +kernel


/-! Worked examples of the spec. -/

/-- Chapter 09, the scaled sum: the guarded FMA at 0x02C, SPUT at 0x034 and BR at 0x050 with its immediate word. -/
theorem test_kernel_example_words :
    kdecode 0x14411D84 0 = some { op := .fma, maj := 5, rd := 2, ra := 1, rb := 3, pn := true, pg := 3, fn := 4, imm := 0 } ∧
    kdecode 0x24020042 0 = some { op := .sput, maj := 9, rd := 0, ra := 2, rb := 0, pn := false, pg := 0, fn := 0x42, imm := 0 } ∧
    kdecode 0x8C000200 0xFFFFFFF4 = some { op := .br, maj := 0x23, rd := 0, ra := 0, rb := 0, pn := false, pg := 4, fn := 0, imm := -12 } := by decide +kernel

/-- Chapter 05: line 0x01234567 lies in bytes 448 to 511 of row 581 of bank T3.L1.C0.P1.G2.B3. -/
theorem test_line_example :
    entTrack (staticEntry 18641) = 3 ∧ entSlot (staticEntry 18641) = 2331 ∧
    physOf (staticEntry 18641) 0x01234567 = physLine 3 2331 359 ∧
    (let n := physLine 3 2331 359
     chOf (pPc n) = 28 ∧ pPc n % 2 = 1 ∧ pBank n = 11 ∧ pRow n = 581 ∧ 64 * pCol n = 448) := by decide +kernel

/-- Chapter 05: the entries of parcel 18,641 before, during and after its evacuation. -/
theorem test_entry_example :
    staticEntry 18641 = 0x60246C00 ∧ entryOf 3 2331 1 false false = 0x60246D00 ∧ entryOf 0 262155 0 false false = 0x10002C00 := by decide +kernel

/-- Chapter 00: channel 30 and the die above it; chapter 01: track 5 by two selectors, and a selector deeper than its object. -/
theorem test_selector_examples :
    unitSel 3 30 = 0x6F00 ∧ selUnit 0x6F00 3 = 30 ∧ selUnit (truncSel 0x6F00 2) 2 = 7 ∧ unitSel 1 5 = 0x3400 ∧ truncSel 0x35FC 1 = 0x3400 ∧
    selMembers 0x3400 2 = [10, 11] := by decide

/-- The nine digits of a CRC check value. -/
def digits : List Byte := (span 0x31 9).map (BitVec.ofNat 8)

/-- Table 10.5: the check values of the three CRCs. -/
theorem test_crc_check_values : crc64 digits = 0x995DC9BBDF1939FA ∧ crc32 digits = 0xCBF43926 ∧ crc32c digits = 0xE3069283 := by decide +kernel

/-- Table 10.5: V0 is all zero and V1 has data symbol j at j + 1. -/
def v1 : Line := BitVec.ofNat 512 (leNat ((span 1 32).flatMap (leBytes 2)))

/-- V1 stored with errors at symbol positions. -/
def v1With (poison : Bool) (errs : List (Nat × Nat)) : Decoded := decodeLine (errs.foldl (fun c e => fixSym c e.1 e.2) (encodeLine v1 poison))

/-- Table 10.5: the line encoder and decoder. -/
theorem test_selftest_line_codec :
    encodeLine 0#512 false = 0 ∧ v1With false [] = ⟨.clean, v1, false⟩ ∧
    (List.range 36).all (fun n => v1With false [(n, 0x8001)] == ⟨.corrected n, v1, false⟩) ∧
    (v1With false [(0, 0xFFFF), (35, 0xFFFF)]).cls = .uncorrectable ∧
    (v1With false [(4, 0x0101), (20, 0x0101), (35, 0x0101)]).cls = .uncorrectable ∧
    v1With true [] = ⟨.poisoned, v1, true⟩ ∧ v1With true [(10, 0x0040)] = ⟨.poisonedCorrected 10, v1, true⟩ := by decide +kernel

/-- A codeword by R65 satisfies every check of R64, and one with a bit inverted does not. -/
theorem test_ldpc_encode :
    (let w := ldpcEncode (2 ^ 5 + 2 ^ 700 + 2 ^ 2047)
     ldpcOk w = true ∧ ldpcOk (w ^^^ 2 ^ 2100) = false) := by decide +kernel

/-- The published SHA-256 digest of "abc". -/
theorem test_sha256_abc : beNat (sha256 [0x61#8, 0x62#8, 0x63#8]) = 0xba7816bf8f01cfea414140de5dae2223b00361a396177a9cb410ff61f20015ad := by decide +kernel

/-- Chapter 07, Table 7.3: pred in ns and whether each targeted class fits, at G0 and at G2, with every input that the table states. -/
theorem test_class_model_example :
    (let h := (([(7, 120), (6, 200), (5, 400), (4, 0), (3, 600), (2, 0), (1, 0), (0, 0)] : List (Nat × Nat)).foldl (fun h c => setObj h 0x3401 c.1 0 c.2) upHw)
     let ns := [128, 128, 128, 128, 128, 128, 64, 32]
     [7, 6, 5, 3].map (predicted h (capacity h 0 0) ns) = [78, 102, 150, 246] ∧
     [7, 6, 5, 3].map (predicted h (capacity h 2 0) ns) = [107, 188, 351, 676] ∧
     [7, 6, 5, 3].map (classFits h (capacity h 0 0) ns) = [true, true, true, true] ∧
     [7, 6, 5, 3].map (classFits h (capacity h 2 0) ns) = [true, true, false, false]) := by decide +kernel

/-- Chapter 03: on UP3 bit 2 of byte 257 travels on stripe lane 5, the first parity bit on lane 0 and the last bit on lane 7. -/
theorem test_stripe_example :
    stripeBits (2 ^ 10) 5 = 1 ∧ stripeBits (2 ^ 2048) 0 = 1 ∧ stripeBits (2 ^ 2303) 7 = 1 ∧ laneOf 3 5 = 32 := by decide +kernel

/-- Chapter 13, Table 13.14: the answer to a GET of the command parity replays of channel 30, which reports 3. -/
theorem test_get_example :
    answerBody { op := 1, tag := 0x31, index := 0x5120, sub := 4, selector := 0x6F00 } { status := .ok, count := 1, total := 4, data := leBytes 4 3 } =
      [0x81#8, 0#8, 0x31#8, 0#8, 0x20#8, 0x51#8, 4#8, 1#8, 0#8, 0x6F#8, 0#8, 0#8, 4#8, 0#8, 0#8, 0#8, 3#8, 0#8, 0#8, 0#8] := by decide +kernel

/-- The same GET as a command: the stack at strap address 5 sends an ANSWER frame, with the header and body of Table 13.14, a good CRC and
260 bit-times of two half-cells. -/
def getExampleFrame : List Byte :=
  match (dictOp {} OpBody.isGet (.ouvend 5 { op := 1, tag := 0x31, index := 0x5120, sub := 4, selector := 0x6F00 })
    { hw := setObj (begin at5) 0x5120 4 30 3, dram := {}, stores := [] }).hw.out with
  | [.ouvend f] => f
  | _ => []

theorem test_get_example_command :
    getExampleFrame.take 24 =
      [0x40#8, 0x21#8, 0x14#8, 0#8, 0x81#8, 0#8, 0x31#8, 0#8, 0x20#8, 0x51#8, 4#8, 1#8, 0#8, 0x6F#8, 0#8, 0#8, 4#8, 0#8, 0#8, 0#8, 3#8, 0#8, 0#8, 0#8] ∧
    frameCrcOk getExampleFrame = true ∧ (frameCells getExampleFrame).length = 2 * 260 := by decide +kernel

/-- R351: bit 0 first; a 1 is positive, then negative. -/
theorem test_manchester_byte :
    byteCells 0x01#8 = [.positive, .negative] ++ (List.replicate 7 [HalfCell.negative, .positive]).flatten := by decide

/-! The ball map (R454 to R457). -/

/-- How many balls are of a kind. -/
def ballCount (p : Ball → Bool) : Nat :=
  ((List.range 44).map (fun r => (List.range 44).countP (fun c => p (ballAt (r + 1) (c + 1))))).sum

/-- The totals of R454: 432 link balls, 704 ground balls, 38 crystal and control balls. -/
theorem test_ball_totals :
    ballCount (fun b => match b with | .lane _ _ => true | _ => false) = 432 ∧ ballCount (· == .ground) = 704 ∧
    ballCount (fun b => match b with | .pin _ => true | _ => false) = 38 := by decide +kernel

/-- Power balls by rail (Table 17.2). -/
theorem test_ball_rails : (List.range 5).map (fun k => ballCount (· == .rail k)) = [235, 199, 85, 228, 15] := by decide +kernel

/-- The example of R455: lane 32 is UP3, position 5. -/
theorem test_ball_lane32 :
    laneBall 32 false = (5, 21) ∧ laneBall 32 true = (5, 22) ∧ ballAt 5 21 = .lane 32 false ∧ ballAt 5 22 = .lane 32 true := by decide

/-- Every lane's balls lie where the map has that lane. -/
theorem test_ball_lanes : ((List.range 216).all (fun n => [false, true].all (fun s =>
    ballAt (laneBall n s).1 (laneBall n s).2 == .lane n s))) = true := by decide +kernel

/-! Witnesses: the whole stack. -/

theorem test_witness_StepRunsTheFrontCommand :
    ({ stackOf upHw with pending := [.testEnd 3, .testEnd 4] } : State).pending = .testEnd 3 :: [.testEnd 4] ∧ (stackOf upHw).pending = [] ∧
    heldDue (tick upHw) = false ∧ heldDue (tick { upHw with dict := { heldFrame := some (5, getOf 0x1000 3) } }) = true := by
  refine ⟨rfl, rfl, ?_, ?_⟩ <;> decide +kernel

theorem test_witness_WellFormedCommandCompletes : (Instr.testEnd 15).wf = true ∧ (Instr.testEnd 16).wf = false := by decide

/-- The queue is emptied from the front, one command at each step. -/
theorem test_witness_StoredLinesKeepTheirForm :
    (∃ t, step { stackOf upHw with pending := [.testEnd 3, .testEnd 4] } = .next t ∧ t.pending = [.testEnd 4]) ∧
    (∃ t, step { stackOf upHw with pending := [.testEnd 3] } = .next t) ∧
    Memory.wf (writeByte (stackOf upHw).dram 5 1#8) = true ∧ (writeByte (stackOf upHw).dram 5 1#8).cells = [(5, 1#8)] := by
  refine ⟨⟨_, rfl, rfl⟩, ⟨_, rfl⟩, ?_, ?_⟩ <;> decide

end Sys2Proof.Tests
end

/-! The state at reset. -/

namespace Sys2Proof.Machine

/-- While no register is listed, each reads its default. -/
theorem obj_of_regs_nil {h : Hw} (hr : h.regs = []) (idx sub unit : Nat) :
    obj h idx sub unit = regDefault (regKey idx sub unit) := by
  simp only [obj, hr, tget_nil]

@[simp] theorem obj_reset (idx sub unit : Nat) : obj State.reset.hw idx sub unit = regDefault (regKey idx sub unit) :=
  obj_of_regs_nil rfl idx sub unit

/-- Stored lines with no byte listed have the canonical form, whatever an unlisted byte reads as. -/
theorem wf_of_cells_nil {d : Dram} (hc : d.cells = []) : Memory.wf d = true := by
  simp only [Memory.wf, hc, twf, tsorted, List.all_nil, Bool.and_self]

/-- Settles O60: at reset no register and no stored byte is listed, so every register reads its default. The four defaults named are
evaluated from the catalogue: the power cap (0x7020:01, R313), the wake enables (0x7010:01), the warm-up time (0x4000:02), and a measured
latency (0x3410:00), which reads 0 until its seed is written. -/
theorem resetState : Obligations.ResetState := by
  refine ⟨rfl, rfl, wf_of_cells_nil rfl, rfl, rfl, obj_reset, ?_⟩
  simp only [obj_reset]
  decide

end Sys2Proof.Machine

/-! Commands by their frame. -/

namespace Sys2Proof.Machine

/-- A well-formed command of the first frame leaves what its function makes of the state. -/
theorem exec_eq_after {c : Instr} {f : Hw → Hw} {s : State} {h : Hw} (he : exec c s = runHw c.wf f s) (hw : c.wf = true)
    (hf : f (begin s.hw) = h) : exec c s = .next (after s h) := by
  rw [he, hw, runHw_true, after, hf]

/-- The same for a command of the second frame. -/
theorem exec_eq_afterCore {c : Instr} {f : Core → Core} {s : State} {d : Core} (he : exec c s = runCore c.wf f s) (hw : c.wf = true)
    (hf : f (coreOf s) = d) : exec c s = .next (afterCore s d) := by
  rw [he, hw, runCore_true, afterCore, ← hf, coreOf]

end Sys2Proof.Machine

/-! Channel events: what the function of each leaves, by the branch it takes. -/

namespace Sys2Proof.Machine

/-- A refresh that falls due under the limit is owed one more (R178). -/
theorem refreshDue_below {pc : Nat} {h : Hw} (hm : h.mode = .run) (hl : live pc h = true) (ho : owed h pc < owedLimit h pc) :
    refreshDue pc h =
      setOwed (if owed h pc = 0 then setPc h pc { pcSt h pc with routineAt := now h } else h) pc (owed h pc + 1) := by
  simp only [refreshDue, hm, hl, ho, beq_self_eq_true, Bool.and_self, decide_true, if_true]

/-- At the limit it becomes emergency refresh (R179). -/
theorem refreshDue_at_limit {pc : Nat} {h : Hw} (hm : h.mode = .run) (hl : live pc h = true) (ho : owedLimit h pc ≤ owed h pc) :
    refreshDue pc h = setPc h pc { pcSt h pc with emergency := (pcSt h pc).emergency ++ [now h] } := by
  simp only [refreshDue, hm, hl, Int.not_lt.mpr ho, beq_self_eq_true, Bool.and_self, decide_false, if_true, if_false, Bool.false_eq_true]

/-- A targeted row that waits is escalated (R184). -/
theorem trrEscalate_waiting {pc : Nat} {h : Hw} (hm : h.mode = .run)
    (hi : (pcSt h pc).trr.findIdx (fun r => !r.2.2.2) < (pcSt h pc).trr.length) :
    trrEscalate pc h =
      bump (setPc h pc { pcSt h pc with
        trr := (pcSt h pc).trr.modify ((pcSt h pc).trr.findIdx (fun r => !r.2.2.2)) (fun r => (r.1, r.2.1, now h, true)) }) 0x5021 5 pc := by
  simp only [trrEscalate, hm, hi, beq_self_eq_true, Bool.and_self, decide_true, if_true]

/-- An alert under four failures is answered by a replay (R186). -/
theorem takeAlert_replays {ch : Nat} (again : Bool) {c : Core} (hf : (chSt c.hw ch).fails < 4) : takeAlert ch again c = replay ch again c :=
  if_neg (Nat.not_le.mpr hf)

/-- With no alert standing the oldest buffered command leaves. -/
theorem bufferRelease_no_alert {ch : Nat} {h : Hw} (ha : (chSt h ch).alert = none) :
    bufferRelease ch h = setCh h ch { chSt h ch with retry := (chSt h ch).retry.drop 1 } := by
  simp only [bufferRelease, ha]

/-- Under an alert it leaves unless it is the failed one. -/
theorem bufferRelease_before_failed {ch f : Nat} {crc : Bool} {e : Nat × DieCmd} {h : Hw} (ha : (chSt h ch).alert = some (f, crc))
    (he : (chSt h ch).retry.head? = some e) (hne : e.1 ≠ f) :
    bufferRelease ch h = setCh h ch { chSt h ch with retry := (chSt h ch).retry.drop 1 } := by
  simp only [bufferRelease, ha, he, Option.map_some, Option.some.injEq, hne, if_false]

/-- The failed command and every later one go out again with fresh sequence numbers (R186). -/
theorem replay_standing {ch failed : Nat} {crc : Bool} (again : Bool) {c : Core} (ha : (chSt c.hw ch).alert = some (failed, crc)) :
    replay ch again c =
      let k := chSt c.hw ch
      let cmds := (replayList k failed).map Prod.snd
      let seq := (k.seq + 1) % 16
      let k := { k with
        seq := (seq + cmds.length) % 16, alert := if again then some (seq, crc) else none,
        retry := k.retry.takeWhile (fun e => e.1 != failed) ++ cmds.zipIdx.map (fun e => ((seq + e.2) % 16, e.1)),
        fails := if again then k.fails + 1 else 0, retrained := again && k.retrained }
      let c := c.onHw (fun h => noteReplay (setCh h ch k) ch crc)
      if again then c else cmds.foldl (dieEffect 0) c := by
  simp only [replay, ha]

/-- RESYNC does what an alert whose replay succeeds does. -/
theorem exec_resync (ch : Nat) (s : State) : exec (.resync ch) s = exec (.alert ch false) s := rfl

/-- A window that has its grant runs (R189). -/
theorem retrainWindow_granted {ch : Nat} (eyes : List Eye) {h : Hw} (ha : awake h = true) (hd : dieOn h (ch / 4) = true)
    (hc : (trkSt h (ch / 8)).change = none) (hg : windowGranted h ch = true) :
    retrainWindow ch eyes h =
      retrain ch eyes (bump ([2 * ch, 2 * ch + 1].foldl (fun h p => setPc h p { pcSt h p with granted := none })
        (setCh h ch { chSt h ch with retrain := false, retrainLate := false })) 0x5120 7 ch) := by
  simp only [retrainWindow, ha, hd, hc, hg, Option.isNone_none, Bool.and_self, Bool.not_true, Bool.false_eq_true, if_false, if_true]

/-- One without a grant waits for it from now on (R189). -/
theorem retrainWindow_falls_due {ch : Nat} (eyes : List Eye) {h : Hw} (ha : awake h = true) (hd : dieOn h (ch / 4) = true)
    (hc : (trkSt h (ch / 8)).change = none) (hg : windowGranted h ch = false) (hr : (chSt h ch).retrain = false) :
    retrainWindow ch eyes h = setCh h ch { chSt h ch with retrain := true, retrainAt := now h } := by
  simp only [retrainWindow, ha, hd, hc, hg, hr, Option.isNone_none, Bool.and_self, Bool.not_true, Bool.false_eq_true, if_false]

/-- One that waits already goes on waiting. -/
theorem retrainWindow_waiting {ch : Nat} (eyes : List Eye) {h : Hw} (ha : awake h = true) (hd : dieOn h (ch / 4) = true)
    (hc : (trkSt h (ch / 8)).change = none) (hg : windowGranted h ch = false) (hr : (chSt h ch).retrain = true) :
    retrainWindow ch eyes h = h := by
  simp only [retrainWindow, ha, hd, hc, hg, hr, Option.isNone_none, Bool.and_self, Bool.not_true, Bool.false_eq_true, if_false, if_true]

/-- A command of a running channel has failed four times and waits (R187). -/
theorem replayLimit_stands {k : Chan} {m : Mode} (hm : m = .run) (ha : k.alert.isSome = true) (hf : 4 ≤ k.fails) :
    (m != .run || k.alert.isNone || decide (k.fails < 4)) = false := by
  rw [hm, Option.isNone_eq_false_iff.mpr ha, decide_eq_false (Nat.not_lt.mpr hf)]
  rfl

/-- The first four failures of a command have its channel retrained, and the command replayed (R187). -/
theorem replayLimit_retrains {ch : Nat} (eyes : List Eye) (again : Bool) {c : Core} (hm : c.hw.mode = .run)
    (ha : (chSt c.hw ch).alert.isSome = true) (hf : 4 ≤ (chSt c.hw ch).fails) (hr : (chSt c.hw ch).retrained = false) :
    replayLimit ch eyes again c =
      replay ch again (c.onHw (fun h => retrain ch eyes (raise (bump (setCh h ch { chSt c.hw ch with fails := 0, retrained := true }) 0x5120 6 ch)
        Src.replayLimit { selector := unitSel 3 ch }))) := by
  simp only [replayLimit, replayLimit_stands hm ha hf, hr, Bool.not_false, Bool.false_eq_true, if_false, if_true]

/-- Four more at the lowest gear fail the channel (R187). -/
theorem replayLimit_fails_channel {ch : Nat} (eyes : List Eye) (again : Bool) {c : Core} (hm : c.hw.mode = .run)
    (ha : (chSt c.hw ch).alert.isSome = true) (hf : 4 ≤ (chSt c.hw ch).fails) (hr : (chSt c.hw ch).retrained = true) (hg : gear c.hw (ch / 8) = 2) :
    replayLimit ch eyes again c =
      replay ch false (c.onHw (fun h => raise (setCh h ch { chSt c.hw ch with failed := true, fails := 0 }) Src.channelFailed { selector := unitSel 3 ch })) := by
  simp only [replayLimit, replayLimit_stands hm ha hf, hr, hg, Bool.not_true, Bool.false_eq_true, if_false, if_true]

/-- At any other gear they lower the fastest gear that its track may take (R187). -/
theorem replayLimit_lowers_gear {ch : Nat} (eyes : List Eye) (again : Bool) {c : Core} (hm : c.hw.mode = .run)
    (ha : (chSt c.hw ch).alert.isSome = true) (hf : 4 ≤ (chSt c.hw ch).fails) (hr : (chSt c.hw ch).retrained = true) (hg : gear c.hw (ch / 8) ≠ 2) :
    replayLimit ch eyes again c = c.onHw (fun h => imposeGear (setCh h ch { chSt c.hw ch with fails := 0 }) (ch / 8)) := by
  simp only [replayLimit, replayLimit_stands hm ha hf, hr, hg, Bool.not_true, Bool.false_eq_true, if_false]

/-- The condition under which a gear change begins (R191, R192). -/
theorem gearStart_condition {t : Nat} {h : Hw} (ha : awake h = true) (hc : ∀ k < 8, (trkSt h k).change = none)
    (hr : gearReady h t = true) (hl : ∀ k < t, gearReady h k = false) :
    (awake h && (List.range 8).all (fun k => (trkSt h k).change.isNone) && gearReady h t && (List.range t).all (fun k => !gearReady h k)) = true := by
  have hidle : (List.range 8).all (fun k => (trkSt h k).change.isNone) = true := by
    simpa only [List.all_eq_true, List.mem_range, Option.isNone_iff_eq_none] using hc
  have hlow : (List.range t).all (fun k => !gearReady h k) = true := by
    simpa only [List.all_eq_true, List.mem_range, Bool.not_eq_true'] using hl
  simp only [ha, hidle, hr, hlow, Bool.and_self]

/-- A change of gear under way ends (Table 6.6). -/
theorem gearComplete_changing {t g since : Nat} (eyes : List (List Eye)) {h : Hw} (ha : awake h = true)
    (hc : (trkSt h t).change = some (g, since)) :
    gearComplete t eyes h =
      let h := [2 * t, 2 * t + 1].foldl (fun h d => setDie (leaveSr h d) d { dieSt (leaveSr h d) d with bandHeld := none }) h
      let h := retrainAll (span (8 * t) 8) eyes h
      let h := setTrk h t { trkSt h t with change := none }
      let h := setObj (bump h 0x5010 3 t) 0x5010 4 t (max (obj h 0x5010 4 t) (now h - since))
      modelRun (setObj h 0x5010 1 t g) := by
  simp only [gearComplete, hc, ha, if_true]

/-- The line of a priority scrub that has its grant is read and checked, and the scrub goes on to the next one or ends (R196). -/
theorem prioLine_granted {pc bank i : Nat} {rest : Tbl Nat} {c : Core} (hm : c.hw.mode = .run) (hl : live pc c.hw = true)
    (ha : (chSt c.hw (chOf pc)).alert = none) (hg : (pcSt c.hw pc).granted = some .scrub) (hp : (pcSt c.hw pc).prio = (bank, i) :: rest) :
    prioLine pc c =
      let n := lineAt pc bank (i / 16) (i % 16)
      let bad := (wqFind c.hw n).isNone && (corrFind c.hw n).isNone && !c.hw.chans.recorded.contains n && (decodeLine (cellBits c n)).cls == .uncorrectable
      (readLine c n 0 false).1.onHw (fun h =>
        let h := if bad then bump h 0x5130 4 (pc * 16 + bank) else h
        let k := pcSt h pc
        let h := setPc h pc { k with granted := none, scrubAt := now h }
        if i + 1 < 66560 * 16 then setPc h pc { pcSt h pc with prio := tset k.prio bank (i + 1) }
        else bump (setObj (setPc h pc { pcSt h pc with prio := tdel k.prio bank }) 0x5130 1 (pc * 16 + bank) 0) 0x5130 5) := by
  simp only [prioLine, hp, hm, hl, ha, hg, Option.isNone_none, beq_self_eq_true, Bool.and_self, Bool.not_true, Bool.false_eq_true, if_false]

/-- Settles O22: each command's function, on the state that the clause describes, takes the branch of the event; the branch lemmas above say
what it leaves. -/
theorem channelEventsComplete : Obligations.ChannelEventsComplete := by
  unfold Obligations.ChannelEventsComplete
  refine ⟨?_, ?_, ?_, ?_, ?_, ?_, ?_, ?_, ?_, ?_, ?_, ?_, ?_⟩
  · intro s pc hw hm hl
    exact ⟨fun ho => exec_eq_after rfl hw (refreshDue_below hm hl ho), fun ho => exec_eq_after rfl hw (refreshDue_at_limit hm hl ho)⟩
  · intro s pc hw hm hi
    exact exec_eq_after rfl hw (trrEscalate_waiting hm hi)
  · intro s ch again failed crc hw hm ha hf
    have hrun : (begin s.hw).mode == .run := by simp [hm]
    have halert := exec_eq_afterCore (c := .alert ch again) rfl hw
      ((if_pos hrun).trans ((takeAlert_replays again hf).trans (replay_standing (c := coreOf s) again ha)))
    exact ⟨halert, fun hag _ => by subst hag; exact (exec_resync ch s).trans halert⟩
  · intro s ch hw ha
    exact exec_eq_after rfl hw (bufferRelease_no_alert ha)
  · intro s ch f crc e hw ha he hne
    exact exec_eq_after rfl hw (bufferRelease_before_failed ha he hne)
  · intro s ch eyes again hw hm ha hf
    exact ⟨fun hr => exec_eq_afterCore rfl hw (replayLimit_retrains eyes again hm ha hf hr),
      fun hr hg => exec_eq_afterCore rfl hw (replayLimit_fails_channel eyes again hm ha hf hr hg),
      fun hr hg => exec_eq_afterCore rfl hw (replayLimit_lowers_gear eyes again hm ha hf hr hg)⟩
  · intro s ch eyes hw ha hd hc
    exact ⟨fun hg => exec_eq_after rfl hw (retrainWindow_granted eyes ha hd hc hg),
      fun hg hr => exec_eq_after rfl hw (retrainWindow_falls_due eyes ha hd hc hg hr),
      fun hg hr => exec_eq_after rfl hw (retrainWindow_waiting eyes ha hd hc hg hr)⟩
  · intro s ch hw ha hr
    exact exec_eq_after rfl hw (if_pos (by simp [ha, hr]))
  · intro s t hw ha hc hr hl
    exact exec_eq_afterCore rfl hw (if_pos (gearStart_condition ha hc hr hl))
  · intro s t g since eyes hw ha hc
    exact exec_eq_afterCore (f := fun c => startResets (c.onHw (gearComplete t eyes))) rfl hw
      (congrArg (fun h => startResets { coreOf s with hw := h }) (gearComplete_changing eyes ha hc))
  · intro s d step hw hd
    exact exec_eq_after rfl hw (if_pos hd)
  · intro s pc bank i rest hw hm hl ha hg hp
    exact exec_eq_afterCore rfl hw (prioLine_granted hm hl ha hg hp)
  · intro s d eyes hw hm hd
    have hin : ¬((begin s.hw).mode != .run || dieState (begin s.hw) d != 1) = true := by simp [hm, hd]
    exact exec_eq_afterCore (f := fun c => startResets (c.onHw (resetDone d eyes))) rfl hw
      (congrArg (fun h => startResets { coreOf s with hw := h }) (if_neg hin))

end Sys2Proof.Machine

/-! Dictionary operations that are executed. -/

namespace Sys2Proof.Machine

/-- When an operation is one of a run of objects. -/
theorem namesRun_iff {b : OpBody} {op index lo hi : Nat} :
    b.namesRun op index lo hi = true ↔ b.op = op ∧ b.index = index ∧ lo ≤ b.sub ∧ b.sub ≤ hi := by
  simp only [OpBody.namesRun, Bool.and_eq_true, beq_iff_eq, decide_eq_true_eq, and_assoc]

/-- An operation of a run, with the run's operation and index written in. -/
theorem eq_of_namesRun {b : OpBody} {op index lo hi : Nat} (hb : b.namesRun op index lo hi = true) :
    b = { b with op := op, index := index } := by
  obtain ⟨rfl, rfl, -, -⟩ := namesRun_iff.mp hb
  rfl

/-- An operation of one object, with the object written in. -/
theorem eq_of_names {b : OpBody} {op index sub : Nat} (hb : b.names op index sub = true) :
    b = { b with op := op, index := index, sub := sub } := by
  obtain ⟨rfl, rfl, hlo, hhi⟩ := namesRun_iff.mp hb
  obtain rfl := Nat.le_antisymm hhi hlo
  rfl

section
variable {c : Instr} {x : Extra} {mine : OpBody → Bool} {s : State} {src : OpSource} {p : Nat} {b : OpBody} {h h' : Hw} {d : Core} {a : Answer}

/-- An operation whose action ends at once is answered with what the action answers. -/
theorem exec_answered_core (he : exec c s = runCore c.wf (dictOp x mine src) s) (hw : c.wf = true) (ht : Takes s src p b h) (hm : mine b = true)
    (hx : execute x { coreOf s with hw := h } p p b = .done d a) :
    exec c s = .next (afterCore s (d.onHw (fun h => answerNow h p b a true))) :=
  exec_eq_afterCore he hw (by rw [dictOp_takes x mine ht hm, hx])

/-- The same for an action that touches no stored line. -/
theorem exec_answered (he : exec c s = runCore c.wf (dictOp x mine src) s) (hw : c.wf = true) (ht : Takes s src p b h) (hm : mine b = true)
    (hx : execute x { coreOf s with hw := h } p p b = .done { coreOf s with hw := h' } a) :
    exec c s = .next (Answered s p b a h') :=
  exec_answered_core he hw ht hm hx

/-- An operation whose action goes on is answered PENDING. -/
theorem exec_waiting_core (he : exec c s = runCore c.wf (dictOp x mine src) s) (hw : c.wf = true) (ht : Takes s src p b h) (hm : mine b = true)
    (hx : execute x { coreOf s with hw := h } p p b = .wait d) :
    exec c s = .next (afterCore s (d.onHw (fun h => answerPending h p b true))) :=
  exec_eq_afterCore he hw (by rw [dictOp_takes x mine ht hm, hx])

/-- The same for an action that touches no stored line. -/
theorem exec_waiting (he : exec c s = runCore c.wf (dictOp x mine src) s) (hw : c.wf = true) (ht : Takes s src p b h) (hm : mine b = true)
    (hx : execute x { coreOf s with hw := h } p p b = .wait { coreOf s with hw := h' }) :
    exec c s = .next (Waiting s p b h') :=
  exec_waiting_core he hw ht hm hx

/-- A command of one object that is executed: the object's action. -/
theorem execute_cmd_names {index sub : Nat} (ht : Takes s src p b h) (hn : h.mode ≠ .off) (hb : b.names 3 index sub = true) :
    execute x { coreOf s with hw := h } p p b = cmdAct x { coreOf s with hw := h } p p { b with op := 3, index := index, sub := sub } := by
  obtain ⟨-, -, hr⟩ := ht
  rw [execute_cmd x _ p p b hr (namesRun_iff.mp hb).1 hn, ← eq_of_names hb]

/-- The same for a command of a run of objects. -/
theorem execute_cmd_namesRun {index lo hi : Nat} (ht : Takes s src p b h) (hn : h.mode ≠ .off) (hb : b.namesRun 3 index lo hi = true) :
    execute x { coreOf s with hw := h } p p b = cmdAct x { coreOf s with hw := h } p p { b with op := 3, index := index } := by
  obtain ⟨-, -, hr⟩ := ht
  rw [execute_cmd x _ p p b hr (namesRun_iff.mp hb).1 hn, ← eq_of_namesRun hb]

/-- A SET of one object that is executed. -/
theorem execute_set_names {index sub : Nat} (ht : Takes s src p b h) (hb : b.names 2 index sub = true) :
    execute x { coreOf s with hw := h } p p b = setAct { coreOf s with hw := h } p { b with op := 2, index := index, sub := sub } := by
  obtain ⟨-, -, hr⟩ := ht
  have hop : b.op = 2 := (namesRun_iff.mp hb).1
  rw [← eq_of_names hb, execute_takes x _ p p b hr]
  simp only [hop]

end

end Sys2Proof.Machine

/-! Actions of the block commands, by the branch they take. -/

namespace Sys2Proof.Machine

section
variable {c : Core} {p : Nat}

/-- A new bring-up begins at the start rate, but for a stack that does not run, is asleep or in BIST, or is scrap (R86). -/
theorem retrainAct_starts (hm : c.hw.mode = .run) (hp : obj c.hw 0x7000 1 ≤ 1) (hb : obj c.hw 0xB010 2 ≠ 1) (hl : lifecycle c.hw ≠ 3)
    (hd : c.hw.test.bistLinkDown = false) : retrainAct c = actHw c (startDetect c.hw (startRate c.hw)) := by
  simp only [retrainAct, hm, Nat.not_lt.mpr hp, beq_eq_false_iff_ne.mpr hb, beq_eq_false_iff_ne.mpr hl, hd, bne_self_eq_false, decide_false,
    Bool.or_self, Bool.false_eq_true, if_false]

/-- A pattern on an upstream laneset in service begins at once (R88). -/
theorem patternAct_upstream {ls v : Nat} (hv : v ≠ 0) (ha : awake c.hw = true) (hl : linkActive c.hw = true) (hi : inService c.hw ls = true)
    (hu : ls < 16) : patternAct c p ls v = actHw c (startTest c.hw ls v) := by
  simp only [patternAct, hv, ha, hl, hi, hu, Bool.not_true, Bool.or_self, Bool.false_eq_true, if_false, if_true]

/-- On a downstream one the operation waits for the host (R88). -/
theorem patternAct_downstream {ls v : Nat} (hv : v ≠ 0) (ha : awake c.hw = true) (hl : linkActive c.hw = true) (hi : inService c.hw ls = true)
    (hd : 16 ≤ ls) :
    patternAct c p ls v = .wait { c with hw := setLaneset (startTest c.hw ls v) ls { laneset (startTest c.hw ls v) ls with testPath := some p } } := by
  simp only [patternAct, hv, ha, hl, hi, Nat.not_lt.mpr hd, Bool.not_true, Bool.or_self, Bool.false_eq_true, if_false]

/-- A repair of an upstream position is asked of the host while the link is in ACTIVE (R105). -/
theorem repairAct_upstream {ls pos : Nat} (hu : ls < 16) (ha : awake c.hw = true) (hl : linkActive c.hw = true) :
    repairAct c ls pos =
      actHw c (sendCtl c.hw (.repairReq ls ((stripeAt (laneset c.hw ls) pos).getD 0xFF) ((laneset c.hw ls).spare.getD 0xFF))) := by
  simp only [repairAct, hu, ha, hl, Bool.and_self, if_true]

/-- Nothing is sent outside ACTIVE (assumption 166). -/
theorem repairAct_upstream_inactive {ls pos : Nat} (hu : ls < 16) (hn : awake c.hw = false ∨ linkActive c.hw = false) :
    repairAct c ls pos = actHw c c.hw := by
  simp only [repairAct, hu, Bool.and_eq_false_iff.mpr hn, Bool.false_eq_true, if_true, if_false]

/-- A downstream position that carries a stripe lane is repaired with the spare (R105). -/
theorem repairAct_downstream {ls pos st sp : Nat} (hd : 16 ≤ ls) (ha : awake c.hw = true) (hl : linkActive c.hw = true)
    (hi : inService c.hw ls = true) (hst : stripeAt (laneset c.hw ls) pos = some st) (hsp : (laneset c.hw ls).spare = some sp) :
    repairAct c ls pos = actHw c (askRepair c.hw ls pos false) := by
  simp only [repairAct, Nat.not_lt.mpr hd, ha, hl, hi, hst, hsp, Bool.not_true, Option.isNone_some, Bool.or_self, Bool.false_eq_true, if_false]

/-- Otherwise the repair is NOT_READY. -/
theorem repairAct_downstream_refused {ls pos : Nat} (hd : 16 ≤ ls)
    (hn : awake c.hw = false ∨ linkActive c.hw = false ∨ inService c.hw ls = false ∨ stripeAt (laneset c.hw ls) pos = none ∨
      (laneset c.hw ls).spare = none) : repairAct c ls pos = actHw c c.hw .notReady := by
  refine (if_neg (Nat.not_lt.mpr hd)).trans (if_pos ?_)
  simpa only [Bool.or_eq_true, Bool.not_eq_true', Option.isNone_iff_eq_none, or_assoc] using hn

/-- Pins or unpins a run of parcels (R167). -/
theorem pinAct_run {n : Nat} (on : Bool) (hr : obj c.hw 0x4001 1 p + n ≤ parcels) (ha : awake c.hw = true) :
    pinAct c p n on = actHw c ((span (obj c.hw 0x4001 1 p) n).foldl (fun h q =>
      let r := lookup h q
      if entPinned r.2 = on then r.1 else setRoute r.1 q (entryOf (entTrack r.2) (entSlot r.2) (entState r.2) (entReleased r.2) on)) c.hw) := by
  simp only [pinAct, Nat.not_lt.mpr hr, ha, Bool.not_true, Bool.false_eq_true, if_false]

/-- Dies that take a reset are queued for it, and what can begin does (R33, R192). -/
theorem arrayResetAct_queued {dies : List Nat} (hd : ∀ d ∈ dies, resetBarred c.hw d = false) :
    arrayResetAct c p dies =
      .wait (startResets (c.onHw (fun h => { h with chans := { h.chans with resets := h.chans.resets ++ [(p, dies)] } }))) := by
  have hf : dies.find? (resetBarred c.hw) = none := by simpa only [List.find?_eq_none, Bool.not_eq_true] using hd
  simp only [arrayResetAct, hf]

/-- One die that takes none refuses the command for all (R25). -/
theorem arrayResetAct_refused {dies : List Nat} {d : Nat} (hd : dies.find? (resetBarred c.hw) = some d) :
    arrayResetAct c p dies = .done c { status := .notReady, selector := some (unitSel 2 d), total := 4 } := by
  simp only [arrayResetAct, hd]

/-- A stored entry's check bits are inverted while no such injection is pending (R299). -/
theorem injectRouteAct_idle {v : Nat} (hn : c.hw.place.sramBad = []) :
    injectRouteAct c v = actHw c
      (let h := setPlace c.hw { c.hw.place with sramBad := tput 0 [] (v % 2097152) (if bitAt v 21 then 2 else 1) }
       { h with react := { h.react with injected := h.react.injected + 1 } }) := by
  simp only [injectRouteAct, hn, List.isEmpty_nil, Bool.not_true, Bool.false_eq_true, if_false]

/-- Work on the rest of the stack after such work. -/
theorem onHw_onHw (f g : Hw → Hw) : (c.onHw f).onHw g = c.onHw (fun h => g (f h)) := rfl

/-- The line's check symbols are inverted where it lies, after what the write queue holds of it (R299). -/
theorem injectLineAct_live (ha : awake c.hw = true) (hr : entReleased (lookup c.hw (obj c.hw 0x9B00 1 p / 1024)).2 = false)
    (hd : dieOn (lookup c.hw (obj c.hw 0x9B00 1 p / 1024)).1
      (lineDie (physOf (lookup c.hw (obj c.hw 0x9B00 1 p / 1024)).2 (obj c.hw 0x9B00 1 p))) = true) :
    injectLineAct c p =
      let line := obj c.hw 0x9B00 1 p
      let t := (lookup c.hw (line / 1024)).1
      let n := physOf (lookup c.hw (line / 1024)).2 line
      let c : Core := { c with hw := t }
      let c := match wqFind t n with | some w => drainEntry c w | none => c
      .done ((c.storeLine n (cellBits c n ^^^ checkMask (obj t 0x9B00 2 p))).onHw (fun h =>
        let k := chSt h (chOf (pPc n))
        let h := setCh h (chOf (pPc n)) { k with corr := k.corr.map (fun x => if x.phys == n then { x with stale := true } else x) }
        let h := markDirty { h with chans := { h.chans with specPoison := tdel h.chans.specPoison n } } (line / 1024) (line % 1024)
        { h with react := { h.react with injected := h.react.injected + 1 } })) okAnswer := by
  simp only [injectLineAct, ha, hr, hd, if_true, Bool.not_true, Bool.or_self, Bool.false_eq_true, if_false, okAnswer] <;> rfl

/-- An abort that names no job of the port (R252). -/
theorem abortAct_no_job {v : Nat} (hj : jobNamed c.hw (field v 17 16) (v % 65536) = none) :
    abortAct c v = .done c { status := .noSuchJob, total := 4 } := by
  simp only [abortAct, abortTarget, hj, Option.bind_none]

/-- Of a job past its commit point, or ended, an abort changes nothing; what still waits to be sent goes if it can (assumption 159). -/
theorem abortAct_too_late {v j : Nat} {q : Job} (hj : jobNamed c.hw (field v 17 16) (v % 65536) = some j) (hq : jobAt c.hw j = some q)
    (hl : q.committed = true ∨ q.status.isSome = true) :
    abortAct c v = .done (tryComplete j q c).1 { status := .alreadyComplete, total := 4 } := by
  have ha : abortStatus q ≠ 0 := by simp [abortStatus, hl]
  simp only [abortAct, abortTarget, stopTarget, hj, hq, ha, Option.bind_some, Option.map_some, if_false]

/-- A job that runs has nothing to send. -/
theorem tryComplete_running {j : Nat} {q : Job} (hs : q.status = none) : tryComplete j q c = (c, false) := by
  simp only [tryComplete, hs]

/-- Before its commit point it ends, without a result of its own (R240). -/
theorem abortAct_running {v j : Nat} {q q' : Job} (hj : jobNamed c.hw (field v 17 16) (v % 65536) = some j) (hq : jobAt c.hw j = some q)
    (hs : q.status = none) (hc : q.committed = false) (hq' : jobAt (endJob c.hw j 5 (noResult q)) j = some q') :
    abortAct c v = .done (tryComplete j q' { c with hw := endJob c.hw j 5 (noResult q) }).1 okAnswer := by
  have ha : abortStatus q = 0 := by simp [abortStatus, hs, hc]
  simp only [abortAct, abortTarget, stopTarget, hj, hq, ha, Option.bind_some, Option.map_some, if_true, Core.onHw, hq', okAnswer]

/-- BEGIN reserves the lowest free slot of the kernel store (R241). -/
theorem beginLoadAct_reserves {k : Nat} (hb : loadsBarred c.hw = false)
    (hf : (List.range 64).find? (fun k => !thas (dropLoad c.hw p).jobs.store k && (dropLoad c.hw p).jobs.loads.all (fun l => l.2.1 != k)) = some k) :
    beginLoadAct c p = actHw c
      (let h := dropLoad c.hw p
       setObj (forgetSegment (setLoad h p (some (k, obj h 0x6100 1 p, []))) p) 0x6104 1 0 (obj h 0x6104 1 - 1)) := by
  simp only [beginLoadAct, hb, Bool.false_eq_true, if_false, hf]

/-- An image whose CRC agrees becomes the active version of its kernel number (R241). -/
theorem activateAct_good {v slot k : Nat} {bs : List Byte} (hb : loadsBarred c.hw = false) (hl : tfind c.hw.jobs.loads p = some (slot, k, bs))
    (hv : crc32c bs = v) (hs : bs.length ≤ 16384) :
    activateAct c p v = actHw c
      (let h := forgetSegment (setLoad c.hw p none) p
       let h := setJobs h { h.jobs with store := tset h.jobs.store slot bs }
       freeStore (setObj (bump h 0x6101 k) 0x6102 k 0 slot) (obj c.hw 0x6102 k)) := by
  simp only [activateAct, hb, hl, hv, Nat.not_lt.mpr hs, bne_self_eq_false, decide_false, Bool.or_self, Bool.false_eq_true, if_false]

/-- Any other image is dropped (R241). -/
theorem activateAct_bad {v slot k : Nat} {bs : List Byte} (hb : loadsBarred c.hw = false) (hl : tfind c.hw.jobs.loads p = some (slot, k, bs))
    (hv : crc32c bs ≠ v ∨ 16384 < bs.length) : activateAct c p v = actHw c (dropLoad c.hw p) .badValue := by
  have hbad : (crc32c bs != v || decide (16384 < bs.length)) = true := by
    simpa only [Bool.or_eq_true, bne_iff_ne, decide_eq_true_eq] using hv
  simp only [activateAct, hb, hl, hbad, Bool.false_eq_true, if_false, if_true]

/-- A segment of a kernel image that continues the load of its path replaces what was received (R241, R367). -/
theorem setAct_kernel_image {b : OpBody} {r : ObjRow} {slot k : Nat} {bs v : List Byte} (hn : c.hw.mode ≠ .off) (hi : b.index = 0x6100)
    (hs : b.sub = 2) (hr : rowAt 0x6100 2 = some r) (hb : loadsBarred c.hw = false) (hl : tfind c.hw.jobs.loads p = some (slot, k, bs))
    (hv : segment c.hw (segKey 0x6100 2 p) (segmentMax r) bs b.offset b.data = some (some v)) :
    setAct c p b = .done { c with hw :=
      let h := setLoad c.hw p (some (slot, k, v))
      { h with dict := { h.dict with segments := tset h.dict.segments (segKey 0x6100 2 p) (b.offset, b.data.length) } } } { status := .ok, total := v.length } := by
  have hseg : segmented 0x6100 2 = true := by decide
  simp only [setAct, hi, hs, hr, beq_iff_eq, hn, if_false, hseg, if_true, setBytesAct, Nat.reduceEqDiff, false_and, segmentBase, loadBytes, hl,
    hv, putBytes, writeLoad, hb, Bool.false_eq_true, Option.map_some, Core.onHw]

/-- The two counters of a checker are 8 bytes wide for every lane (Table 3.10). -/
theorem rowAt_checker {idx sub : Nat} (hi : idx = 0x2231 ∨ idx = 0x2232) (hs : sub ≤ 0xD7) :
    rowAt idx sub = some ⟨idx, 0x00, 0xD7, .u64, .ro, 0, 0, false, 8⟩ := by
  rcases hi with rfl | rfl <;>
    simp only [rowAt, objGroup, Nat.reduceDiv, objs22, Nat.reduceBEq, Bool.false_and, Bool.false_eq_true, not_false_eq_true,
      List.find?_cons_of_neg, Nat.zero_le, decide_true, Bool.and_true, hs, Nat.le_zero_eq, BEq.rfl, Bool.and_self, List.find?_cons_of_pos]

/-- A GET of one of them latches both (R87). -/
theorem getAct_checker (x : Extra) {b : OpBody} (hi : b.index = 0x2231 ∨ b.index = 0x2232) (hs : b.sub ≤ 0xD7) :
    getAct x c p b =
      .done { c with hw := (readChecker (countChecker c.hw b.sub x.bits x.errors) b.index b.sub).2 }
        { status := .ok, count := 1, total := 8, data := leBytes 8 (readChecker (countChecker c.hw b.sub x.bits x.errors) b.index b.sub).1 } := by
  have hr := rowAt_checker hi hs
  have hseg : segmented b.index b.sub = false := by simp only [segmented, hr]; rfl
  simp only [getAct, hr, hseg, Bool.false_eq_true, if_false, readObj, hi, if_true]

end

/-- A read of a checker's counter that is executed. -/
theorem execute_checker {x : Extra} {s : State} {src : OpSource} {p : Nat} {b : OpBody} {h : Hw} (ht : Takes s src p b h)
    (hb : b.readsChecker = true) :
    execute x { coreOf s with hw := h } p p b =
      .done { coreOf s with hw := (readChecker (countChecker h b.sub x.bits x.errors) b.index b.sub).2 }
        { status := .ok, count := 1, total := 8, data := leBytes 8 (readChecker (countChecker h b.sub x.bits x.errors) b.index b.sub).1 } := by
  obtain ⟨-, -, hr⟩ := ht
  have hb' : b.op = 1 ∧ (b.index = 0x2231 ∨ b.index = 0x2232) ∧ b.sub ≤ 0xD7 := by
    simp only [OpBody.readsChecker, Bool.or_eq_true, namesRun_iff] at hb
    omega
  obtain ⟨hop, hi, hs⟩ := hb'
  rw [execute_takes x _ p p b hr]
  simp only [hop]
  exact getAct_checker x hi hs

/-- Settles O51: each operation is executed (`execute_cmd_names` and its kin), and the lemma about its object's action says what it leaves
and how it is answered. -/
theorem blockCommandsComplete : Obligations.BlockCommandsComplete := by
  unfold Obligations.BlockCommandsComplete
  intro s src p b h ht hn
  refine ⟨?_, ?_, ?_, ?_, ?_, ?_, ?_, ?_, ?_, ?_, ?_, ?_, ?_, ?_, ?_, ?_, ?_, ?_, ?_, ?_, ?_⟩
  · intro bits errors hw hb
    exact exec_answered (x := { bits := bits, errors := errors }) rfl hw ht hb (execute_checker ht hb)
  · intro hw hb
    exact exec_answered (x := {}) rfl hw ht hb (execute_cmd_namesRun ht hn hb)
  · intro hw hb hm hp ht' hl hd
    exact exec_answered (x := {}) rfl hw ht hb ((execute_cmd_names ht hn hb).trans (retrainAct_starts hm hp ht' hl hd))
  · intro hw hb
    have hx := execute_cmd_namesRun (x := {}) ht hn hb
    refine ⟨fun hv => exec_answered rfl hw ht hb (hx.trans (if_pos hv)), fun hv ha hl hi => ⟨fun hu => ?_, fun hd => ?_⟩⟩
    · exact exec_answered rfl hw ht hb (hx.trans (patternAct_upstream hv ha hl hi hu))
    · exact exec_waiting rfl hw ht hb (hx.trans (patternAct_downstream hv ha hl hi hd))
  · intro hw hb
    have hx := execute_cmd_namesRun (x := {}) ht hn hb
    exact ⟨fun hu ha hl => exec_answered rfl hw ht hb (hx.trans (repairAct_upstream hu ha hl)),
      fun hu hi => exec_answered rfl hw ht hb (hx.trans (repairAct_upstream_inactive hu hi)),
      fun st sp hd ha hl hi hst hsp => exec_answered rfl hw ht hb (hx.trans (repairAct_downstream hd ha hl hi hst hsp)),
      fun hd hr => exec_answered rfl hw ht hb (hx.trans (repairAct_downstream_refused hd hr))⟩
  · intro hw hb
    have hx := execute_cmd_names (x := {}) ht hn hb
    exact ⟨fun hr ha => exec_answered rfl hw ht hb (hx.trans (pinAct_run true hr ha)),
      fun hr => exec_answered rfl hw ht hb (hx.trans (if_pos hr))⟩
  · intro hw hb
    have hx := execute_cmd_names (x := {}) ht hn hb
    exact ⟨fun hr ha => exec_answered rfl hw ht hb (hx.trans (pinAct_run false hr ha)),
      fun hr => exec_answered rfl hw ht hb (hx.trans (if_pos hr))⟩
  · intro hw hb
    have hx := execute_cmd_names (x := {}) ht hn hb
    exact ⟨fun hd => exec_waiting_core rfl hw ht hb (hx.trans (arrayResetAct_queued hd)),
      fun d hd => exec_answered rfl hw ht hb (hx.trans (arrayResetAct_refused hd))⟩
  · intro hw hb ha line t e n hr hd
    have hexec := exec_answered_core (c := .injectStoredLine src) (x := {}) rfl hw ht hb
      ((execute_cmd_names ht hn hb).trans (injectLineAct_live ha hr hd))
    rw [onHw_onHw] at hexec
    exact hexec
  · intro hw hb hi
    exact exec_answered (x := {}) rfl hw ht hb ((execute_cmd_names ht hn hb).trans (if_neg (by simp [hi])))
  · intro hw hb hi
    exact exec_answered (x := {}) rfl hw ht hb ((execute_cmd_names ht hn hb).trans (if_neg (by simp [hi])))
  · intro hw hb hi
    exact exec_answered (x := {}) rfl hw ht hb ((execute_cmd_names ht hn hb).trans (if_neg (by simp [hi])))
  · intro hw hb hi
    exact exec_answered (x := {}) rfl hw ht hb ((execute_cmd_names ht hn hb).trans (if_neg (by simp [hi])))
  · intro hw hb hi
    exact exec_answered (x := {}) rfl hw ht hb ((execute_cmd_names ht hn hb).trans (injectRouteAct_idle hi))
  · intro hw hb
    have hx := execute_cmd_names (x := {}) ht hn hb
    refine ⟨fun hj => exec_answered_core rfl hw ht hb (hx.trans (abortAct_no_job hj)),
      fun j q hj hq => ⟨fun hs hc => ?_, fun st hs => ?_, fun q' hs hc hq' => ?_⟩⟩
    · have hact := abortAct_too_late (c := { coreOf s with hw := h }) hj hq (.inl hc)
      rw [tryComplete_running hs] at hact
      exact exec_answered_core rfl hw ht hb (hx.trans hact)
    · exact exec_answered_core rfl hw ht hb (hx.trans (abortAct_too_late hj hq (.inr (by simp [hs]))))
    · exact exec_answered_core rfl hw ht hb (hx.trans (abortAct_running hj hq hs hc hq'))
  · intro hw hb he
    exact exec_answered (x := {}) rfl hw ht hb ((execute_cmd_namesRun ht hn hb).trans (if_pos he))
  · intro k hw hb hl hf
    exact exec_answered (x := {}) rfl hw ht hb ((execute_cmd_names ht hn hb).trans (beginLoadAct_reserves hl hf))
  · intro r v slot k bs hw hb hr hl hf hv
    exact exec_answered (x := {}) rfl hw ht hb ((execute_set_names ht hb).trans (setAct_kernel_image hn rfl rfl hr hl hf hv))
  · intro slot k bs hw hb hl hf
    have hx := execute_cmd_names (x := {}) ht hn hb
    exact ⟨fun hv hs => exec_answered rfl hw ht hb (hx.trans (activateAct_good hl hf hv hs)),
      fun hv => exec_answered rfl hw ht hb (hx.trans (activateAct_bad hl hf hv))⟩
  · intro hw hb
    exact exec_answered (x := {}) rfl hw ht hb (execute_cmd_namesRun ht hn hb)
  · intro hw hb hs
    exact exec_waiting (x := {}) rfl hw ht hb ((execute_cmd_names ht hn hb).trans (if_pos hs))

end Sys2Proof.Machine

/-! Registers by their index. -/

namespace Sys2Proof.Machine

/-- A write leaves every register of a larger index alone, whatever the subindex and unit read. -/
theorem obj_setObj_of_idx_lt (h : Hw) (v : Nat) {i j u i' : Nat} (j' u' : Nat) (hi : i < i') (hj : j < 256) (hu : u < 4096) :
    obj (setObj h i j u v) i' j' u' = obj h i' j' u' :=
  obj_setObj_other h v (by unfold regKey; omega)

/-- A write leaves every register of a smaller index alone, whatever the subindex and unit written. -/
theorem obj_setObj_of_lt_idx (h : Hw) (v : Nat) {i j' u' i' : Nat} (j u : Nat) (hi : i' < i) (hj : j' < 256) (hu : u' < 4096) :
    obj (setObj h i j u v) i' j' u' = obj h i' j' u' :=
  obj_setObj_other h v (by unfold regKey; omega)

/-- A write leaves every other subindex of its object alone. -/
theorem obj_setObj_other_sub (h : Hw) (i u v : Nat) {j j' : Nat} (hj : j' ≠ j) : obj (setObj h i j u v) i j' u = obj h i j' u :=
  obj_setObj_other h v (by unfold regKey; omega)

end Sys2Proof.Machine

/-! Tap sets of the upstream lanes (R41, R45). -/

namespace Sys2Proof.Machine

/-- A set out of range is refused with status 1 (R41). -/
theorem tryTaps_out_of_range {h : Hw} {c : List Int} (ln : Nat) (hr : tapsInRange c = false) :
    tryTaps h ln c = (refuseTaps h ln 1 none, 1) := by
  simp only [tryTaps, hr, Bool.not_false, if_true]

/-- A set that fails a point of the mask is refused with status 2 and that point (R45). -/
theorem tryTaps_fails_point {h : Hw} {c : List Int} {n : Nat} (ln : Nat) (hr : tapsInRange c = true)
    (hf : failingPoint c (laneRate h) (maskWords h) = some n) : tryTaps h ln c = (refuseTaps h ln 2 (some n), 2) := by
  simp only [tryTaps, hr, hf, Bool.not_true, Bool.false_eq_true, if_false]

/-- Any other set is driven. -/
theorem tryTaps_driven {h : Hw} {c : List Int} (ln : Nat) (hr : tapsInRange c = true)
    (hf : failingPoint c (laneRate h) (maskWords h) = none) : tryTaps h ln c = (setObj h 0x2100 ln 0 (tapWord c), 0) := by
  simp only [tryTaps, hr, hf, Bool.not_true, Bool.false_eq_true, if_false]

/-- A tap set is driven, or refused with a status. -/
theorem tryTaps_cases (h : Hw) (ln : Nat) (c : List Int) :
    tryTaps h ln c = (setObj h 0x2100 ln 0 (tapWord c), 0) ∨ ∃ st point, tryTaps h ln c = (refuseTaps h ln st point, st) := by
  cases hr : tapsInRange c with
  | false => exact .inr ⟨1, none, tryTaps_out_of_range ln hr⟩
  | true =>
    cases hf : failingPoint c (laneRate h) (maskWords h) with
    | none => exact .inl (tryTaps_driven ln hr hf)
    | some n => exact .inr ⟨2, some n, tryTaps_fails_point ln hr hf⟩

section
variable (h : Hw) (ln status : Nat) (point : Option Nat)

/-- A refusal shows its status. -/
theorem refuseTaps_status : obj (refuseTaps h ln status point) 0x2011 1 = status := by
  cases point <;> simp [refuseTaps, bump, bumpBy, obj_setObj_other_sub]

/-- It shows its lane. -/
theorem refuseTaps_lane : obj (refuseTaps h ln status point) 0x2011 2 = ln := by
  cases point <;> simp [refuseTaps, bump, bumpBy, obj_setObj_other_sub]

/-- It shows the point that failed. -/
theorem refuseTaps_point (n : Nat) : obj (refuseTaps h ln status (some n)) 0x2011 3 = n := by
  simp [refuseTaps, bump, bumpBy, obj_setObj_other_sub]

/-- It is counted. -/
theorem refuseTaps_count : obj (refuseTaps h ln status point) 0x2011 4 = satAdd 32 (obj h 0x2011 4) 1 := by
  have hwidth : objWidth 0x2011 4 = 32 := by decide
  cases point <;> simp [refuseTaps, bump, obj_bumpBy_same, obj_setObj_other_sub, hwidth]

/-- It leaves the active set of every lane. -/
theorem refuseTaps_keeps_taps (n : Nat) : obj (refuseTaps h ln status point) 0x2100 n = obj h 0x2100 n := by
  cases point <;> simp [refuseTaps, bump, bumpBy, obj_setObj_of_idx_lt]

end

/-- Settles O4: the three outcomes of `tryTaps`, and what a refusal writes. -/
theorem onlyLegalTapsAreDriven : Obligations.OnlyLegalTapsAreDriven := by
  unfold Obligations.OnlyLegalTapsAreDriven
  intro h ln c _
  refine ⟨tryTaps_driven ln, fun hr => ?_, fun n hr hf => ?_, fun hst => ?_, fun n _ hn => ?_⟩
  · rw [tryTaps_out_of_range ln hr]
    exact ⟨rfl, refuseTaps_status h ln 1 none⟩
  · rw [tryTaps_fails_point ln hr hf]
    exact ⟨rfl, refuseTaps_status h ln 2 (some n), refuseTaps_point h ln 2 n⟩
  · obtain hd | ⟨st, point, hd⟩ := tryTaps_cases h ln c
    · exact absurd (congrArg Prod.snd hd) hst
    · rw [hd]
      exact ⟨refuseTaps_lane h ln st point, refuseTaps_count h ln st point, refuseTaps_keeps_taps h ln st point⟩
  · obtain hd | ⟨st, point, hd⟩ := tryTaps_cases h ln c
    · rw [hd]
      exact obj_setObj_other_sub h 0x2100 0 (tapWord c) hn
    · rw [hd]
      exact refuseTaps_keeps_taps h ln st point n

end Sys2Proof.Machine

/-! Lane condition events, by the branch they take. -/

namespace Sys2Proof.Machine

/-- A loss of pilots that tells something (R52, R86). -/
theorem lockLost_heard {ln : Nat} {h : Hw} (hh : heard h ln = true) :
    lockLost ln h =
      let h := raise (bump (setLane h ln { lane h ln with lost := true }) 0x2118 ln) Src.laneLockLost
      let h := linkEvent h 2 (ln / 9)
      let h := if judged h ln = true then laneFailed h ln else showAdapt h (ln / 9)
      if allLost h then startDetect h (startRate h) else h := by
  simp only [lockLost, hh, Bool.not_true, Bool.false_eq_true, if_false]

/-- Four pairing errors in a row fail the lane (R72). -/
theorem pairingFailed_fourth {ln : Nat} {h : Hw} (hj : judged h ln = true) (hp : 4 ≤ (lane h ln).pairRun) :
    pairingFailed ln h = laneFailed h ln := by
  simp only [pairingFailed, hj, hp, decide_true, Bool.and_self, if_true]

/-- The window of a judged lane ends (Table 3.7). -/
theorem windowEnd_judged {ln : Nat} {h : Hw} (hj : judged h ln = true) :
    windowEnd ln h =
      let n := (lane h ln).windowBits
      let h := setLane h ln { lane h ln with windowBits := 0 }
      if n ≥ obj h 0x2220 2 then laneFailed h ln else if n ≥ obj h 0x2220 1 then askRepair h (ln / 9) (ln % 9) false else h := by
  simp only [windowEnd, hj, Bool.not_true, Bool.false_eq_true, if_false]

/-- A mapped lane without pilot lock after its laneset's wake is failed (R89). -/
theorem wakeLockTimeout_unlocked {ln : Nat} {h : Hw} (hj : judged h ln = true) (hi : inService h (ln / 9) = true)
    (hs : (stripeAt (laneset h (ln / 9)) (ln % 9)).isSome = true) (hl : (lane h ln).locked = false) :
    wakeLockTimeout ln h = laneFailed h ln := by
  simp only [wakeLockTimeout, hj, hi, hs, hl, Bool.not_false, Bool.and_self, if_true]

/-- A drift hold that is in force ends (R56). -/
theorem driftHoldEnd_held {ln : Nat} {h : Hw} (hh : (lane h ln).holdEnd.isSome = true) :
    driftHoldEnd ln h = showAdapt (setLane h ln { lane h ln with holdEnd := none, thawed := some (now h) }) (ln / 9) := by
  simp only [driftHoldEnd, Option.isNone_eq_false_iff.mpr hh, Bool.false_eq_true, if_false]

/-- Settles O5: each event's function, on the state that the clause describes, takes the branch of the event. -/
theorem laneConditionEventsComplete : Obligations.LaneConditionEventsComplete := by
  unfold Obligations.LaneConditionEventsComplete
  refine ⟨?_, ?_, ?_, ?_, ?_, ?_, ?_⟩
  · intro s ls frames decoded iters hw
    exact exec_eq_after rfl hw rfl
  · intro s ln hw hh
    exact exec_eq_after rfl hw (lockLost_heard hh)
  · intro s ln hw hj hp
    exact exec_eq_after rfl hw (pairingFailed_fourth hj hp)
  · intro s ln hw hj
    exact exec_eq_after rfl hw (windowEnd_judged hj)
  · intro s ln hw hj hi hs hl
    exact exec_eq_after rfl hw (wakeLockTimeout_unlocked hj hi hs hl)
  · intro s ln cal hw ha
    exact exec_eq_after rfl hw (if_pos ha)
  · intro s ln hw hh
    exact exec_eq_after rfl hw (driftHoldEnd_held hh)

end Sys2Proof.Machine

/-! The phases of a hitless repair (Table 3.8), by the branch they take. -/

namespace Sys2Proof.Machine

/-- REPAIR_REQ for the idle spare starts the mirror (step 2). -/
theorem repairReq_idle_spare {ls pos : Nat} (stripe : Nat) {h : Hw} (ha : awake h = true)
    (hi : inService (fillIdle (wakeLaneset ls h) ls) ls = true) (hm : (laneset (fillIdle (wakeLaneset ls h) ls) ls).mirror = none)
    (hs : (laneset (fillIdle (wakeLaneset ls h) ls) ls).spare = some pos) :
    repairReq ls stripe pos h =
      let h := fillIdle (wakeLaneset ls h) ls
      let l := laneset h ls
      sendCtl (setLaneset h ls { l with mirror := some { stripe := stripe, oldPos := l.map.getD stripe 0, spare := pos, phase := .training } })
        (.mirrorOn ls stripe pos l.cwCount) := by
  simp only [repairReq, ha, hi, hm, hs, Bool.not_true, Option.isNone_none, beq_self_eq_true, Bool.and_self, Bool.false_eq_true, if_false, if_true]

section
variable {ls : Nat} {m : Mirror} {h : Hw} (ha : awake h = true) (hm : (laneset h ls).mirror = some m)
include ha hm

/-- MIRROR_ON for the mirror that was asked for starts the spare's training (step 3). -/
theorem mirrorOn_asked {stripe : Nat} (hp : m.phase = .asked) (hs : m.stripe = stripe) :
    mirrorOn ls stripe h = setLaneset h ls { laneset h ls with mirror := some { m with phase := .training } } := by
  simp only [mirrorOn, hm, ha, hp, hs, beq_self_eq_true, Bool.and_self, if_true]

/-- The trained spare names the switch (step 4). -/
theorem spareTrained_training {t : Trained} (hp : m.phase = .training) (hs : t.pos = m.spare) :
    spareTrained ls t h =
      let count := ((laneset h ls).cwCount + 64) % 4294967296
      sendCtl (setLaneset (storeTrained h ls t) ls { laneset h ls with mirror := some { m with phase := .switching, switchAt := count } })
        (.switch ls m.stripe m.spare count) := by
  have hl : laneset (storeTrained h ls t) ls = laneset h ls := rfl
  simp only [spareTrained, hm, ha, hp, hs, hl, beq_self_eq_true, Bool.and_self, if_true]

/-- SWITCH is noted (step 4). -/
theorem takeSwitch_training {stripe : Nat} (count : Nat) (hp : m.phase = .training) (hs : m.stripe = stripe) :
    takeSwitch ls stripe count h =
      setLaneset h ls { laneset h ls with mirror := some { m with phase := .switching, switchAt := count } } := by
  simp only [takeSwitch, hm, ha, hp, hs, beq_self_eq_true, Bool.and_self, if_true]

/-- At the named codeword the stripe lane moves to the spare (steps 4 and 5). -/
theorem switchOver_switching (hp : m.phase = .switching) :
    switchOver ls h =
      sendCtl (showMap (bump (setLaneset h ls { switchMap (laneset h ls) m with mirror := some { m with phase := .switched } }) 0x2220 3) ls)
        (.repairDone ls m.stripe m.oldPos) := by
  simp only [switchOver, hm, ha, hp, beq_self_eq_true, Bool.and_self, if_true]

/-- REPAIR_DONE moves it on an upstream laneset (step 5). -/
theorem repairDone_switching {stripe : Nat} (hp : m.phase = .switching) (hs : m.stripe = stripe) :
    repairDone ls stripe h = showMap (bump (setLaneset h ls { switchMap (laneset h ls) m with mirror := none }) 0x2220 3) ls := by
  simp only [repairDone, hm, ha, hp, hs, beq_self_eq_true, Bool.and_self, if_true]

/-- The replaced lane has trained, and the next request starts (R57, R59). -/
theorem retrainComplete_switched (t : Trained) (hp : m.phase = .switched) :
    retrainComplete ls t h =
      let n := laneOf ls m.oldPos
      let k := storeTrained h ls { t with pos := m.oldPos }
      let k := thawLane (if m.drift then bump k 0x2115 n else k) n
      showAdapt (nextRepair (setLaneset k ls { laneset h ls with mirror := none }) ls) ls := by
  have hk : laneset (thawLane (if m.drift then bump (storeTrained h ls { t with pos := m.oldPos }) 0x2115 (laneOf ls m.oldPos)
      else storeTrained h ls { t with pos := m.oldPos }) (laneOf ls m.oldPos)) ls = laneset h ls := by
    cases m.drift <;> rfl
  simp only [retrainComplete, hm, ha, hp, hk, beq_self_eq_true, Bool.and_self, if_true]

end

/-- Settles O7: each message or event, in the phase that the clause names, takes the branch of its step. -/
theorem repairPhasesComplete : Obligations.RepairPhasesComplete := by
  unfold Obligations.RepairPhasesComplete
  refine ⟨?_, ?_, ?_, ?_, ?_, ?_, ?_⟩
  · intro s ls stripe pos hw ha h l hi hm hs
    exact exec_eq_after rfl hw (repairReq_idle_spare stripe ha hi hm hs)
  · intro s ls stripe pos count m hw ha hm hp hs
    exact exec_eq_after rfl hw (mirrorOn_asked (h := begin s.hw) ha hm hp hs)
  · intro s ls t m hw ha hm hp hs
    exact exec_eq_after rfl hw (spareTrained_training (h := begin s.hw) ha hm hp hs)
  · intro s ls stripe pos count m hw ha hm hp hs
    exact exec_eq_after rfl hw (takeSwitch_training (h := begin s.hw) ha hm count hp hs)
  · intro s ls m hw ha hm hp
    exact exec_eq_after rfl hw (switchOver_switching (h := begin s.hw) ha hm hp)
  · intro s ls stripe pos m hw ha hm hp hs
    exact exec_eq_after rfl hw (repairDone_switching (h := begin s.hw) ha hm hp hs)
  · intro s ls t m hw ha hm hp
    exact exec_eq_after rfl hw (retrainComplete_switched (h := begin s.hw) ha hm t hp)

end Sys2Proof.Machine

/-! Lane frames, scrambling and back-channel messages read back. -/

namespace Sys2Proof.Machine

/-! Symbols and the precoder (R36, R37). -/

theorem symIndex_lt (a b : Bool) : symIndex a b < 4 := by
  cases a <;> cases b <;> decide

@[simp] theorem symPair_symIndex (a b : Bool) : symPair (symIndex a b) = (a, b) := by
  cases a <;> cases b <;> rfl

theorem levelIndex_symLevel {x : Nat} (hx : x < 4) : levelIndex (symLevel x) = x := by
  unfold levelIndex symLevel
  omega

theorem symLevel_mem {x : Nat} (hx : x < 4) : symLevel x ∈ ([-3, -1, 1, 3] : List Int) :=
  match x, hx with
  | 0, _ | 1, _ | 2, _ | 3, _ => by decide

@[simp] theorem length_precode (yprev : Nat) (xs : List Nat) : (precode yprev xs).length = xs.length := by
  induction xs generalizing yprev with
  | nil => rfl
  | cons x xs ih => simp [precode, ih]

theorem precode_lt (yprev : Nat) (xs : List Nat) : ∀ y ∈ precode yprev xs, y < 4 := by
  induction xs generalizing yprev with
  | nil => intro y hy; cases hy
  | cons x xs ih =>
    intro y hy
    obtain rfl | hy := List.mem_cons.mp hy
    · exact Nat.mod_lt _ (by decide)
    · exact ih _ y hy

/-- The receiver undoes the precoder. -/
theorem deprecode_precode (yprev : Nat) (xs : List Nat) (hx : ∀ x ∈ xs, x < 4) : deprecode yprev (precode yprev xs) = xs := by
  induction xs generalizing yprev with
  | nil => rfl
  | cons x xs ih =>
    have h4 : x < 4 := hx x (by simp)
    have hfirst : ((x + 4 - yprev % 4) % 4 + yprev) % 4 = x := by omega
    simp only [precode, deprecode, hfirst, ih _ (fun y hy => hx y (by simp [hy]))]

/-- Bits listed by their number make symbols listed by theirs. -/
theorem pairBits_range (f : Nat → Bool) (n : Nat) :
    pairBits ((List.range (2 * n)).map f) = (List.range n).map (fun d => symIndex (f (2 * d)) (f (2 * d + 1))) := by
  induction n generalizing f with
  | zero => rfl
  | succ n ih =>
    rw [show 2 * (n + 1) = 2 * n + 1 + 1 by omega, List.range_succ_eq_map, List.range_succ_eq_map, List.range_succ_eq_map]
    simp only [List.map_cons, List.map_map, pairBits]
    exact congrArg (symIndex (f 0) (f 1) :: ·) (ih (fun b => f (b + 1 + 1)))

theorem length_pairBits : ∀ bs : List Bool, (pairBits bs).length = bs.length / 2
  | [] => rfl
  | [_] => by simp [pairBits]
  | a :: b :: r => by
    simp only [pairBits, List.length_cons, length_pairBits r]
    omega

/-! Lane frames (R38, R39, R68). -/

section
variable {data : List Int} (hd : data.length = 144)
include hd

theorem length_laneFrame (even : Bool) : (laneFrame even data).length = 146 := by
  cases even <;> simp [laneFrame, hd]

/-- The data symbols of a frame are those it was made of. -/
theorem frameData_laneFrame (even : Bool) : frameData (laneFrame even data) = data := by
  have hfirst : (data.take 72).length = 72 := by simp [hd]
  have hskip : (data.take 72).drop 74 = [] := List.drop_eq_nil_of_le (by omega)
  have hrest : (data.drop 72).take 72 = data.drop 72 := List.take_of_length_le (by simp [hd])
  cases even <;> simp [frameData, laneFrame, hd, List.drop_append, hskip, hrest]

/-- A frame shows its parity by its pilots. -/
theorem pilotParity_laneFrame (even : Bool) : pilotParity (laneFrame even data) = some even := by
  cases even <;> simp [pilotParity, laneFrame, hd]

end

theorem mem_laneFrame {even : Bool} {data : List Int} {l : Int} (hl : l ∈ laneFrame even data) : l ∈ data ∨ l = 3 ∨ l = -3 := by
  simp only [laneFrame, List.mem_append] at hl
  obtain (hl | hl) | hl := hl
  · exact .inl (List.mem_of_mem_take hl)
  · exact .inr (by cases even <;> simpa [or_comm] using hl)
  · exact .inl (List.mem_of_mem_drop hl)

/-- The symbol indices of a stripe lane's share (R68). -/
def shareSymbols (w s : Nat) : List Nat :=
  (List.range 144).map (fun d => symIndex (shareBit w s (2 * d)) (shareBit w s (2 * d + 1)))

theorem pairBits_shareBits (w s : Nat) : pairBits (shareBits w s) = shareSymbols w s := pairBits_range (shareBit w s) 144

theorem length_shareSymbols (w s : Nat) : (shareSymbols w s).length = 144 := by
  simp [shareSymbols]

theorem shareSymbols_lt (w s : Nat) : ∀ x ∈ shareSymbols w s, x < 4 := by
  intro x hx
  obtain ⟨d, -, rfl⟩ := List.mem_map.mp hx
  exact symIndex_lt _ _

/-- The symbols that go out for a share, precoded or not. -/
def sentSymbols (p : Bool) (w s : Nat) : List Nat := if p then precode 0 (shareSymbols w s) else shareSymbols w s

theorem shareFrame_eq (even p : Bool) (w s : Nat) : shareFrame even p w s = laneFrame even ((sentSymbols p w s).map symLevel) := by
  simp only [shareFrame, pairBits_shareBits, sentSymbols]

theorem length_sentSymbols (p : Bool) (w s : Nat) : (sentSymbols p w s).length = 144 := by
  cases p <;> simp [sentSymbols, length_shareSymbols]

theorem sentSymbols_lt (p : Bool) (w s : Nat) : ∀ x ∈ sentSymbols p w s, x < 4 := by
  cases p
  · exact shareSymbols_lt w s
  · exact precode_lt 0 _

/-- The levels that go out decide to the symbols sent. -/
theorem map_levelIndex_sent (p : Bool) (w s : Nat) : ((sentSymbols p w s).map symLevel).map levelIndex = sentSymbols p w s := by
  rw [List.map_map]
  exact (List.map_congr_left (fun x hx => levelIndex_symLevel (sentSymbols_lt p w s x hx))).trans (List.map_id _)

/-- A share comes back from its frame, with or without precoding. -/
theorem frameShare_shareFrame (even p : Bool) (w s : Nat) : frameShare p (shareFrame even p w s) = shareSymbols w s := by
  have hd : ((sentSymbols p w s).map symLevel).length = 144 := by rw [List.length_map, length_sentSymbols]
  simp only [frameShare, shareFrame_eq, frameData_laneFrame hd, map_levelIndex_sent]
  cases p
  · rfl
  · exact deprecode_precode 0 _ (shareSymbols_lt w s)

theorem shareFrame_levels (even p : Bool) (w s : Nat) : ∀ l ∈ shareFrame even p w s, l ∈ ([-3, -1, 1, 3] : List Int) := by
  intro l hl
  rw [shareFrame_eq] at hl
  obtain hl | rfl | rfl := mem_laneFrame hl
  · obtain ⟨x, hx, rfl⟩ := List.mem_map.mp hl
    exact symLevel_mem (sentSymbols_lt p w s x hx)
  · decide
  · decide

/-! Joining the shares (R68). -/

/-- The digits of a number, lowest first in a sum, give it back. -/
theorem sum_digits (b v n : Nat) : ((List.range n).map (fun s => v / b ^ s % b * b ^ s)).sum = v % b ^ n := by
  induction n with
  | zero => simp [Nat.mod_one]
  | succ n ih =>
    rw [List.range_succ, List.map_append, List.sum_append, ih, Nat.pow_succ, Nat.mod_mul]
    simp [Nat.mul_comm]

/-- The digits of a number, folded from the highest, give it back. -/
theorem foldr_digits (b w n : Nat) : (List.range n).foldr (fun d acc => acc * b + w / b ^ d % b) 0 = w % b ^ n := by
  induction n generalizing w with
  | zero => simp [Nat.mod_one]
  | succ n ih =>
    have hshift : ∀ d acc, acc * b + w / b ^ (d + 1) % b = acc * b + w / b / b ^ d % b := fun d acc => by
      rw [Nat.div_div_eq_div_mul, Nat.pow_succ']
    rw [List.range_succ_eq_map, List.foldr_cons, List.foldr_map]
    simp only [Nat.succ_eq_add_one, hshift, ih (w / b), Nat.pow_zero, Nat.div_one]
    rw [Nat.pow_succ', Nat.mod_mul, Nat.add_comm, Nat.mul_comm]

/-- Two folds over a list agree when their steps agree on its elements. -/
theorem foldr_congr_mem {α β : Type} {f g : α → β → β} {xs : List α} {z : β} (h : ∀ x ∈ xs, ∀ acc, f x acc = g x acc) :
    xs.foldr f z = xs.foldr g z := by
  induction xs with
  | nil => rfl
  | cons x xs ih =>
    have htail : xs.foldr f z = xs.foldr g z := ih (fun y hy => h y (List.mem_cons_of_mem x hy))
    rw [List.foldr_cons, List.foldr_cons, htail, h x List.mem_cons_self]

/-- Two neighbouring bits as a number. -/
theorem bit_pair (w i : Nat) : bit (bitAt w i) + 2 * bit (bitAt w (i + 1)) = w / 2 ^ i % 4 := by
  have hb : ∀ j, bit (bitAt w j) = w / 2 ^ j % 2 := fun j => by
    unfold bit bitAt
    obtain h | h := Nat.mod_two_eq_zero_or_one (w / 2 ^ j) <;> simp [h]
  rw [hb, hb, Nat.pow_succ, ← Nat.div_div_eq_div_mul]
  omega

/-- The bit pair of symbol `d` of share `s`, as a base-4 digit of the 16 code bits that symbol `d` of all shares carries. -/
theorem shareSymbols_digit (w : Nat) {s d : Nat} (hs : s < 8) (hd : d < 144) :
    bit (symPair ((shareSymbols w s).getD d 0)).1 + 2 * bit (symPair ((shareSymbols w s).getD d 0)).2 = w / 65536 ^ d % 65536 / 4 ^ s % 4 := by
  have hbit : shareBit w s (2 * d) = bitAt w (16 * d + 2 * s) ∧ shareBit w s (2 * d + 1) = bitAt w (16 * d + 2 * s + 1) := by
    simp only [shareBit, Nat.mul_div_cancel_left d Nat.two_pos, Nat.mul_add_div Nat.two_pos, Nat.mul_mod_right, Nat.mul_add_mod]
    exact ⟨rfl, rfl⟩
  have hsym : (shareSymbols w s).getD d 0 = symIndex (bitAt w (16 * d + 2 * s)) (bitAt w (16 * d + 2 * s + 1)) := by
    simp [shareSymbols, hd, hbit]
  have hpow : 65536 = 4 ^ s * 4 ^ (8 - s) := by rw [← Nat.pow_add, Nat.add_sub_cancel' (Nat.le_of_lt hs)]
  have hplace : 2 ^ (16 * d + 2 * s) = 65536 ^ d * 4 ^ s := by rw [Nat.pow_add, Nat.pow_mul, Nat.pow_mul]
  have hdvd : 4 ∣ 4 ^ (8 - s) := Nat.pow_dvd_pow 4 (show 1 ≤ 8 - s by omega)
  rw [hsym, symPair_symIndex, bit_pair, hplace, ← Nat.div_div_eq_div_mul]
  generalize w / 65536 ^ d = v
  rw [hpow, Nat.mod_mul_right_div_self, Nat.mod_mod_of_dvd _ hdvd]

/-- The shares of stripe lanes 0 to 7 make the codeword again. -/
theorem joinShares_shareSymbols {w : Nat} (hw : w < 2 ^ 2304) : joinShares ((List.range 8).map (shareSymbols w)) = w := by
  have hzip : ((List.range 8).map (shareSymbols w)).zipIdx = (List.range 8).map (fun s => (shareSymbols w s, s)) := by
    rw [List.zipIdx_map]
    rfl
  have hsum : ∀ d ∈ List.range 144, ∀ acc,
      acc * 65536 + (((List.range 8).map (shareSymbols w)).zipIdx.map (fun sh =>
        (bit (symPair (sh.1.getD d 0)).1 + 2 * bit (symPair (sh.1.getD d 0)).2) * 4 ^ sh.2)).sum =
      acc * 65536 + w / 65536 ^ d % 65536 := fun d hd acc => by
    rw [hzip, List.map_map]
    refine congrArg (acc * 65536 + ·) (Eq.trans (congrArg List.sum (List.map_congr_left (fun s hs => ?_)))
      ((sum_digits 4 (w / 65536 ^ d % 65536) 8).trans (Nat.mod_mod _ _)))
    exact congrArg (· * 4 ^ s) (shareSymbols_digit w (List.mem_range.mp hs) (List.mem_range.mp hd))
  have hsize : w < 65536 ^ 144 := Nat.lt_of_lt_of_eq hw (Nat.pow_mul 2 16 144)
  calc joinShares ((List.range 8).map (shareSymbols w))
      = (List.range 144).foldr (fun d acc => acc * 65536 + w / 65536 ^ d % 65536) 0 := foldr_congr_mem hsum
    _ = w := (foldr_digits 65536 w 144).trans (Nat.mod_eq_of_lt hsize)

/-! The scrambler, training frames and back-channel messages (R67, R75, R77). -/

theorem scramble_scramble (win info : Nat) : scramble win (scramble win info) = info := by
  simp only [scramble, Nat.xor_assoc, Nat.xor_self, Nat.xor_zero]

@[simp] theorem length_prbs13 (win n : Nat) : (prbs13 win n).length = n := by
  induction n generalizing win with
  | zero => rfl
  | succ n ih => simp [prbs13, ih]

@[simp] theorem length_byteSymbols (b : Nat) : (byteSymbols b).length = 16 := by
  have hpair : ∀ i, (if bitAt b i then [(3 : Int), -3] else [-3, 3]).length = 2 := fun i => by split <;> rfl
  simp only [byteSymbols, List.length_flatten, List.map_map, Function.comp_def, hpair]
  rfl

theorem length_trainingFrame (pos : Nat) (start : Bool) (byte : Nat) : (trainingFrame pos start byte).length = 1022 := by
  cases start <;> simp [trainingFrame, markerM, markerS, length_pairBits]

theorem crc8Byte_lt {s : Nat} (hs : s < 256) (b : Byte) : crc8Byte s b < 256 := by
  have hb : b.toNat < 2 ^ 8 := b.isLt
  refine List.foldlRecOn (motive := fun t => t < 256) _ _ (Nat.xor_lt_two_pow (n := 8) hs hb) (fun t ht _ _ => ?_)
  split
  · exact Nat.xor_lt_two_pow (n := 8) (Nat.mod_lt _ (by decide)) (by decide)
  · omega

theorem crc8_lt (bs : List Byte) : crc8 bs < 256 :=
  List.foldlRecOn (motive := fun t => t < 256) bs crc8Byte (by decide) (fun _ ht b _ => crc8Byte_lt ht b)

/-- A signed byte is read again from its byte. -/
theorem toSigned_ofSigned_byte {c : Int} (hc : -128 ≤ c ∧ c < 128) : toSigned 8 (ofSigned 8 c % 256) = c := by
  unfold toSigned ofSigned
  split <;> omega

/-- Position and index share the second byte. -/
theorem position_of_byte {pos idx : Nat} (hp : pos < 9) (hi : idx < 16) : (pos * 16 + idx) % 256 / 16 = pos := by
  omega

/-- Seven bytes with their CRC-8 behind them are eight bytes whose CRC-8 checks (Table 3.4). -/
theorem crc8_checks {bs : List Byte} (hb : bs.length = 7) :
    crc8 ((bs ++ [BitVec.ofNat 8 (crc8 bs)]).take 7) = ((bs ++ [BitVec.ofNat 8 (crc8 bs)]).getD 7 0#8).toNat := by
  rw [List.take_left' hb]
  simp [hb, Nat.mod_eq_of_lt (crc8_lt bs)]

/-- A back-channel message is read again from its bytes. -/
theorem parseBc_bcBytes {idx : Nat} {m : BcMsg} (hi : idx < 16) (hm : m.wf = true) : parseBc (bcBytes idx m) = some m := by
  have hcrc := crc8_checks (bs := (bcHead idx m).map (BitVec.ofNat 8)) (by cases m <;> rfl)
  unfold parseBc bcBytes
  simp only [hcrc, bne_self_eq_false, Bool.false_eq_true, if_false]
  cases m with
  | nop => simp [bcHead]
  | hello rates rate => simpa [bcHead, BcMsg.wf] using hm
  | setPreset pos n =>
    obtain ⟨hp, hn⟩ : pos < 9 ∧ n < 256 := by simpa [BcMsg.wf] using hm
    simp [bcHead, position_of_byte hp hi, hn]
  | setTaps pos cm2 cm1 c0 cp1 cp2 =>
    obtain ⟨hp, h1, h2, h3, h4, h5⟩ : pos < 9 ∧ (-128 ≤ cm2 ∧ cm2 < 128) ∧ (-128 ≤ cm1 ∧ cm1 < 128) ∧ (-128 ≤ c0 ∧ c0 < 128) ∧
        (-128 ≤ cp1 ∧ cp1 < 128) ∧ (-128 ≤ cp2 ∧ cp2 < 128) := by simpa [BcMsg.wf] using hm
    simp [bcHead, position_of_byte hp hi, toSigned_ofSigned_byte, h1, h2, h3, h4, h5]
  | reply pos st =>
    obtain ⟨hp, hst⟩ : pos < 9 ∧ st < 256 := by simpa [BcMsg.wf] using hm
    simp [bcHead, position_of_byte hp hi, hst]
  | done mask =>
    have hmask : mask < 512 := by simpa [BcMsg.wf] using hm
    have hbytes : mask % 256 + 256 * (mask / 256 % 2) = mask := by omega
    simp [bcHead, hbytes]

end Sys2Proof.Machine

/-! A codeword in service is counted once (R64, R70). -/

namespace Sys2Proof.Machine

section
variable (h : Hw) (i j u : Nat)

@[simp] theorem bump_place : (bump h i j u).place = h.place := rfl
@[simp] theorem bump_jobs : (bump h i j u).jobs = h.jobs := rfl
@[simp] theorem bump_chans : (bump h i j u).chans = h.chans := rfl

end

/-- From one state to the other the two codeword counters of a laneset, placement, jobs and channels stay. -/
structure KeepsCounts (ls : Nat) (h t : Hw) : Prop where
  decoded : obj t 0x2210 ls = obj h 0x2210 ls
  failed : obj t 0x2211 ls = obj h 0x2211 ls
  place : t.place = h.place
  jobs : t.jobs = h.jobs
  chans : t.chans = h.chans

namespace KeepsCounts

variable {ls : Nat} {h t u : Hw}

theorem refl (ls : Nat) (h : Hw) : KeepsCounts ls h h := ⟨rfl, rfl, rfl, rfl, rfl⟩

theorem trans (a : KeepsCounts ls h t) (b : KeepsCounts ls t u) : KeepsCounts ls h u :=
  ⟨b.decoded.trans a.decoded, b.failed.trans a.failed, b.place.trans a.place, b.jobs.trans a.jobs, b.chans.trans a.chans⟩

/-- What each pass of a loop keeps, the loop keeps. -/
theorem foldl {α : Type} {f : Hw → α → Hw} (hf : ∀ h x, KeepsCounts ls h (f h x)) (xs : List α) (h : Hw) : KeepsCounts ls h (xs.foldl f h) :=
  List.foldlRecOn (motive := KeepsCounts ls h) xs f (refl ls h) (fun t ht x _ => ht.trans (hf t x))

/-- A write to an object behind the counters keeps them. -/
theorem setObj (hls : ls < 256) (h : Hw) {i : Nat} (j u v : Nat) (hi : 0x2211 < i) : KeepsCounts ls h (setObj h i j u v) :=
  ⟨obj_setObj_of_lt_idx h v j u (by omega) hls (by decide), obj_setObj_of_lt_idx h v j u hi hls (by decide), rfl, rfl, rfl⟩

theorem setLane (h : Hw) (n : Nat) (v : Lane) : KeepsCounts ls h (setLane h n v) := ⟨rfl, rfl, rfl, rfl, rfl⟩

theorem setLaneset (h : Hw) (n : Nat) (v : Laneset) : KeepsCounts ls h (setLaneset h n v) := ⟨rfl, rfl, rfl, rfl, rfl⟩

theorem countIterations (hls : ls < 256) (h : Hw) (iters : Nat) : KeepsCounts ls h (countIterations h ls iters) := by
  unfold Machine.countIterations
  dsimp only
  split
  · split
    · exact setLaneset _ _ _
    · exact (setObj hls h ls 0 _ (by decide)).trans (setLaneset _ _ _)
  · exact setLaneset _ _ _

theorem countPairing (h : Hw) (frames : List (List Int)) (even : Bool) : KeepsCounts ls h (countPairing h ls frames even) :=
  foldl (fun h _ => setLane h _ _) _ h

end KeepsCounts

/-- The corrected bits of a stripe lane are counted for its laneset and for its position (R70, R71). -/
def countCorrected (ls diff : Nat) (h : Hw) (s : Nat) : Hw :=
  let n := stripeBits diff s
  let ln := laneOf ls ((laneset h ls).map.getD s 0)
  let h := bumpBy (bumpBy h 0x2212 ls 0 n) 0x2216 ln 0 n
  setLane h ln { lane h ln with windowBits := (lane h ln).windowBits + n }

/-- What a decoded codeword leaves in the receiver: the descrambler in LOCK, else the pairing into flits. -/
def receiveCodeword (ls : Nat) (frames : List (List Int)) (ok : Bool) (info : Nat) (h : Hw) : Hw :=
  if inLock h ls then
    let even := (shownParity h ls frames).getD (laneset h ls).parity
    setLaneset h ls { descramble (laneset h ls) ok info with parity := !even }
  else
    let h := countPairing h ls frames (laneset h ls).parity
    let l := pairCodeword (laneset h ls) ok info
    setLaneset h ls { l with parity := !l.parity }

theorem countCorrected_keeps {ls : Nat} (hls : ls < 256) (diff : Nat) (h : Hw) (s : Nat) : KeepsCounts ls h (countCorrected ls diff h s) :=
  ((KeepsCounts.setObj hls h _ _ _ (by decide)).trans (KeepsCounts.setObj hls _ _ _ _ (by decide))).trans (KeepsCounts.setLane _ _ _)

theorem receiveCodeword_keeps (ls : Nat) (frames : List (List Int)) (ok : Bool) (info : Nat) (h : Hw) :
    KeepsCounts ls h (receiveCodeword ls frames ok info h) := by
  unfold receiveCodeword
  split
  · exact .setLaneset _ _ _
  · exact (KeepsCounts.countPairing h frames _).trans (.setLaneset _ _ _)

section
variable {ls : Nat} (frames : List (List Int)) (decoded : BitVec 2304) (iters : Nat) {h : Hw} (ha : awake h = true)
  (hi : inService h ls = true) (hl : linkState h = 4) (hq : (laneset h ls).quiet = false)
include ha hi hl hq

/-- A codeword of a laneset in service is decoded in three steps: the iterations, its count and corrected bits, and the receiver. -/
theorem codewordDecode_inService :
    codewordDecode ls frames decoded iters h =
      let ok := ldpcOk decoded.toNat && decide (iters ≤ obj h 0x2215 0)
      let k := countIterations h ls iters
      receiveCodeword ls frames ok (decoded.toNat % 2 ^ 2048)
        (if ok then (List.range 8).foldl (countCorrected ls (rxCodeword k ls frames ^^^ decoded.toNat)) (bump k 0x2210 ls)
          else bump k 0x2211 ls) := by
  unfold codewordDecode
  simp only [ha, hi, hl, hq, Bool.or_true, Bool.true_or, Bool.true_and, Nat.reduceLeDiff, decide_true, Bool.not_true, Bool.or_self,
    Bool.false_eq_true, if_false, Nat.le_refl]
  rfl

/-- One that converged is counted in 0x2210 and nothing else of the counters changes. -/
theorem codewordDecode_converged (hls : ls < 256) (hok : ldpcOk decoded.toNat = true) (hit : iters ≤ obj h 0x2215 0) :
    KeepsCounts ls (bump (countIterations h ls iters) 0x2210 ls) (codewordDecode ls frames decoded iters h) := by
  rw [codewordDecode_inService frames decoded iters ha hi hl hq]
  simp only [hok, hit, decide_true, Bool.and_self, if_true]
  exact (KeepsCounts.foldl (countCorrected_keeps hls _) _ _).trans (receiveCodeword_keeps ls frames _ _ _)

/-- Any other is counted in 0x2211. -/
theorem codewordDecode_failed (hn : ¬(ldpcOk decoded.toNat = true ∧ iters ≤ obj h 0x2215 0)) :
    KeepsCounts ls (bump (countIterations h ls iters) 0x2211 ls) (codewordDecode ls frames decoded iters h) := by
  have hok : (ldpcOk decoded.toNat && decide (iters ≤ obj h 0x2215 0)) = false := by
    simpa only [← Bool.not_eq_true, Bool.and_eq_true, decide_eq_true_eq] using hn
  rw [codewordDecode_inService frames decoded iters ha hi hl hq]
  simp only [hok, Bool.false_eq_true, if_false]
  exact receiveCodeword_keeps ls frames _ _ _

/-- A codeword leaves placement, jobs and channels alone. -/
theorem codewordDecode_frame (hls : ls < 256) :
    (codewordDecode ls frames decoded iters h).place = h.place ∧ (codewordDecode ls frames decoded iters h).jobs = h.jobs ∧
      (codewordDecode ls frames decoded iters h).chans = h.chans := by
  have hc := KeepsCounts.countIterations hls h iters
  by_cases hok : ldpcOk decoded.toNat = true ∧ iters ≤ obj h 0x2215 0
  · have hk := codewordDecode_converged frames decoded iters ha hi hl hq hls hok.1 hok.2
    rw [hk.place, hk.jobs, hk.chans, bump_place, bump_jobs, bump_chans]
    exact ⟨hc.place, hc.jobs, hc.chans⟩
  · have hk := codewordDecode_failed frames decoded iters ha hi hl hq hok
    rw [hk.place, hk.jobs, hk.chans, bump_place, bump_jobs, bump_chans]
    exact ⟨hc.place, hc.jobs, hc.chans⟩

end

/-- Settles O6: the read-back lemmas of lane frames, scrambler and back channel, and the one counter that a codeword moves. -/
theorem codewordIsCountedOnce : Obligations.CodewordIsCountedOnce := by
  unfold Obligations.CodewordIsCountedOnce
  refine ⟨fun even p w hw => ?_, fun even p w s => ?_, scramble_scramble,
    fun pos byte start => length_trainingFrame pos start byte, fun idx m => parseBc_bcBytes, ?_⟩
  · simp only [frameShare_shareFrame]
    exact joinShares_shareSymbols hw
  · have hd : ((sentSymbols p w s).map symLevel).length = 144 := by rw [List.length_map, length_sentSymbols]
    refine ⟨?_, ?_, shareFrame_levels even p w s⟩
    · rw [shareFrame_eq, length_laneFrame hd]
    · rw [shareFrame_eq, pilotParity_laneFrame hd]
  · intro h ls frames decoded iters hls ha hi hl hq t
    have hls : ls < 256 := by omega
    have hc := KeepsCounts.countIterations hls h iters
    refine ⟨fun hok hit => ?_, fun hn => ?_, codewordDecode_frame frames decoded iters ha hi hl hq hls⟩
    · have hk := codewordDecode_converged frames decoded iters ha hi hl hq hls hok hit
      refine ⟨?_, ?_⟩
      · rw [hk.decoded, bump, obj_bumpBy_same, hc.decoded]
      · rw [hk.failed, bump, bumpBy, obj_setObj_of_idx_lt _ _ _ _ (by decide) hls (by decide), hc.failed]
    · have hk := codewordDecode_failed frames decoded iters ha hi hl hq hn
      refine ⟨?_, ?_⟩
      · rw [hk.failed, bump, obj_bumpBy_same, hc.failed]
      · rw [hk.decoded, bump, bumpBy, obj_setObj_of_lt_idx _ _ _ _ (by decide) hls (by decide), hc.decoded]

end Sys2Proof.Machine

/-! Reads after a write to a laneset or a lane. -/

namespace Sys2Proof.Machine

section
variable (h : Hw) (n : Nat) (v : Laneset)

@[simp] theorem obj_setLaneset (i j u : Nat) : obj (setLaneset h n v) i j u = obj h i j u := rfl
@[simp] theorem linkState_setLaneset : linkState (setLaneset h n v) = linkState h := rfl
@[simp] theorem linkActive_setLaneset : linkActive (setLaneset h n v) = linkActive h := rfl
@[simp] theorem inService_setLaneset (ls : Nat) : inService (setLaneset h n v) ls = inService h ls := rfl
@[simp] theorem portOf_setLaneset (ls : Nat) : portOf (setLaneset h n v) ls = portOf h ls := rfl
@[simp] theorem port_setLaneset (p : Nat) : port (setLaneset h n v) p = port h p := rfl
@[simp] theorem takesFlits_setLaneset (ls : Nat) : takesFlits (setLaneset h n v) ls = takesFlits h ls := rfl

end

@[simp] theorem laneset_setLane (h : Hw) (n : Nat) (v : Lane) (ls : Nat) : laneset (setLane h n v) ls = laneset h ls := rfl

end Sys2Proof.Machine

/-! A failed bring-up attempt (R78, R86). -/

namespace Sys2Proof.Machine

/-- From one state to the other the registers of object 0x2200 and what bring-up remembers stay. -/
structure KeepsBringUp (h t : Hw) : Prop where
  reg : ∀ j < 256, obj t 0x2200 j = obj h 0x2200 j
  up : t.link.up = h.link.up

namespace KeepsBringUp

variable {h t u : Hw}

theorem refl (h : Hw) : KeepsBringUp h h := ⟨fun _ _ => rfl, rfl⟩

theorem trans (a : KeepsBringUp h t) (b : KeepsBringUp t u) : KeepsBringUp h u :=
  ⟨fun j hj => (b.reg j hj).trans (a.reg j hj), b.up.trans a.up⟩

/-- What each pass of a loop over a list keeps, the loop keeps. -/
theorem foldl {α : Type} {f : Hw → α → Hw} {xs : List α} (hf : ∀ h, ∀ x ∈ xs, KeepsBringUp h (f h x)) (h : Hw) :
    KeepsBringUp h (xs.foldl f h) :=
  List.foldlRecOn (motive := KeepsBringUp h) xs f (refl h) (fun t ht x hx => ht.trans (hf t x hx))

/-- A write to an object in front of 0x2200. -/
theorem setObj_lt (h : Hw) {i j : Nat} (v : Nat) (hi : i < 0x2200) (hj : j < 256) : KeepsBringUp h (setObj h i j 0 v) :=
  ⟨fun j' _ => obj_setObj_of_idx_lt h v j' 0 hi hj (by decide), rfl⟩

/-- A write to an object behind it. -/
theorem setObj_gt (h : Hw) {i : Nat} (j u v : Nat) (hi : 0x2200 < i) : KeepsBringUp h (setObj h i j u v) :=
  ⟨fun _ hj' => obj_setObj_of_lt_idx h v j u hi hj' (by decide), rfl⟩

theorem moveLaneset (h : Hw) (ls st : Nat) : KeepsBringUp h (moveLaneset h ls st) :=
  ⟨fun j hj => ((setObj_gt (setLsState h ls st) 5 0 _ (by decide)).reg j hj).trans ((setObj_gt h ls 0 st (by decide)).reg j hj), rfl⟩

theorem showAdapt (h : Hw) {ls : Nat} (hls : ls < 24) : KeepsBringUp h (showAdapt h ls) :=
  foldl (fun h i hi => setObj_lt h _ (by decide) (by
    have hpos : i < 9 := List.mem_range.mp hi
    unfold laneOf
    omega)) h

theorem showAdaptAll (h : Hw) : KeepsBringUp h (showAdaptAll h) :=
  foldl (fun h _ hls => showAdapt h (by
    rw [span, List.mem_map] at hls
    obtain ⟨i, hi, rfl⟩ := hls
    have := List.mem_range.mp hi
    omega)) h

theorem holdPort (h : Hw) (p : Nat) : KeepsBringUp h (holdPort h p) := ⟨fun _ _ => rfl, rfl⟩

theorem endTestWait (h : Hw) (ls : Nat) (a : Answer) : KeepsBringUp h (endTestWait h ls a) := by
  unfold Machine.endTestWait finishOp
  split
  · split <;> exact ⟨fun _ _ => rfl, rfl⟩
  · exact refl h

/-- Electrical idle on every lane, and a change of the self-test's state. -/
theorem idle (h : Hw) (t : Test) : KeepsBringUp h (emit { h with test := t } .linkIdle) := ⟨fun _ _ => rfl, rfl⟩

end KeepsBringUp

/-- What `resetLink` is made of: the waits end, lanesets and bring-up start anew, and what shows their state follows (R73). -/
theorem resetLink_eq (h : Hw) (rate : Nat) :
    ∃ (k : Hw) (sets : Tbl Laneset) (up : BringUp), KeepsBringUp (setLinkState h 0) k ∧ up.proposed = rate ∧
      resetLink h rate =
        showAdaptAll ((List.range 24).foldl (fun h n => moveLaneset h n 0) { k with link := { k.link with lanesets := sets, up := up } }) :=
  ⟨_, _, _, (KeepsBringUp.foldl (fun h n _ => .endTestWait h n { status := .notReady }) _).trans (.foldl (fun h p _ => .holdPort h p) _), rfl, rfl⟩

/-- The link waits in DETECT with the proposed rate, and the other registers of 0x2200 stay (R73). -/
theorem resetLink_bringUp (h : Hw) (rate : Nat) :
    linkState (resetLink h rate) = 0 ∧ (resetLink h rate).link.up.proposed = rate ∧
      ∀ j < 256, j ≠ 2 → obj (resetLink h rate) 0x2200 j = obj h 0x2200 j := by
  obtain ⟨k, sets, up, hends, hup, heq⟩ := resetLink_eq h rate
  have hshow : KeepsBringUp { k with link := { k.link with lanesets := sets, up := up } } (resetLink h rate) := by
    rw [heq]
    exact (KeepsBringUp.foldl (fun h n _ => .moveLaneset h n 0) _).trans (.showAdaptAll _)
  have hreg : ∀ j < 256, obj (resetLink h rate) 0x2200 j = obj (setObj h 0x2200 2 0 0) 0x2200 j :=
    fun j hj => (hshow.reg j hj).trans (hends.reg j hj)
  refine ⟨(hreg 2 (by decide)).trans (obj_setObj_same h 0x2200 2 0 0), (congrArg BringUp.proposed hshow.up).trans hup, fun j hj hne => ?_⟩
  exact (hreg j hj).trans (obj_setObj_other_sub h 0x2200 0 0 hne)

/-- An attempt that begins leaves the link as `resetLink` does, but for what it drives and the self-test (R86). -/
theorem startDetect_bringUp (h : Hw) (rate : Nat) : KeepsBringUp (resetLink (bump h 0x2200 3) rate) (startDetect h rate) := .idle _ _

/-- Settles O2: below 28 GBd the next attempt begins, and `resetLink` keeps what was counted. -/
theorem failedAttemptStepsDown : Obligations.FailedAttemptStepsDown := by
  unfold Obligations.FailedAttemptStepsDown
  intro h
  refine ⟨fun hr => ?_, fun hr => if_pos hr⟩
  have hfail : failAttempt h = startDetect (bump h 0x2200 4) (attemptRate h + 1) := by
    rw [failAttempt, if_neg (Nat.ne_of_lt hr), lowerRate, Nat.min_eq_right hr]
  obtain ⟨hstate, hrate, hreg⟩ := resetLink_bringUp (bump (bump h 0x2200 4) 0x2200 3) (attemptRate h + 1)
  obtain ⟨hkept, hup⟩ := startDetect_bringUp (bump h 0x2200 4) (attemptRate h + 1)
  rw [hfail]
  refine ⟨(hkept 2 (by decide)).trans hstate, (congrArg BringUp.proposed hup).trans hrate, ?_, ?_⟩
  · rw [hkept 4 (by decide), hreg 4 (by decide) (by decide), bump, bumpBy, obj_setObj_other_sub _ _ _ _ (by decide), bump, obj_bumpBy_same]
  · rw [hkept 3 (by decide), hreg 3 (by decide) (by decide), bump, obj_bumpBy_same, bump, bumpBy, obj_setObj_other_sub _ _ _ _ (by decide)]

end Sys2Proof.Machine

/-! Bring-up events, by the branch they take (R73 to R86). -/

namespace Sys2Proof.Machine

/-- A second sense that agrees, with eight lanes of a laneset in each direction, enters PATTERN (R74). -/
theorem terminationSense_agrees {up dn : List Nat} {t : Nat} {h : Hw} (ha : awake h = true) (hl : linkState h = 0)
    (hb : h.test.bistLinkDown = false) (ho : obj h 0x1002 1 ≠ 3) (hf : h.link.up.firstSense = some t) (hs : h.link.up.sense = some (up, dn))
    (hu : ∃ m ∈ up, 8 ≤ maskCount m) (hd : ∃ m ∈ dn, 8 ≤ maskCount m) :
    terminationSense up dn h =
      let k := { h with link := { h.link with up := { h.link.up with sense := some (up, dn), firstSense := some t } } }
      let k := (List.range 144).foldl (fun k n => setLane k n { lane k n with present := bitAt (up.getD (n / 9) 0) (n % 9) }) k
      let k := setObj (setLinkState k 1) 0x2000 1 0 2
      (List.range 8).foldl (fun k n => sendBc k (16 + n) (.hello (ratesOf k) h.link.up.proposed)) k := by
  have hup : up.any (fun m => decide (8 ≤ maskCount m)) = true := by simpa only [List.any_eq_true, decide_eq_true_eq] using hu
  have hdn : dn.any (fun m => decide (8 ≤ maskCount m)) = true := by simpa only [List.any_eq_true, decide_eq_true_eq] using hd
  simp only [terminationSense, ha, hl, hb, bne_iff_ne.mpr ho, hf, hs, hup, hdn, beq_self_eq_true, Bool.not_false, Bool.not_true,
    Option.isNone_some, Bool.and_false, Bool.and_self, Bool.true_or, Bool.false_eq_true, if_false, if_true]

/-- The first HELLO fixes the attempt rate (R78). -/
theorem takeHello_first (rate : Nat) {h : Hw} (ha : awake h = true) (hl : linkState h = 1) (hr : h.link.up.rate = none) :
    takeHello rate h =
      let r := max rate h.link.up.proposed
      let k := { h with link := { h.link with up := { h.link.up with rate := some r } } }
      (span 144 72).foldl askTaps ((List.range 144).foldl startTaps (setObj k 0x2000 1 0 r)) := by
  simp only [takeHello, ha, hl, hr, beq_self_eq_true, Option.isNone_none, Bool.and_self, if_true]

/-- DONE for a laneset in PATTERN is kept, and may enter LOCK (R79). -/
theorem takeDone_inPattern {ls : Nat} (mask : Nat) {h : Hw} (ha : awake h = true) (hp : inPattern h ls = true) :
    takeDone ls mask h = tryLock (setLaneset h ls { laneset h ls with doneRecv := some mask }) ls := by
  simp only [takeDone, ha, hp, Bool.and_self, if_true]

/-- The attempt fails when PATTERN of the link runs out (R86). -/
theorem patternTimeout_link {h : Hw} (ha : awake h = true) (hl : linkState h = 1) : patternTimeout none h = failAttempt h := by
  simp only [patternTimeout, ha, hl, beq_self_eq_true, Bool.and_self, if_true]

/-- The withdrawn laneset goes out of service when its own runs out (R93). -/
theorem patternTimeout_laneset {ls : Nat} {h : Hw} (ha : awake h = true) (hp : inPhase h ls .pattern = true) :
    patternTimeout (some ls) h = outOfService h ls := by
  simp only [patternTimeout, ha, hp, Bool.and_self, if_true]

/-- Sixteen good codewords and pilot lock on every mapped lane lock a receive laneset (R81). -/
theorem lanesetLocked_locks {ls : Nat} {h : Hw} (ha : awake h = true) (hi : inLock h ls = true) (hg : 16 ≤ (laneset h ls).goodCw)
    (hm : ((laneset h ls).map.all fun i => (lane h (laneOf ls i)).locked) = true) :
    lanesetLocked ls h =
      (laneset h ls).wd.elim (tryExchange (setLaneset h ls { laneset h ls with locked := true })) (fun w =>
        let k := setLaneset h ls { laneset h ls with locked := true, wd := some { w with phase := .exchange }, block := none, blockRun := 0 }
        let j := 2 * (ls - 16)
        sendBlock (portsCode k) (sendBlock (portsCode k) k j) j) := by
  simp only [lanesetLocked, ha, hi, hg, hm, decide_true, Bool.and_self, if_true]
  cases (laneset h ls).wd <;> rfl

/-- When LOCK of the link runs out, the lanesets that are not locked go out of service (R82). -/
theorem lockTimeout_link {h : Hw} (ha : awake h = true) (hl : linkState h = 2) :
    lockTimeout none h =
      let k := (span 16 8).foldl (fun h k => if inService h k && !(laneset h k).locked then moveLaneset h k 2 else h) h
      if (span 16 8).any (inService k) then tryExchange k else failAttempt k := by
  simp only [lockTimeout, ha, hl, beq_self_eq_true, Bool.and_self, if_true]

/-- The withdrawn laneset that is not locked goes out of service when its own runs out (R93). -/
theorem lockTimeout_laneset {ls : Nat} {h : Hw} (ha : awake h = true) (hp : inPhase h ls .lock = true) (hl : (laneset h ls).locked = false) :
    lockTimeout (some ls) h = outOfService h ls := by
  simp only [lockTimeout, ha, hp, hl, Bool.not_false, Bool.and_self, if_true]

/-- The attempt fails when EXCHANGE of the link runs out (R85). -/
theorem exchangeTimeout_link {h : Hw} (ha : awake h = true) (hl : linkState h = 3) : exchangeTimeout none h = failAttempt h := by
  simp only [exchangeTimeout, ha, hl, beq_self_eq_true, Bool.and_self, if_true]

/-- The withdrawn laneset goes out of service when its own runs out (R93). -/
theorem exchangeTimeout_laneset {ls : Nat} {h : Hw} (ha : awake h = true) (hp : inPhase h ls .exchange = true) :
    exchangeTimeout (some ls) h = outOfService h ls := by
  simp only [exchangeTimeout, ha, hp, Bool.and_self, if_true]

/-- A host block of the link's EXCHANGE marks its carrier and goes to the laneset that it describes (R82 to R85). -/
theorem takeBlock_exchange {carrier block : Nat} {h : Hw} (ha : awake h = true) (hl : linkState h = 3)
    (hh : bitAt (blockFields block) 24 = true) (hs : bitAt (blockFields block) 25 = false)
    (hw : (laneset (setLaneset h carrier { laneset h carrier with capSeen := true }) (field (blockFields block) 29 26)).wd = none) :
    takeBlock carrier block h =
      takeLinkBlock (field (blockFields block) 29 26) (blockFields block) (setLaneset h carrier { laneset h carrier with capSeen := true }) := by
  simp only [takeBlock, ha, hh, hs, hw, linkState_setLaneset, hl, beq_self_eq_true, Bool.not_true, Bool.or_self, Bool.false_eq_true, if_false, if_true]

/-- A block that does not fit the attempt, or not what the host said before, fails it (R85). -/
theorem takeLinkBlock_fails {ls b : Nat} {h : Hw}
    (hn : field b 15 8 ≠ 1 ∨ field b 36 35 ≠ attemptRate h ∨ h.link.up.hostWide.any (· != hostWide b) = true) :
    takeLinkBlock ls b h = failAttempt h := by
  refine if_pos ?_
  simpa only [Bool.or_eq_true, bne_iff_ne, or_assoc] using hn

/-- Any other is kept; with its second copy the stack answers, and the exchange may be complete (R84, R85). -/
theorem takeLinkBlock_keeps {ls b : Nat} {h : Hw} (hv : field b 15 8 = 1) (hr : field b 36 35 = attemptRate h)
    (hw : h.link.up.hostWide.any (· != hostWide b) = false) :
    takeLinkBlock ls b h =
      let run := if (laneset h ls).block = some b then (laneset h ls).blockRun + 1 else 1
      let k := { h with link := { h.link with up := { h.link.up with hostWide := some (hostWide b) } } }
      let k := setLaneset k ls { laneset h ls with block := some b, blockRun := run }
      let k := if 2 ≤ run ∧ h.link.up.echoed = false ∧ field b 38 37 ≠ 3 then
          let k := { k with link := { k.link with up := { k.link.up with echoed := true } } }
          sendBlocks (sendBlocks k (field b 38 37)) (field b 38 37)
        else k
      if exchangeDone k = true then enterActive k (hostWide b) else k := by
  simp only [takeLinkBlock, hv, hr, hw, bne_self_eq_false, Bool.or_self, Bool.false_eq_true, if_false, Bool.and_eq_true, decide_eq_true_eq,
    Bool.not_eq_true', bne_iff_ne, and_assoc]
  rfl

/-- Settles O1: each event's function, on the state that the clause describes, takes the branch of the event. -/
theorem bringUpEventsComplete : Obligations.BringUpEventsComplete := by
  unfold Obligations.BringUpEventsComplete
  refine ⟨?_, ?_, ?_, ?_, ?_, ?_, ?_, ?_, ?_, ?_, ?_, ?_, ?_, ?_⟩
  · intro s up dn t hw ha hl hb ho hf hs hu hd
    exact exec_eq_after rfl hw (terminationSense_agrees (h := begin s.hw) ha hl hb ho hf hs hu hd)
  · intro s ls rates rate hw ha hl hr
    exact exec_eq_after rfl hw (takeHello_first (h := begin s.hw) rate ha hl hr)
  · intro s ls mask hw ha hp
    exact exec_eq_after rfl hw (takeDone_inPattern (h := begin s.hw) mask ha hp)
  · intro s ls mask seeds markers trained hw ha hp
    exact exec_eq_after rfl hw (if_pos (Bool.and_eq_true_iff.mpr ⟨ha, hp⟩))
  · intro s ha hl
    exact exec_eq_after rfl rfl (patternTimeout_link (h := begin s.hw) ha hl)
  · intro s ls hw ha hp
    exact exec_eq_after rfl hw (patternTimeout_laneset (h := begin s.hw) ha hp)
  · intro s ln freq snr hw ha
    exact exec_eq_after rfl hw (if_pos ha)
  · intro s ls hw ha hi hg hm
    refine (exec_eq_after rfl hw (lanesetLocked_locks (h := begin s.hw) ha hi hg hm)).trans ?_
    cases hwd : (laneset s.hw ls).wd <;> simp only [laneset_begin, hwd] <;> rfl
  · intro s ha hl
    exact exec_eq_after rfl rfl (lockTimeout_link (h := begin s.hw) ha hl)
  · intro s ls hw ha hp hl
    exact exec_eq_after rfl hw (lockTimeout_laneset (h := begin s.hw) ha hp hl)
  · intro s carrier block hw ha hl b ls k hh hs hwd
    have hblock := takeBlock_exchange (h := begin s.hw) ha hl hh hs hwd
    exact ⟨fun hn => exec_eq_after rfl hw (hblock.trans (takeLinkBlock_fails hn)),
      fun hv hr hwide => exec_eq_after rfl hw (hblock.trans (takeLinkBlock_keeps hv hr hwide))⟩
  · intro s ha hl
    exact exec_eq_after rfl rfl (exchangeTimeout_link (h := begin s.hw) ha hl)
  · intro s ls hw ha hp
    exact exec_eq_after rfl hw (exchangeTimeout_laneset (h := begin s.hw) ha hp)
  · intro s ha hl
    have hpause : (awake (begin s.hw) && linkState (begin s.hw) == 5) = true := by simp [ha, hl]
    exact exec_eq_after rfl rfl (if_pos hpause)

end Sys2Proof.Machine

/-! Back-channel requests and replies (R79). -/

namespace Sys2Proof.Machine

/-- A request for an upstream lane in PATTERN is checked, applied or refused, and answered (R79). -/
theorem requestTaps_inPattern {ls pos : Nat} (c : List Int) {h : Hw} (ha : awake h = true) (hp : inPattern h ls = true) (hls : ls < 16)
    (hpos : pos < 9) :
    requestTaps ls pos c h = sendBc (tryTaps h (laneOf ls pos) c).1 ls (.reply pos (tryTaps h (laneOf ls pos) c).2) := by
  simp only [requestTaps, ha, hp, hls, hpos, decide_true, Bool.and_self, if_true]

/-- A REPLY to the outstanding request of a downstream lane in PATTERN is kept, and the stack may ask again (R79). -/
theorem takeReply_asked {ls pos : Nat} (status : Nat) {h : Hw} (ha : awake h = true) (hp : inPattern h ls = true) (hls : 16 ≤ ls)
    (hpos : pos < 9) (hq : (lane h (laneOf ls pos)).asked = true) :
    takeReply ls pos status h =
      askTaps (setLane h (laneOf ls pos) { lane h (laneOf ls pos) with asked := false, reply := some status }) (laneOf ls pos) := by
  simp only [takeReply, ha, hp, hls, hpos, hq, decide_true, Bool.and_self, if_true]

/-- A well-formed SET_PRESET names a position of an upstream laneset. -/
theorem position_of_wf_setPreset {ls pos n : Nat} (hw : (Instr.setPreset ls pos n).wf = true) : ls < 16 ∧ pos < 9 := by
  simp only [Instr.wf, wfSetPreset, Bool.and_eq_true, decide_eq_true_eq] at hw
  exact hw.1

/-- A well-formed SET_TAPS too. -/
theorem position_of_wf_setTaps {ls pos : Nat} {cm2 cm1 c0 cp1 cp2 : Int} (hw : (Instr.setTaps ls pos cm2 cm1 c0 cp1 cp2).wf = true) :
    ls < 16 ∧ pos < 9 := by
  simp only [Instr.wf, wfSetTaps, Bool.and_eq_true, decide_eq_true_eq] at hw
  exact hw.1

/-- A well-formed REPLY names a position of a downstream laneset. -/
theorem position_of_wf_reply {ls pos status : Nat} (hw : (Instr.reply ls pos status).wf = true) : 16 ≤ ls ∧ pos < 9 := by
  simp only [Instr.wf, wfReply, Bool.and_eq_true, decide_eq_true_eq] at hw
  obtain ⟨⟨⟨hls, -⟩, hpos⟩, -⟩ := hw
  exact ⟨hls, hpos⟩

/-- Settles O3: a well-formed request names an upstream lane and a well-formed REPLY a downstream one, so each takes its branch. -/
theorem tapRequestsComplete : Obligations.TapRequestsComplete := by
  unfold Obligations.TapRequestsComplete
  refine ⟨?_, ?_, ?_⟩
  · intro s ls pos n hw ha hp
    obtain ⟨hls, hpos⟩ := position_of_wf_setPreset hw
    exact exec_eq_after rfl hw (requestTaps_inPattern (h := begin s.hw) (preset n) ha hp hls hpos)
  · intro s ls pos cm2 cm1 c0 cp1 cp2 hw ha hp
    obtain ⟨hls, hpos⟩ := position_of_wf_setTaps hw
    exact exec_eq_after rfl hw (requestTaps_inPattern (h := begin s.hw) [cm2, cm1, c0, cp1, cp2] ha hp hls hpos)
  · intro s ls pos status hw ha hp hq
    obtain ⟨hls, hpos⟩ := position_of_wf_reply hw
    exact exec_eq_after rfl hw (takeReply_asked (h := begin s.hw) status ha hp hls hpos hq)

end Sys2Proof.Machine

/-! Withdrawal, lane test and parking events, by the branch they take (R87, R88, R93, R99 to R102, R135, R136). -/

namespace Sys2Proof.Machine

/-- A laneset in service of an active link is pulled out and trains anew (R93). -/
theorem withdraw_inService {ls : Nat} (failed : Option Nat) (retrain : List RetrainReq) {h : Hw} (hi : inService h ls = true)
    (hl : linkActive h = true) :
    withdraw h ls failed retrain =
      (span (9 * ls) 9).foldl (if ls < 16 then startTaps else askTaps) (pullOut h ls 1 { endMirror ls (laneset h ls) with
        wd := some { failedPos := failed, spareMapped := false, phase := .pattern, retrain := retrain } }) := by
  simp only [withdraw, hi, hl, Bool.not_true, Bool.or_self, Bool.false_eq_true, if_false]

/-- REJOIN returns a withdrawn laneset that has exchanged its blocks (R93). -/
theorem takeRejoin_exchanged {ls : Nat} {h : Hw} (ha : awake h = true) (hp : inPhase h ls .exchange = true)
    (hb : 16 ≤ ls ∨ 2 ≤ (laneset h ls).blockRun) : takeRejoin ls h = nextRepair (rejoin h ls) ls := by
  have hready : (decide (16 ≤ ls) || decide (2 ≤ (laneset h ls).blockRun)) = true := by simpa using hb
  simp only [takeRejoin, ha, hp, hready, Bool.and_self, if_true]

/-- A well-formed TEST_START names an upstream laneset. -/
theorem upstream_of_wf_testStart {ls pattern : Nat} (hw : (Instr.testStart ls pattern).wf = true) : ls < 16 := by
  simp only [Instr.wf, wfTestStart, Bool.and_eq_true, decide_eq_true_eq] at hw
  exact hw.1

/-- A test of an upstream laneset sends the pattern itself (R88). -/
theorem startTest_upstream {ls : Nat} (pattern : Nat) (h : Hw) (hls : ls < 16) :
    startTest h ls pattern = emit (pullOut h ls 4 { endMirror ls (laneset h ls) with wd := none, test := pattern }) (.pattern ls pattern) := by
  simp only [startTest, hls, if_true]

/-- A test that runs ends through LOCK (R88). -/
theorem endTest_testing {ls : Nat} {h : Hw} (ht : lsState h ls = 4) :
    endTest h ls =
      let k := toLock (setLaneset (moveLaneset h ls 1) ls { laneset h ls with
          test := 0, wd := some { failedPos := none, spareMapped := false, phase := .lock } }) ls
      if ls < 16 then k else sendCtl k (.testEnd ls) := by
  simp only [endTest, ht, bne_self_eq_false, Bool.false_eq_true, if_false]

/-- The counters of a synchronised checker take what it compared (R87). -/
theorem countChecker_synchronised {ln : Nat} (bits errors : Nat) {h : Hw} (hc : (lane h ln).checkerSync = true) :
    countChecker h ln bits errors =
      setObj (setObj h 0x2231 ln 0 (min (2 ^ 48 - 1) (obj h 0x2231 ln + bits))) 0x2232 ln 0 (min (2 ^ 48 - 1) (obj h 0x2232 ln + errors)) := by
  simp only [countChecker, hc, Bool.not_true, Bool.false_eq_true, if_false]

/-- A laneset enters quiet idle: a downstream one at any time, an upstream one when allowed and with nothing to send (R135). -/
theorem quietEnter_enters {ls : Nat} {h : Hw} (ha : awake h = true) (hl : linkActive h = true) (hi : inService h ls = true)
    (hq : (laneset h ls).quiet = false)
    (hm : 16 ≤ ls ∨ (flag h 0x3030 2 = true ∧ (port h (portOf h ls)).wait = [] ∧ (port h (portOf h ls)).replay = [])) :
    quietEnter ls h =
      let k := if ls < 16 then fillIdle h ls else h
      showAdapt (bump (setLaneset k ls { laneset k ls with quiet := true, replayWait := false }) 0x3032 ls) ls := by
  have hmay : (decide (16 ≤ ls) || (flag h 0x3030 2 && (port h (portOf h ls)).wait.isEmpty && (port h (portOf h ls)).replay.isEmpty)) = true := by
    simpa [and_assoc] using hm
  simp only [quietEnter, ha, hl, hi, hq, hmay, Bool.not_false, Bool.and_self, if_true]

/-- Quiet idle ends with the first even frame (R135). -/
theorem quietExit_quiet {ls : Nat} {h : Hw} (ha : awake h = true) (hq : (laneset h ls).quiet = true) :
    quietExit ls h = showAdapt (setLaneset h ls { laneset h ls with quiet := false, parity := true }) ls := by
  simp only [quietExit, ha, hq, Bool.and_self, if_true]

/-- Parking begins for a laneset that is called and may park (R136). -/
theorem parkStart_called {ls : Nat} {h : Hw} (ha : awake h = true) (hm : mayPark h ls = true) (hc : parkCalled h ls = true) :
    parkStart ls h = setLaneset h ls { laneset h ls with parkWait := true } := by
  simp only [parkStart, ha, hm, hc, Bool.and_self, if_true]

/-- In IDLE it is noted with the call, unless the power cap has called for it (R312). -/
theorem parkFor_called {ls : Nat} {h : Hw} (ha : awake h = true) (hm : mayPark h ls = true) (hc : parkCalled h ls = true) :
    parkFor ls h =
      let k := setLaneset h ls { laneset h ls with parkWait := true }
      if obj h 0x7000 1 = 1 ∧ ls ∉ h.power.parkedFor ∧ .park ls ∉ h.power.actions then
        setPower k { k.power with parkedFor := k.power.parkedFor ++ [ls] }
      else k := by
  simp only [parkFor, parkStart_called ha hm hc, obj_setLaneset, laneset_setLaneset_same, setLaneset_power, Bool.and_true, Bool.and_eq_true, beq_iff_eq,
    Bool.not_eq_true', List.contains_eq_mem, decide_eq_false_iff_not, and_assoc]

/-- A laneset that waits to park, and still may or must, parks once every flit is acknowledged (R136). -/
theorem parkFlits_acknowledged {ls : Nat} {h : Hw} (ha : awake h = true) (hi : inService h ls = true) (hw : (laneset h ls).parkWait = true)
    (hm : sleepParks h = true ∨ (mayPark h ls = true ∧ parkCalled h ls = true)) (hr : (laneset h ls).retry = []) :
    parkFlits ls h =
      bump (moveLaneset (sendFlit (sendFlit (setLaneset h ls { laneset h ls with parkWait := false }) ls .park) ls .park) ls 3) 0x3033 ls := by
  have hmay : (sleepParks h || (mayPark h ls && parkCalled h ls)) = true := by simpa using hm
  simp only [parkFlits, ha, hi, hw, hmay, hr, Bool.and_self, Bool.not_true, Bool.false_eq_true, if_false, List.isEmpty_nil, if_true]

/-- A PARK flit parks the laneset that carries it (R136). -/
theorem takePark_inService {ls : Nat} {h : Hw} (ha : awake h = true) (hi : inService h ls = true) :
    takePark ls h =
      bump (moveLaneset (setLaneset h ls { laneset h ls with parkSeen := true, replayWait := false, wakeFirst := none }) ls 3) 0x3033 ls := by
  simp only [takePark, ha, hi, Bool.and_self, if_true]

/-- The sender wakes a laneset that it has parked (R99). -/
theorem wakeLaneset_parked {ls : Nat} {h : Hw} (hp : lsState h ls = 3) :
    wakeLaneset ls h =
      let k := bump (moveLaneset h ls 0) 0x2240 ls
      let k := startStream (setLaneset k ls { laneset k ls with wakeSent := true, parkWait := false }) ls
      flushPort (sendWake k ls) (portOf k ls) :=
  if_pos (beq_iff_eq.mpr hp)

/-- A detector that fires on a listening laneset opens the lane's window, or opens it anew (R100, R102). -/
theorem detectorFire_listening {ln : Nat} (last : Nat) {h : Hw} (hm : h.mode = .run) (hp : lsState h (ln / 9) = 3) :
    detectorFire ln last h =
      let k := if (lane h ln).window.isSome = true then bump h 0x2242 (ln / 9) else h
      setLane k ln { lane h ln with window := some (last + 96) } := by
  have hk : lane (if (lane h ln).window.isSome = true then bump h 0x2242 (ln / 9) else h) ln = lane h ln := by split <;> rfl
  simp only [detectorFire, listening, hm, hp, hk, beq_self_eq_true, Bool.and_self, Bool.not_true, Bool.false_eq_true, if_false]

/-- A window that closes is a false reception (R100). -/
theorem windowClose_open {ln : Nat} {h : Hw} (hw : (lane h ln).window.isSome = true) :
    windowClose ln h = bump (setLane h ln { lane h ln with window := none }) 0x2241 (ln / 9) := by
  simp only [windowClose, hw, if_true]

/-- The wake word recognised in a mapped lane's window is noted; the fifth lane wakes the laneset, which is a wake event (R100, R320). -/
theorem wakeWordRecognised_inWindow {ln last e : Nat} {signs : List Bool} {h : Hw} (hm : h.mode = .run) (hp : lsState h (ln / 9) = 3)
    (hs : wakeRecognised signs = true) (hmap : (stripeAt (laneset h (ln / 9)) (ln % 9)).isSome = true) (hw : (lane h ln).window = some e)
    (hle : last ≤ e) :
    wakeWordRecognised ln signs last h =
      let ls := ln / 9
      let k := wakeSpan h ls last
      let k := setLane k ln { lane k ln with window := none, wakeSeen := true }
      if ((laneset h ls).map.filter (fun i => (lane k (laneOf ls i)).wakeSeen)).length < 5 then k else wakeEvent 4 ls (wakeReceived k ls) := by
  simp only [wakeWordRecognised, wakeWord, listening, hm, hp, hs, Option.isNone_eq_false_iff.mpr hmap, hw, hle, Option.any_some, decide_true,
    beq_self_eq_true, Bool.and_self, Bool.not_true, Bool.or_self, Bool.false_eq_true, if_false]
  split <;> rfl

/-- Settles O8: each event's function, on the state that the clause describes, takes the branch of the event. -/
theorem lanesetEventsComplete : Obligations.LanesetEventsComplete := by
  unfold Obligations.LanesetEventsComplete
  refine ⟨?_, ?_, ?_, ?_, ?_, ?_, ?_, ?_, ?_, ?_, ?_, ?_, ?_, ?_, ?_, ?_⟩
  · intro s ls failed hw ha hi hl
    exact exec_eq_after rfl hw ((if_pos ha).trans (withdraw_inService (h := begin s.hw) failed [] hi hl))
  · intro s ls msg hw ha
    exact exec_eq_after rfl hw (if_neg (by simp [ha]))
  · intro s ls hw ha hp hb
    exact exec_eq_after rfl hw (takeRejoin_exchanged (h := begin s.hw) ha hp hb)
  · intro s ls pattern hw ha hl hi
    have hstands : (awake (begin s.hw) && linkActive (begin s.hw) && inService (begin s.hw) ls) = true := by simp [ha, hl, hi]
    exact exec_eq_after rfl hw ((if_pos hstands).trans (startTest_upstream pattern (begin s.hw) (upstream_of_wf_testStart hw)))
  · intro s ls hw ha ht
    exact exec_eq_after rfl hw ((if_pos ha).trans (endTest_testing (h := begin s.hw) ht))
  · intro s ln bits errors hw ha hc
    refine exec_eq_after rfl hw ((if_pos ha).trans ?_)
    simp only [countChecker_synchronised (h := begin s.hw) bits errors hc]
    rfl
  · intro s ls hw ha hl hi hq hm
    exact exec_eq_after rfl hw (quietEnter_enters (h := begin s.hw) ha hl hi hq hm)
  · intro s ls hw ha hq
    exact exec_eq_after rfl hw (quietExit_quiet (h := begin s.hw) ha hq)
  · intro s ls hw ha hm hc
    exact exec_eq_after rfl hw (parkFor_called (h := begin s.hw) ha hm hc)
  · intro s ls hw ha hi hp hm hr
    exact exec_eq_after rfl hw (parkFlits_acknowledged (h := begin s.hw) ha hi hp hm hr)
  · intro s ls hw ha hi
    exact exec_eq_after rfl hw (takePark_inService (h := begin s.hw) ha hi)
  · intro s ls hw ha hp
    exact exec_eq_after rfl hw ((if_pos ha).trans (wakeLaneset_parked (h := begin s.hw) hp))
  · intro s ls hw ha hs
    exact exec_eq_after rfl hw (if_pos (Bool.and_eq_true_iff.mpr ⟨ha, hs⟩))
  · intro s ln run last hw hm hp
    exact exec_eq_after rfl hw (detectorFire_listening (h := begin s.hw) last hm hp)
  · intro s ln hw hopen
    exact exec_eq_after rfl hw (windowClose_open (h := begin s.hw) hopen)
  · intro s ln last e signs hw hm hp hs hmap hwin hle
    exact exec_eq_after rfl hw (wakeWordRecognised_inWindow (h := begin s.hw) hm hp hs hmap hwin hle)

end Sys2Proof.Machine

/-! Flits received and replayed, by the branch they take (R66, R87, R88, R110, R132 to R134). -/

namespace Sys2Proof.Machine

/-- A laneset in service of a port that is not down takes flits (R96). -/
theorem takesFlits_of_up {ls : Nat} {h : Hw} (hi : inService h ls = true) (hd : (port h (portOf h ls)).down = false) :
    takesFlits h ls = true := by
  simp only [takesFlits, hi, hd, Bool.and_false, Bool.not_false, Bool.and_self]

section
variable {ls : Nat} {given : Option (List Byte × Bool)} {bytes : List Byte} {converged : Bool} {h : Hw} (updates : List LaneUpdate) (began : Nat)
  (ha : awake h = true) (hl : linkActive h = true) (hi : inService h ls = true) (hd : (port h (portOf h ls)).down = false)
  (hf : (arrivedFlit (laneset h ls) given).2 = some (converged, bytes)) (hz : bytes.all (· == 0#8) = false)
include ha hl hi hd hf hz

/-- A flit that did not converge or fails its CRC is discarded, counted and answered by a REPLAY_REQ (R110, R133). -/
theorem flitReceive_discards (hc : ¬(converged = true ∧ crc64 (bytes.take 504) = leNat (bytes.drop 504))) :
    flitReceive ls given updates began h =
      let l := (arrivedFlit (laneset h ls) given).1
      let k := setLaneset h ls l
      askReplay (setLaneset (bump k 0x2214 ls) ls { l with failRun := l.failRun + 1 }) ls := by
  have hbad : (!converged || crc64 (bytes.take 504) != leNat (bytes.drop 504)) = true := by
    simpa only [Bool.or_eq_true, Bool.not_eq_true', bne_iff_ne, ← Bool.not_eq_true, ← not_and_or] using hc
  simp only [flitReceive, ha, hl, hi, hf, hz, hbad, linkActive_setLaneset, takesFlits_setLaneset, takesFlits_of_up hi hd, Bool.true_or,
    Bool.and_self, Bool.not_true, Bool.or_self, Bool.false_eq_true, if_false, if_true]

/-- An intact flit updates its lanes, applies its ACK and is handled by its type (R53, R110, R132). -/
theorem flitReceive_intact (hconv : converged = true) (hcrc : crc64 (bytes.take 504) = leNat (bytes.drop 504)) :
    flitReceive ls given updates began h =
      let l := (arrivedFlit (laneset h ls) given).1
      let k := setLaneset h ls l
      let k := setLaneset k ls { markActive l ((bytes.headD 0#8).toNat % 16) with replayWait := false }
      let k := takeUpdates ls began updates k
      takeFlit ls bytes (applyAck k (portOf k ls) (field (leNat (bytes.take 8)) 27 16)) := by
  simp only [flitReceive, ha, hl, hi, hd, hf, hz, hconv, hcrc, linkActive_setLaneset, inService_setLaneset, portOf_setLaneset,
    port_setLaneset, Bool.true_or, Bool.and_self, Bool.not_true, Bool.or_self, bne_self_eq_false, Bool.false_eq_true, if_false]

end

/-- A REPLAY_REQ resends what was sent after LAST_SEQ (R133). -/
theorem resend_takes {ls : Nat} (last : Option Nat) {h : Hw} (ha : awake h = true) (hl : linkActive h = true) (ht : takesFlits h ls = true) :
    resend ls last h =
      (toResend (laneset h ls) last).foldl (fun k f => sendFlit k ls (.data f))
        (bumpBy h 0x3003 (portOf h ls) 0 (toResend (laneset h ls) last).length) := by
  simp only [resend, ha, hl, ht, Bool.and_self, if_true]

/-- An unanswered REPLAY_REQ is sent again (R134). -/
theorem replayRepeat_waiting {ls : Nat} {h : Hw} (ha : awake h = true) (hl : linkActive h = true) (ht : takesFlits h ls = true)
    (hw : (laneset h ls).replayWait = true) (hq : (laneset h ls).quiet = false) : replayRepeat ls h = askReplay h ls := by
  simp only [replayRepeat, ha, hl, ht, hw, hq, Bool.not_false, Bool.and_self, if_true]

/-- At the limit of failed flits the laneset is withdrawn (R134). -/
theorem replayWithdraw_limit {ls : Nat} {h : Hw} (ha : awake h = true) (hl : linkActive h = true) (hi : inService h ls = true)
    (hr : obj h 0x3010 2 ≤ (laneset h ls).failRun) : replayWithdraw ls h = withdraw (bump h 0x3007 ls) ls none [] := by
  simp only [replayWithdraw, ha, hl, hi, hr, decide_true, Bool.and_self, if_true]

/-- A checker that is set synchronises (R87). -/
theorem checkerSync_no_test {ln : Nat} {h : Hw} (ha : awake h = true) (ho : obj h 0x2230 ln ≠ 0) (ht : (laneset h (ln / 9)).testPath = none) :
    checkerSync ln h = setLane h ln { lane h ln with checkerSync := true } := by
  simp only [checkerSync, ha, bne_iff_ne.mpr ho, laneset_setLane, ht, Bool.and_self, if_true]

/-- In a test it shows that the host sends the pattern, which completes 0x2233 (R88). -/
theorem checkerSync_ends_wait {ln p : Nat} {h : Hw} (ha : awake h = true) (ho : obj h 0x2230 ln ≠ 0)
    (ht : (laneset h (ln / 9)).testPath = some p) :
    checkerSync ln h =
      let k := setLane h ln { lane h ln with checkerSync := true }
      finishOp (setLaneset k (ln / 9) { laneset k (ln / 9) with testPath := none }) p { status := .ok, total := 4 } := by
  simp only [checkerSync, ha, bne_iff_ne.mpr ho, laneset_setLane, ht, Bool.and_self, if_true]

/-- REFUSE ends a pattern test, and 0x2233 completes with NOT_READY (R88). -/
theorem takeRefuse_testing {ls p : Nat} {h : Hw} (ha : awake h = true) (hs : lsState h ls = 4) (ht : (laneset h ls).testPath = some p) :
    takeRefuse ls h = finishOp (endTest (setLaneset h ls { laneset h ls with testPath := none }) ls) p { status := .notReady } := by
  simp only [takeRefuse, ha, hs, ht, beq_self_eq_true, Bool.and_self, if_true]

/-- Settles O9: each event's function, on the state that the clause describes, takes the branch of the event. -/
theorem flitEventsComplete : Obligations.FlitEventsComplete := by
  unfold Obligations.FlitEventsComplete
  refine ⟨?_, ?_, ?_, ?_, ?_, ?_, ?_⟩
  · intro s ls given updates began bytes converged hw ha hl hi hd hf hz l h
    exact ⟨fun hc => exec_eq_after rfl hw (flitReceive_discards (h := begin s.hw) updates began ha hl hi hd hf hz hc),
      fun hconv hcrc => exec_eq_after rfl hw (flitReceive_intact (h := begin s.hw) updates began ha hl hi hd hf hz hconv hcrc)⟩
  · intro s ls last hw ha hl ht
    exact exec_eq_after rfl hw (resend_takes (h := begin s.hw) last ha hl ht)
  · intro s ls hw ha hl ht hwait hq
    exact exec_eq_after rfl hw (replayRepeat_waiting (h := begin s.hw) ha hl ht hwait hq)
  · intro s ls hw ha hl hi hr
    exact exec_eq_after rfl hw (replayWithdraw_limit (h := begin s.hw) ha hl hi hr)
  · intro s ln hw ha ho ht
    exact exec_eq_after rfl hw (checkerSync_no_test (h := begin s.hw) ha ho ht)
  · intro s ln p hw ha ho ht
    exact exec_eq_after rfl hw (checkerSync_ends_wait (h := begin s.hw) ha ho ht)
  · intro s ls p hw ha hs ht
    exact exec_eq_after rfl hw (takeRefuse_testing (h := begin s.hw) ha hs ht)

end Sys2Proof.Machine

/-! Sequence numbers and acknowledgement of DATA flits (R131, R132). -/

namespace Sys2Proof.Machine

section
variable {h : Hw} {p seq : Nat} (ls : Nat) (bytes : List Byte)

/-- A flit behind the expected one is counted as a duplicate (R131). -/
theorem takeData_behind (hb : 1 ≤ ((port h p).expect + 4096 - seq) % 4096 ∧ ((port h p).expect + 4096 - seq) % 4096 ≤ 2048) :
    takeData h p ls seq bytes = bump h 0x3004 p :=
  if_pos (by simpa using hb)

/-- One past the reorder window is a protocol error (R131). -/
theorem takeData_past_window (hb : 2048 < ((port h p).expect + 4096 - seq) % 4096)
    (ha : reorderCapacity h ≤ (seq + 4096 - (port h p).expect) % 4096) : takeData h p ls seq bytes = protocolError h p :=
  (if_neg (by simp; omega)).trans (if_neg (Nat.not_lt.mpr ha))

end

theorem reorderCapacity_pos (h : Hw) : 0 < reorderCapacity h := by
  unfold reorderCapacity
  split <;> decide

/-- Settles O10: a flit less than 2,048 ahead is more than 2,048 behind, so the two windows exclude each other. -/
theorem duplicateFlitsAreNotDelivered : Obligations.DuplicateFlitsAreNotDelivered := by
  unfold Obligations.DuplicateFlitsAreNotDelivered
  intro h p ls seq bytes hs he
  refine ⟨takeData_behind ls bytes, fun hcap hlt => ?_⟩
  have hpos := reorderCapacity_pos h
  exact takeData_past_window ls bytes (by omega) hcap

/-- A flit of a retry buffer that an ACK does not cover (R132). -/
def uncovered (ack : Nat) (f : TxFlit) : Bool := decide (2048 ≤ (ack + 4096 - f.seq) % 4096)

/-- What an ACK does to the retry buffer of one laneset (R132). -/
def freeCovered (ack : Nat) (h : Hw) (k : Nat) : Hw :=
  let l := laneset h k
  let rest := l.retry.filter (uncovered ack)
  setLaneset h k { l with retry := rest, order := l.order.dropWhile (fun q => rest.all (fun f => f.seq != q)), wakeSent := l.wakeSent && rest.length == l.retry.length }

theorem retry_freeCovered_same (ack : Nat) (h : Hw) (k : Nat) :
    (laneset (freeCovered ack h k) k).retry = (laneset h k).retry.filter (uncovered ack) := by
  simp only [freeCovered, laneset_setLaneset_same]

theorem laneset_freeCovered_other (ack : Nat) (h : Hw) {k j : Nat} (hj : j ≠ k) : laneset (freeCovered ack h k) j = laneset h j :=
  laneset_setLaneset_other h _ hj

/-- Freeing a laneset a second time frees nothing more, so over a list each named laneset keeps what is uncovered. -/
theorem retry_foldl_freeCovered (ack : Nat) (ks : List Nat) (h : Hw) (j : Nat) :
    (laneset (ks.foldl (freeCovered ack) h) j).retry =
      if j ∈ ks then (laneset h j).retry.filter (uncovered ack) else (laneset h j).retry := by
  induction ks generalizing h with
  | nil => rfl
  | cons k ks ih =>
    rw [List.foldl_cons, ih]
    by_cases hj : j = k
    · subst hj
      simp only [retry_freeCovered_same, List.filter_filter, Bool.and_self, ite_self, List.mem_cons, true_or, if_true]
    · simp only [laneset_freeCovered_other ack h hj, List.mem_cons, hj, false_or]

/-- Ports, registers and output stay. -/
theorem foldl_freeCovered_frame (ack : Nat) (ks : List Nat) (h : Hw) :
    (∀ p, port (ks.foldl (freeCovered ack) h) p = port h p) ∧ (ks.foldl (freeCovered ack) h).regs = h.regs ∧
      (ks.foldl (freeCovered ack) h).out = h.out :=
  List.foldlRecOn (motive := fun t : Hw => (∀ p, port t p = port h p) ∧ t.regs = h.regs ∧ t.out = h.out) ks (freeCovered ack)
    ⟨fun _ => rfl, rfl, rfl⟩ (fun (_ : Hw) ht (_ : Nat) _ => ht)

section
variable {h : Hw} {p ack : Nat}

/-- An ACK that is not newer than the last one applied changes nothing (R132). -/
theorem applyAck_not_newer (hd : (ack + 4096 - (port h p).lastAck) % 4096 = 0 ∨ 2047 < (ack + 4096 - (port h p).lastAck) % 4096) :
    applyAck h p ack = h :=
  if_pos (by simpa using hd)

/-- A newer one is noted, frees the retry buffers of the port's lanesets and lets the port send (R132). -/
theorem applyAck_newer (h0 : 0 < (ack + 4096 - (port h p).lastAck) % 4096) (hd : (ack + 4096 - (port h p).lastAck) % 4096 ≤ 2047) :
    applyAck h p ack =
      flushPort ((portUps h p).foldl (freeCovered ack)
        (setPort h p { port h p with lastAck := ack, replay := (port h p).replay.filter (uncovered ack) })) p :=
  if_neg (by simp; omega)

end

/-- Settles O11: every upstream laneset of the port is among those that a newer ACK frees. -/
theorem ackFreesCoveredFlits : Obligations.AckFreesCoveredFlits := by
  unfold Obligations.AckFreesCoveredFlits
  intro h p ack _ _
  refine ⟨applyAck_not_newer, fun h0 hd => ⟨_, applyAck_newer h0 hd, fun k hk => ?_, ?_⟩⟩
  · rw [retry_foldl_freeCovered, if_pos hk]
    rfl
  · obtain ⟨hport, hregs, hout⟩ := foldl_freeCovered_frame ack (portUps h p)
      (setPort h p { port h p with lastAck := ack, replay := (port h p).replay.filter (uncovered ack) })
    rw [hport, port_setPort_same]
    exact ⟨rfl, rfl, hregs, hout⟩

end Sys2Proof.Machine

/-! Requests taken from a port's buffer (R113 to R117, R210). -/

namespace Sys2Proof.Machine

/-- The head of the buffer is picked when it moves lines and is of the kind asked for (R210). -/
theorem pickReq_head (h : Hw) (p : Nat) {want : Req → Bool} {q : HeldReq} (rest : List HeldReq) (hl : (reqLine q.req).isSome = true)
    (hw : want q.req = true) : pickReq h p want [] (q :: rest) [] = some (q, rest) := by
  obtain ⟨⟨line, label⟩, hline⟩ := Option.isSome_iff_exists.mp hl
  simp only [pickReq, hline, hw, List.contains_nil, Bool.not_false, Bool.and_self, if_true, List.nil_append]

/-- A malformed request is one that moves lines (R114, R117). -/
theorem reqLine_of_reqError {r : Req} {st : Nat} (he : reqError r = some st) : (reqLine r).isSome = true := by
  cases r with
  | rd => rfl
  | wr => rfl
  | atom => rfl
  | fence => exact absurd he nofun
  | release => exact absurd he nofun

/-- A picked request leaves the port's buffer `rest`, and its credits become due (R128). -/
def leaveBuffer (h : Hw) (p : Nat) (r : Req) (rest : List HeldReq) : Hw :=
  returnCredits (setPort h p { port h p with req := rest }) p (reqSlots r) 0 0

/-- A request that was taken leaves the buffer, and its tag comes into use (R115). -/
def takenReq (h : Hw) (p : Nat) (r : Req) (rest : List HeldReq) : Hw :=
  match reqTag r with
  | some t => useTag (leaveBuffer h p r rest) p t
  | none => leaveBuffer h p r rest

theorem takenReq_tagged {r : Req} {tag : Nat} (ht : reqTag r = some tag) (h : Hw) (p : Nat) (rest : List HeldReq) :
    takenReq h p r rest = useTag (leaveBuffer h p r rest) p tag := by
  simp only [takenReq, ht]

theorem takenReq_untagged {r : Req} (ht : reqTag r = none) (h : Hw) (p : Nat) (rest : List HeldReq) :
    takenReq h p r rest = leaveBuffer h p r rest := by
  simp only [takenReq, ht]

section
variable {h : Hw} {p since : Nat} {want : Req → Bool} {r : Req} {rest : List HeldReq}

/-- With admission open and no FENCE, what becomes of the picked request decides (R119, R316). -/
theorem takeReq_picks (ha : admitting h = true) (hf : (port h p).fence = none)
    (hp : pickReq h p want [] (port h p).req [] = some (⟨since, r⟩, rest)) :
    ∃ fuel, takeReq p want h = takeFrom p want (fuel + 1) [] h := by
  cases hq : (port h p).req with
  | nil => simp only [hq, pickReq, reduceCtorEq] at hp
  | cons q qs => exact ⟨qs.length, by simp only [takeReq, ha, hf, hq, Bool.not_true, Option.isSome_none, Bool.or_self, Bool.false_eq_true, if_false, List.length_cons]⟩

/-- A malformed request is answered, or counted (R114, R117). -/
theorem takeReq_malformed {st : Nat} (ha : admitting h = true) (hf : (port h p).fence = none)
    (hp : pickReq h p want [] (port h p).req [] = some (⟨since, r⟩, rest)) (he : reqError r = some st) :
    takeReq p want h = rejectReq (leaveBuffer h p r rest) p r st := by
  obtain ⟨fuel, hfuel⟩ := takeReq_picks ha hf hp
  simp only [hfuel, takeFrom, hp, he]
  rfl

/-- Any other is offered for admission under its route entry, and taken when the offer is (R210). -/
theorem takeReq_taken {line label : Nat} (ha : admitting h = true) (hf : (port h p).fence = none)
    (hp : pickReq h p want [] (port h p).req [] = some (⟨since, r⟩, rest)) (he : reqError r = none) (hl : reqLine r = some (line, label)) :
    let e := lookup h (line / 1024)
    let t := offerTxn e.1 (txnOf e.1 p r (entTrack e.2) since)
    t.2 = true → takeReq p want h = takenReq t.1 p r rest := by
  intro e t ht
  obtain ⟨fuel, hfuel⟩ := takeReq_picks ha hf hp
  simp only [hfuel, takeFrom, hp, he, hl, Option.getD_some]
  exact if_pos ht

end

/-- An offer is taken while nothing of its class waits in an old queue and the class has room (R204, R210). -/
theorem offerTxn_taken {h : Hw} {q : Txn} (hw : reclassWaits h q.track q.port q.cls = false)
    (hr : (queuedOf h q.track q.cls = none ∧ underLimit h q.track q.cls = true) ∨ (clsSt h q.track q.cls).queue.length < 256) :
    (offerTxn h q).2 = true := by
  unfold offerTxn
  simp only [hw, Bool.not_false, Bool.and_true]
  split
  · rfl
  · next hfull =>
    have hroom : (clsSt h q.track q.cls).queue.length < 256 := hr.resolve_left (fun ⟨hq, hu⟩ => hfull (by simp only [hq, hu, Option.isNone_none, Bool.and_self]))
    rw [if_pos (by simpa using hroom)]

/-- `RoomForRequest` is that condition for the transaction that a request becomes. -/
theorem offerTxn_of_room {h : Hw} {p since line label : Nat} {r : Req} (hl : reqLine r = some (line, label)) (hr : RoomForRequest h p label line) :
    (offerTxn (lookup h (line / 1024)).1 (txnOf (lookup h (line / 1024)).1 p r (entTrack (lookup h (line / 1024)).2) since)).2 = true := by
  obtain ⟨hw, hroom⟩ := hr
  cases r with
  | rd => cases hl; exact offerTxn_taken hw hroom
  | wr => cases hl; exact offerTxn_taken hw hroom
  | atom => cases hl; exact offerTxn_taken hw hroom
  | fence => cases hl
  | release => cases hl

/-- The oldest request of a port, whose class has room, is taken (R113, R210). -/
theorem takeReq_oldest {h : Hw} {p since line label : Nat} {want : Req → Bool} {r : Req} {rest : List HeldReq} (ha : admitting h = true)
    (hf : (port h p).fence = none) (hq : (port h p).req = ⟨since, r⟩ :: rest) (hw : want r = true) (he : reqError r = none)
    (hl : reqLine r = some (line, label)) (hr : RoomForRequest h p label line) :
    takeReq p want h =
      takenReq (offerTxn (lookup h (line / 1024)).1 (txnOf (lookup h (line / 1024)).1 p r (entTrack (lookup h (line / 1024)).2) since)).1 p r rest :=
  takeReq_taken ha hf (hq ▸ pickReq_head h p (q := ⟨since, r⟩) rest (Option.isSome_of_eq_some hl) hw) he hl (offerTxn_of_room hl hr)

/-- An atomic of a known operation, with an even WORD when it is wide, is well formed (R117). -/
theorem reqError_atom {tag label line word op a b : Nat} {wide sgn : Bool} (ho : op < 5) (hw : wide = true → word % 2 = 0) :
    reqError (.atom tag label line word wide op sgn a b) = none := by
  have hodd : (wide && word % 2 == 1) = false := by
    cases wide with
    | false => rfl
    | true => simp [hw rfl]
  simp only [reqError, Nat.not_le.mpr ho, hodd, Bool.false_eq_true, if_false]

/-- Settles O12: the oldest request is the one picked, and each kind's tag and credits are those of `takenReq`. -/
theorem requestsComplete : Obligations.RequestsComplete := by
  unfold Obligations.RequestsComplete
  refine ⟨?_, ?_, ?_, ?_, ?_, ?_, ?_, ?_, ?_⟩
  · intro s p since tag label line count rest hw ha hf hq hl hr
    exact exec_eq_after rfl hw ((takeReq_oldest (h := begin s.hw) ha hf hq rfl (if_pos hl) rfl hr).trans (takenReq_tagged rfl _ p rest))
  · intro s p since tag label line count poison data rest hw ha hf hq hl hr
    exact exec_eq_after rfl hw ((takeReq_oldest (h := begin s.hw) ha hf hq rfl (if_pos hl) rfl hr).trans (takenReq_untagged rfl _ p rest))
  · intro s p since tag label line count poison data rest hw ha hf hq hl hr
    exact exec_eq_after rfl hw ((takeReq_oldest (h := begin s.hw) ha hf hq rfl (if_pos hl) rfl hr).trans (takenReq_tagged rfl _ p rest))
  · intro s p since tag label line word op a b wide sgn rest hw ha hf hq ho hwide hr
    exact exec_eq_after rfl hw
      ((takeReq_oldest (h := begin s.hw) ha hf hq rfl (reqError_atom ho hwide) rfl hr).trans (takenReq_tagged rfl _ p rest))
  · intro s p since st r rest ha hf hq he
    have hreject {want : Req → Bool} (hwant : want r = true) :=
      takeReq_malformed (h := begin s.hw) ha hf (hq ▸ pickReq_head (begin s.hw) p (q := ⟨since, r⟩) rest (reqLine_of_reqError he) hwant) he
    exact ⟨fun hw hr => exec_eq_after rfl hw (hreject hr), fun hw hr => exec_eq_after rfl hw (hreject hr),
      fun hw hr => exec_eq_after rfl hw (hreject hr), fun hw hr => exec_eq_after rfl hw (hreject hr)⟩
  · intro s p tag label line count since rest hw ha hf hp hl e t ht
    exact exec_eq_after rfl hw ((takeReq_taken (h := begin s.hw) ha hf hp (if_pos hl) rfl ht).trans (takenReq_tagged rfl _ p rest))
  · intro s p tag label line count poison data since rest hw ha hf hp hl e t ht
    exact exec_eq_after rfl hw ((takeReq_taken (h := begin s.hw) ha hf hp (if_pos hl) rfl ht).trans (takenReq_untagged rfl _ p rest))
  · intro s p tag label line count poison data since rest hw ha hf hp hl e t ht
    exact exec_eq_after rfl hw ((takeReq_taken (h := begin s.hw) ha hf hp (if_pos hl) rfl ht).trans (takenReq_tagged rfl _ p rest))
  · intro s p tag label line word op a b wide sgn since rest hw ha hf hp ho hwide e t ht
    exact exec_eq_after rfl hw ((takeReq_taken (h := begin s.hw) ha hf hp (reqError_atom ho hwide) rfl ht).trans (takenReq_tagged rfl _ p rest))

end Sys2Proof.Machine

/-! FENCE and RELEASE (R119 to R121). -/

namespace Sys2Proof.Machine

section
variable {h : Hw} {p tag since : Nat} {rest : List HeldReq}

/-- A FENCE at the head waits in the port from now on (R119). -/
theorem takeFence_head {jobs : Bool} (ha : admitting h = true) (hq : (port h p).req = ⟨since, .fence tag jobs⟩ :: rest)
    (hf : (port h p).fence = none) :
    takeFence p h =
      useTag (returnCredits (setPort h p { port h p with req := rest, fence := some { tag := tag, jobs := jobs } }) p 1 0 0) p tag := by
  simp only [takeFence, hq, hf, ha, if_true]

/-- Its completion goes out once the earlier work is done (R119). -/
theorem fenceComplete_done {f : Fence} (ha : awake h = true) (hf : (port h p).fence = some f) (hn : f.done = false) (hd : fenceDone h p f = true) :
    fenceComplete p h = sendStatus (freeTag (setPort h p { port h p with fence := some { f with done := true } }) p f.tag) p f.tag 0 := by
  simp only [fenceComplete, hf, ha, hn, hd, Bool.not_false, Bool.and_self, if_true]

/-- A RELEASE of a range that exists, with no earlier request of the port to it, marks the range (R120, R121). -/
theorem takeRelease_head {cpl : Bool} {first count : Nat} (ha : admitting h = true)
    (hq : (port h p).req = ⟨since, .release cpl tag first count⟩ :: rest) (hf : (port h p).fence = none)
    (hn : ∀ e ∈ h.chans.txns, ¬(e.2.port = p ∧ first ≤ e.2.line / 1024 ∧ e.2.line / 1024 < first + count))
    (hc : 1 ≤ count) (hl : first + count ≤ parcels) :
    takeRelease p h =
      let k := releaseRange (returnCredits (setPort h p { port h p with req := rest }) p 1 0 0) first count
      if cpl then sendStatus k p tag 0 else k := by
  have hwaits : (h.chans.txns.any (fun e => e.2.port == p && decide (first ≤ e.2.line / 1024) && decide (e.2.line / 1024 < first + count))) = false := by
    simpa only [List.any_eq_false, Bool.and_eq_true, beq_iff_eq, decide_eq_true_eq, and_assoc] using hn
  simp only [takeRelease, hq, hf, ha, hwaits, hc, hl, decide_true, Bool.not_true, Option.isSome_none, Bool.or_self, Bool.and_self,
    Bool.false_eq_true, if_false, if_true]

end

/-- Settles O13: each event's function, on the state that the clause describes, takes the branch of the event. -/
theorem fenceAndReleaseComplete : Obligations.FenceAndReleaseComplete := by
  unfold Obligations.FenceAndReleaseComplete
  refine ⟨?_, ?_, ?_⟩
  · intro s p tag jobs since rest hw ha hq hf
    exact exec_eq_after rfl hw (takeFence_head (h := begin s.hw) ha hq hf)
  · intro s p f hw ha hf hn hd
    exact exec_eq_after rfl hw (fenceComplete_done (h := begin s.hw) ha hf hn hd)
  · intro s p tag first count cpl since rest hw ha hq hf hn hc hl
    exact exec_eq_after rfl hw (takeRelease_head (h := begin s.hw) ha hq hf hn hc hl)

end Sys2Proof.Machine

/-! The arithmetic of atomics and the operand of a line (R117, R118). -/

namespace Sys2Proof.Machine

section
variable {n old a b : Nat}

theorem atomicNew_min_unsigned : atomicNew 1 n old a b false = min old a := by
  rw [min_comm, min_def_lt]
  simp only [atomicNew, Bool.false_eq_true, if_false, decide_eq_true_eq]

theorem atomicNew_max_unsigned : atomicNew 2 n old a b false = max old a := by
  rw [max_def_lt]
  simp only [atomicNew, Bool.false_eq_true, if_false, decide_eq_true_eq]

theorem toSigned_atomicNew_min : toSigned n (atomicNew 1 n old a b true) = min (toSigned n old) (toSigned n a) := by
  rw [min_comm, min_def_lt]
  simp only [atomicNew, if_true, decide_eq_true_eq, apply_ite (toSigned n)]

theorem toSigned_atomicNew_max : toSigned n (atomicNew 2 n old a b true) = max (toSigned n old) (toSigned n a) := by
  rw [max_def_lt]
  simp only [atomicNew, if_true, decide_eq_true_eq, apply_ite (toSigned n)]

theorem ite_lt_of_lt {c : Prop} [Decidable c] {x y m : Nat} (hx : x < m) (hy : y < m) : (if c then x else y) < m := by
  split
  · exact hx
  · exact hy

/-- The new value is the wrapped sum, or one of the old value and the operands. -/
theorem atomicNew_lt (op : Nat) (sgn : Bool) (ho : old < 2 ^ n) (ha : a < 2 ^ n) (hb : b < 2 ^ n) : atomicNew op n old a b sgn < 2 ^ n :=
  match op with
  | 0 => Nat.mod_lt _ (Nat.two_pow_pos n)
  | 1 => ite_lt_of_lt ha ho
  | 2 => ite_lt_of_lt ha ho
  | 3 => ha
  | _ + 4 => ite_lt_of_lt hb ho

end

/-- Settles O14: ADD, SWAP and CAS by their branch, MIN and MAX by the comparison that each makes. -/
theorem atomicArithmetic : Obligations.AtomicArithmetic := by
  unfold Obligations.AtomicArithmetic
  intro n old a b sgn _ ho ha hb
  exact ⟨rfl, ⟨atomicNew_min_unsigned, atomicNew_max_unsigned⟩, toSigned_atomicNew_min, toSigned_atomicNew_max, rfl, rfl,
    fun op => atomicNew_lt op sgn ho ha hb⟩

/-- A value in three pieces: below bit `i`, the `n` bits from there, and those above. -/
theorem split_three (x i n : Nat) : x % 2 ^ i + 2 ^ i * (x / 2 ^ i % 2 ^ n + 2 ^ n * (x / 2 ^ i / 2 ^ n)) = x := by
  rw [Nat.mod_add_div, Nat.mod_add_div]

theorem two_pow_mul_add_lt {x b i j : Nat} (hx : x < 2 ^ j) (hb : b < 2 ^ i) : 2 ^ i * x + b < 2 ^ (i + j) := by
  calc 2 ^ i * x + b < 2 ^ i * (x + 1) := by rw [Nat.mul_succ]; exact Nat.add_lt_add_left hb _
    _ ≤ 2 ^ (i + j) := by rw [Nat.pow_add]; exact Nat.mul_le_mul_left _ hx

section
variable {d : Line} {word n v : Nat} (hfit : 32 * word + n ≤ 512) (hv : v < 2 ^ n)
include hfit hv

/-- The line with its operand replaced: the pieces below and above stay. -/
theorem toNat_setLineWord :
    (setLineWord d word n v).toNat =
      2 ^ (32 * word) * (2 ^ n * (d.toNat / 2 ^ (32 * word) / 2 ^ n) + v) + d.toNat % 2 ^ (32 * word) := by
  have hsplit := split_three d.toNat (32 * word) n
  have hlow : d.toNat % 2 ^ (32 * word) < 2 ^ (32 * word) := Nat.mod_lt _ (Nat.two_pow_pos _)
  have htop : d.toNat / 2 ^ (32 * word) / 2 ^ n < 2 ^ (512 - (32 * word + n)) := by
    rw [Nat.div_div_eq_div_mul, ← Nat.pow_add, Nat.div_lt_iff_lt_mul (Nat.two_pow_pos _), ← Nat.pow_add, Nat.sub_add_cancel hfit]
    exact d.isLt
  have hlt := two_pow_mul_add_lt (two_pow_mul_add_lt htop hv) hlow
  rw [← Nat.add_assoc, Nat.add_sub_cancel' hfit] at hlt
  have hcleared : d.toNat - d.toNat / 2 ^ (32 * word) % 2 ^ n * 2 ^ (32 * word) =
      d.toNat % 2 ^ (32 * word) + 2 ^ (32 * word) * (2 ^ n * (d.toNat / 2 ^ (32 * word) / 2 ^ n)) :=
    Nat.sub_eq_of_eq_add (by linarith)
  have hwritten : d.toNat % 2 ^ (32 * word) + 2 ^ (32 * word) * (2 ^ n * (d.toNat / 2 ^ (32 * word) / 2 ^ n)) + v * 2 ^ (32 * word) =
      2 ^ (32 * word) * (2 ^ n * (d.toNat / 2 ^ (32 * word) / 2 ^ n) + v) + d.toNat % 2 ^ (32 * word) := by ring
  rw [setLineWord, lineWord, Nat.mod_eq_of_lt hv, hcleared, hwritten, BitVec.toNat_ofNat]
  exact Nat.mod_eq_of_lt hlt

theorem lineWord_setLineWord : lineWord (setLineWord d word n v) word n = v := by
  have hlow : d.toNat % 2 ^ (32 * word) < 2 ^ (32 * word) := Nat.mod_lt _ (Nat.two_pow_pos _)
  rw [lineWord, toNat_setLineWord hfit hv, Nat.mul_add_div (Nat.two_pow_pos _), Nat.div_eq_of_lt hlow, Nat.add_zero, Nat.mul_add_mod,
    Nat.mod_eq_of_lt hv]

/-- Bits outside the operand are those of the line before. -/
theorem getLsbD_setLineWord_outside {i : Nat} (hi : i < 32 * word ∨ 32 * word + n ≤ i) :
    (setLineWord d word n v).getLsbD i = d.getLsbD i := by
  have hlow : d.toNat % 2 ^ (32 * word) < 2 ^ (32 * word) := Nat.mod_lt _ (Nat.two_pow_pos _)
  rw [BitVec.getLsbD, BitVec.getLsbD, toNat_setLineWord hfit hv, Nat.testBit_two_pow_mul_add _ hlow]
  obtain hbelow | habove := hi
  · rw [if_pos hbelow, Nat.testBit_mod_two_pow, decide_eq_true hbelow, Bool.true_and]
  · rw [if_neg (by omega), Nat.testBit_two_pow_mul_add _ hv, if_neg (by omega), Nat.testBit_div_two_pow, Nat.testBit_div_two_pow]
    congr 1
    omega

end

/-- Settles O15: the operand and the bits outside it, read from the three pieces of the written line. -/
theorem atomicTouchesItsOperandAlone : Obligations.AtomicTouchesItsOperandAlone := by
  unfold Obligations.AtomicTouchesItsOperandAlone
  exact fun d word n v hfit hv => ⟨lineWord_setLineWord hfit hv, fun i _ hi => getLsbD_setLineWord_outside hfit hv hi⟩

end Sys2Proof.Machine

/-! Events of the data path, by the branch they take (R118, R122, R208, R210, R213, R216 to R218). -/

namespace Sys2Proof.Machine

/-- A share window ends: in Grey mode its counts lapse, else every track evaluates them (R208, R223). -/
theorem shareWindowEnd_awake {h : Hw} (ha : awake h = true) :
    shareWindowEnd h =
      let k := if grey h = true then (List.range 8).foldl lapseWindow h
        else (List.range 8).foldl (fun h t => reinput (shareWindow h t) t) h
      { k with chans := { k.chans with winStart := now k } } :=
  if_neg (by simp [ha])

/-- The transaction that is next leaves its queue and is admitted (R204, R210). -/
theorem releaseQueue_next {h : Hw} {t c k n : Nat} (ha : awake h = true) (hn : nextQueued h t c = some (k, n)) :
    releaseQueue t c h = moveReclassed (admitTxn (setCls h t k { clsSt h t k with queue := (clsSt h t k).queue.erase n }) n) t := by
  simp only [releaseQueue, ha, hn, if_true]

/-- Under the limit the oldest of the class is next (R210). -/
theorem nextQueued_of_class {h : Hw} {t c n : Nat} (hg : grey h = false) (hq : queuedOf h t c = some n) (hu : underLimit h t c = true) :
    nextQueued h t c = some (c, n) := by
  simp only [nextQueued, hg, hq, hu, Bool.false_eq_true, if_false, if_true, Option.map_some]

/-- In Grey mode the oldest of all is (R223). -/
theorem nextQueued_grey {h : Hw} (t c : Nat) (hg : grey h = true) : nextQueued h t c = firstQueued h t := if_pos hg

/-- What a grant to the winner `g` of input `i` leaves (R213, R215, R218). -/
def grantTo (h : Hw) (pc i : Nat) (g : Grant) : Hw :=
  let h := bump h 0x3430 i (chOf pc)
  match g with
  | .xfer x _ =>
    let h := dropXfer h x
    let h :=
      if isRead h x then setPc h pc { pcSt h pc with granted := some g, got := tget [] (pcSt h pc).moved x.txn, moved := tdel (pcSt h pc).moved x.txn }
      else
        let h := setPc h pc { pcSt h pc with granted := some g, got := [] }
        setCh h (chOf pc) { chSt h (chOf pc) with rmw := (chSt h (chOf pc)).rmw ++ x.lines.map (fun l => Rmw.host x.txn l.line) }
    noteWaits (reoffer h (chOf pc)) (trkOf pc)
  | _ => setPc h pc { pcSt h pc with granted := some g }

/-- An idle path that takes grants gives the winner its grant (R213). -/
theorem decideGrant_winner {h : Hw} {pc i : Nat} {g : Grant} (ht : takesGrants (noteBehind (noteMarks h pc) pc) pc = true)
    (hi : (pcSt (noteBehind (noteMarks h pc) pc) pc).granted = none) (hw : winner (noteBehind (noteMarks h pc) pc) pc = some (i, g)) :
    decideGrant pc h = grantTo (noteBehind (noteMarks h pc) pc) pc i g := by
  simp only [decideGrant, ht, hi, hw, Bool.not_true, Option.isSome_none, Bool.or_self, Bool.false_eq_true, if_false]
  rfl

/-- What waits at input 14 cuts the grant, and the path decides anew (R218). -/
theorem grantCut_waiting {h : Hw} {pc : Nat} (ht : takesGrants h pc = true) (ha : at14 h pc = true) (hg : (pcSt h pc).granted.isSome = true) :
    grantCut pc h = decideGrant pc (cutGrant h pc 1) :=
  if_pos (by simp only [ht, ha, hg, Bool.and_self])

/-- What the last line of a write transfer leaves: its transaction has fewer lines to come, or ends, and then a WRC completes (R138). -/
def afterWrite (pc : Nat) (x : Xfer) (q : Txn) (h : Hw) : Hw :=
  let left := ((txn h x.txn).getD q).left - x.lines.length
  let h :=
    if left = 0 then
      let h := endTxn h x.txn
      match q.kind with
      | .wr true => sendStatus (freeTag h q.port q.tag) q.port q.tag 0
      | _ => h
    else setTxn h x.txn { (txn h x.txn).getD q with left := left }
  noteWaits (reoffer h (chOf pc)) (trkOf pc)

/-- A write transfer whose parcel can be written becomes visible line by line (R138, R154, R216). -/
theorem writeEntry_next {pc : Nat} {c : Core} {x : Xfer} {q : Txn} (ha : awake c.hw = true) (hn : nextWrite c.hw pc = some x)
    (hq : txn c.hw x.txn = some q) (hr : (recreateFor (c.onHw (fun h => dropXfer h x)) (q.line / 1024)).2 = true) :
    writeEntry pc c =
      (x.lines.foldl (writeOne q x.age) (recreateFor (c.onHw (fun h => dropXfer h x)) (q.line / 1024)).1).onHw (afterWrite pc x q) := by
  simp only [writeEntry, ha, hn, hq, hr, if_true, Bool.not_true, Bool.false_eq_true, if_false]
  rfl

/-- A granted drain moves what is left of its four lines (R217). -/
theorem writeDrain_granted {pc i n : Nat} {c : Core} (hg : (pcSt c.hw pc).granted = some (.drain i n)) (hs : (pcSt c.hw pc).sr = false)
    (ha : (chSt c.hw (chOf pc)).alert = none) :
    writeDrain pc c =
      ((List.range (4 - n)).foldl (fun c _ => drainOldest c pc) c).onHw (fun h => noteMarks (setPc h pc { pcSt h pc with granted := none }) pc) := by
  simp only [writeDrain, hs, ha, hg, Option.isSome_none, Bool.or_self, Bool.false_eq_true, if_false]

/-- While its channel has no alert, the unit runs the oldest entry that can run, and freed places are filled (R118, R186). -/
theorem rmwAtomic_runs {ch : Nat} {c : Core} (ha : awake c.hw = true) (hd : dieOn c.hw (ch / 4) = true) (hn : (chSt c.hw ch).alert = none) :
    (if awake c.hw && dieOn c.hw (ch / 4) && (chSt c.hw ch).alert.isNone then (rmwNext ch c).onHw (fun h => reoffer h ch) else c) =
      (rmwNext ch c).onHw (fun h => reoffer h ch) :=
  if_pos (by simp only [ha, hd, hn, Option.isNone_none, Bool.and_self])

section
variable {pc : Nat} {c : Core} {x : Xfer} {q : Txn} (ha : awake c.hw = true)
include ha

/-- The granted read returns once it is complete (R122, R213). -/
theorem readResponse_granted (hg : grantedRead c.hw pc = some (x, q)) :
    readResponse pc c = answerRead (c.onHw (fun h => setPc h pc { pcSt h pc with granted := none, got := [] })) x q (pcSt c.hw pc).got := by
  simp only [readResponse, ha, hg, Bool.not_true, Bool.false_eq_true, if_false]

/-- With none, the first that needs no grant does (R121, R216). -/
theorem readResponse_free (hg : grantedRead c.hw pc = none) (hf : freeRead c.hw pc = some (x, q)) :
    readResponse pc c = answerRead (c.onHw (fun h => dropXfer h x)) x q [] := by
  simp only [readResponse, ha, hg, hf, Bool.not_true, Bool.false_eq_true, if_false]

end

/-- Settles O16: each event's function, on the state that the clause describes, takes the branch of the event. -/
theorem dataPathEventsComplete : Obligations.DataPathEventsComplete := by
  unfold Obligations.DataPathEventsComplete
  refine ⟨?_, ?_, ?_, ?_, ?_, ?_, ?_, ?_, ?_⟩
  · intro s ha
    exact exec_eq_after (c := .shareWindowEnd) rfl rfl (shareWindowEnd_awake (h := begin s.hw) ha)
  · intro s t c n hw ha hg hq hu
    exact exec_eq_after rfl hw (releaseQueue_next (h := begin s.hw) ha (nextQueued_of_class hg hq hu))
  · intro s t c k n hw ha hg hq
    exact exec_eq_after rfl hw (releaseQueue_next (h := begin s.hw) ha ((nextQueued_grey t c hg).trans hq))
  · intro s pc i g hw h ht hi hwin
    exact exec_eq_after rfl hw (decideGrant_winner ht hi hwin)
  · intro s pc hw ht ha hg
    exact exec_eq_after rfl hw (grantCut_waiting (h := begin s.hw) ht ha hg)
  · intro s pc x q hw ha hn hq r hr
    exact exec_eq_afterCore rfl hw (writeEntry_next (c := coreOf s) ha hn hq hr)
  · intro s pc i n hw hg hs ha
    exact exec_eq_afterCore rfl hw (writeDrain_granted (c := coreOf s) hg hs ha)
  · intro s pc x q hw ha
    exact ⟨fun hg => exec_eq_afterCore rfl hw (readResponse_granted (c := coreOf s) ha hg),
      fun hg hf => exec_eq_afterCore rfl hw (readResponse_free (c := coreOf s) ha hg hf)⟩
  · intro s ch hw ha hd hal
    exact exec_eq_afterCore rfl hw (rmwAtomic_runs (c := coreOf s) ha hd hal)

end Sys2Proof.Machine

/-! The stored lines from step to step (R143, R144, R153, R280, R281, R445). -/

namespace Sys2Proof.Machine

/-- A command of either frame changes the stored lines by the changes that its function records, and by nothing else. -/
theorem exec_dram {c : Instr} {s t : State} (he : exec c s = .next t) : ∃ ops : List DramOp, t.dram = runStores s.dram ops := by
  cases hw : c.wf with
  | false =>
    rcases exec_shape c s with ⟨f, hf⟩ | ⟨f, hf⟩
    · rw [hf, hw, runHw_false] at he
      cases he
    · rw [hf, hw, runCore_false] at he
      cases he
  | true =>
    rcases exec_shape c s with ⟨f, hf⟩ | ⟨f, hf⟩
    · rw [hf, hw, runHw_true] at he
      cases he
      exact ⟨[], rfl⟩
    · rw [hf, hw, runCore_true] at he
      cases he
      exact ⟨_, rfl⟩

/-- On an empty queue the clock changes no stored line; a frame that AO held changes them by what its operation records. -/
theorem step_dram_of_pending_nil {s t : State} (hp : s.pending = []) (hs : step s = .next t) :
    ∃ ops : List DramOp, t.dram = runStores s.dram ops := by
  simp only [step, hp] at hs
  split at hs
  · cases hs
    exact ⟨_, rfl⟩
  · cases hs
    exact ⟨[], rfl⟩

/-- Whatever a step runs, it changes the stored lines by a list of changes alone. -/
theorem step_dram {s t : State} (hs : step s = .next t) : ∃ ops : List DramOp, t.dram = runStores s.dram ops := by
  cases hp : s.pending with
  | nil => exact step_dram_of_pending_nil hp hs
  | cons c rest =>
    simp only [step, hp] at hs
    exact exec_dram (s := { s with pending := rest }) hs

/-- Settles O59: a step changes the stored lines by a list of changes alone (`step_dram`), and each change keeps their form. -/
theorem storedLinesKeepTheirForm : Obligations.StoredLinesKeepTheirForm := by
  intro s t hs
  obtain ⟨ops, hops⟩ := step_dram hs
  exact ⟨fun hwf => hops ▸ wf_runStores s.dram ops hwf, ops, hops⟩

/-! What a zeroed slot reads as (R153). -/

/-- Bytes stored one after another read back. -/
theorem readByte_writeBytes_inside (d : Dram) (a : Nat) (bs : List Byte) {i : Nat} (hi : i < bs.length) :
    readByte (writeBytes d a bs) (a + i) = bs[i] := by
  induction bs generalizing d a i with
  | nil => cases hi
  | cons b bs ih =>
    cases i with
    | zero => exact (readByte_writeBytes_other _ (a + 1) bs (.inl (Nat.lt_succ_self a))).trans (readByte_writeByte_same d a b)
    | succ i =>
      have hrest := ih (writeByte d a b) (a + 1) (Nat.lt_of_succ_lt_succ hi)
      rwa [Nat.add_right_comm] at hrest

/-- A key whose entries a filter drops reads as unlisted. -/
theorem tget_filter_dropped {α : Type} (d : α) (p : Nat → Bool) (t : Tbl α) {k : Nat} (hk : p k = false) :
    tget d (t.filter (fun e => p e.1)) k = d := by
  induction t with
  | nil => rfl
  | cons e r ih =>
    rw [List.filter_cons]
    split
    · rename_i hp
      have hne : e.1 ≠ k := fun he => by rw [he, hk] at hp; cases hp
      rw [tget_cons, if_neg hne, ih]
    · exact ih

/-- One whose entries it keeps reads as before. -/
theorem tget_filter_kept {α : Type} (d : α) (p : Nat → Bool) (t : Tbl α) {k : Nat} (hk : p k = true) :
    tget d (t.filter (fun e => p e.1)) k = tget d t k := by
  induction t with
  | nil => rfl
  | cons e r ih =>
    rw [List.filter_cons, tget_cons]
    split
    · rw [tget_cons, ih]
    · rename_i hp
      have hne : e.1 ≠ k := fun he => hp (he ▸ hk)
      rw [if_neg hne, ih]

/-- A byte of a range that was dropped reads as unlisted. -/
theorem tget_dropCells_inside (d : Byte) (cells : Tbl Byte) {a n k : Nat} (hlo : a ≤ k) (hhi : k < a + n) :
    tget d (dropCells cells a n) k = d :=
  tget_filter_dropped d (fun k => decide (k < a) || decide (a + n ≤ k)) cells
    (by simp only [Bool.or_eq_false_iff, decide_eq_false_iff_not]; omega)

/-- A byte outside it reads as before. -/
theorem tget_dropCells_outside (d : Byte) (cells : Tbl Byte) {a n k : Nat} (hk : k < a ∨ a + n ≤ k) :
    tget d (dropCells cells a n) k = tget d cells k :=
  tget_filter_kept d (fun k => decide (k < a) || decide (a + n ≤ k)) cells (by simpa only [Bool.or_eq_true, decide_eq_true_eq] using hk)

section
variable {d : Dram} {n count a : Nat}

/-- Where every row was zero-filled an unlisted byte reads zero. -/
theorem unlisted_of_filled (hz : d.zones.contains .all = true) : unlisted d a = 0#8 :=
  if_pos (List.any_eq_true.mpr ⟨.all, List.contains_iff_mem.mp hz, rfl⟩)

/-- There the zeroing of lines drops their listed bytes. -/
theorem run_zero_filled (hz : d.zones.contains .all = true) :
    DramOp.run d (.zero n count) = { d with cells := dropCells d.cells (72 * n) (72 * count) } :=
  if_pos hz

/-- Elsewhere it stores zeros. -/
theorem run_zero_unfilled (hz : d.zones.contains .all = false) :
    DramOp.run d (.zero n count) = writeBytes d (72 * n) (List.replicate (72 * count) 0#8) :=
  if_neg (by rw [hz]; decide)

/-- A byte of a zeroed line reads zero. -/
theorem readByte_zero_inside (hlo : 72 * n ≤ a) (hhi : a < 72 * (n + count)) : readByte (DramOp.run d (.zero n count)) a = 0#8 := by
  cases hz : d.zones.contains .all with
  | true =>
    rw [run_zero_filled hz]
    exact (tget_dropCells_inside _ d.cells hlo (by omega)).trans (unlisted_of_filled hz)
  | false =>
    obtain ⟨i, rfl⟩ := Nat.exists_eq_add_of_le hlo
    have hi : i < (List.replicate (72 * count) (0#8 : Byte)).length := by rw [List.length_replicate]; omega
    rw [run_zero_unfilled hz, readByte_writeBytes_inside d _ _ hi, List.getElem_replicate]

/-- A byte of any other line reads as before. -/
theorem readByte_zero_outside (ha : a < 72 * n ∨ 72 * (n + count) ≤ a) : readByte (DramOp.run d (.zero n count)) a = readByte d a := by
  cases hz : d.zones.contains .all with
  | true =>
    rw [run_zero_filled hz]
    exact tget_dropCells_outside _ d.cells (by omega)
  | false =>
    rw [run_zero_unfilled hz]
    exact readByte_writeBytes_other d _ _ (by rw [List.length_replicate]; omega)

end

/-- Settles O28: both clauses hold where zeroing drops listed bytes and where it stores zeros. -/
theorem zeroedSlotReadsZero : Obligations.ZeroedSlotReadsZero :=
  fun _ _ _ _ => ⟨fun hlo hhi => readByte_zero_inside hlo hhi, readByte_zero_outside⟩

end Sys2Proof.Machine

/-! Route entries and the static assignment (R145, R155, Table 5.1). -/

namespace Sys2Proof.Machine

theorem bit_le_one (b : Bool) : bit b ≤ 1 := by
  cases b <;> decide

/-- A bit reads as true or false by its digit. -/
theorem bitAt_eq_of_digit {v i : Nat} {b : Bool} (hd : v / 2 ^ i % 2 = bit b) : bitAt v i = b := by
  rw [bitAt, hd]
  cases b <;> rfl

section
variable {track slot state : Nat} (released pinned : Bool)

theorem entReleased_entryOf : entReleased (entryOf track slot state released pinned) = released :=
  bitAt_eq_of_digit (by have := bit_le_one released; have := bit_le_one pinned; unfold entryOf; omega)

theorem entPinned_entryOf : entPinned (entryOf track slot state released pinned) = pinned :=
  bitAt_eq_of_digit (by have := bit_le_one released; have := bit_le_one pinned; unfold entryOf; omega)

theorem entState_entryOf (hs : state < 4) : entState (entryOf track slot state released pinned) = state := by
  have := bit_le_one released
  have := bit_le_one pinned
  simp only [entState, field, entryOf]
  omega

theorem entSlot_entryOf (hl : slot < 2 ^ 19) (hs : state < 4) : entSlot (entryOf track slot state released pinned) = slot := by
  have := bit_le_one released
  have := bit_le_one pinned
  simp only [entSlot, field, entryOf]
  omega

theorem entTrack_entryOf (ht : track < 8) (hl : slot < 2 ^ 19) (hs : state < 4) :
    entTrack (entryOf track slot state released pinned) = track := by
  have := bit_le_one released
  have := bit_le_one pinned
  simp only [entTrack, field, entryOf]
  omega

/-- An entry fits its 32 bits (R145). -/
theorem entryOf_lt (ht : track < 8) (hl : slot < 2 ^ 19) (hs : state < 4) : entryOf track slot state released pinned < 2 ^ 32 := by
  have := bit_le_one released
  have := bit_le_one pinned
  unfold entryOf
  omega

end

/-- Settles O25: each field of Table 5.1 is a run of digits of its own. -/
theorem routeEntryFields : Obligations.RouteEntryFields :=
  fun _ _ _ released pinned ht hl hs =>
    ⟨entTrack_entryOf released pinned ht hl hs, entSlot_entryOf released pinned hl hs, entState_entryOf released pinned hs,
      entReleased_entryOf released pinned, entPinned_entryOf released pinned, entryOf_lt released pinned ht hl hs⟩

/-- The slot that the eight parcels of group `j` take, by the formula of R155; it is also the group that fills slot `j`. -/
def groupSlot (j : Nat) : Nat := 16 * (j / 16) + ((j % 16) ^^^ (j / 16 % 16))

theorem groupSlot_div (j : Nat) : groupSlot j / 16 = j / 16 := by
  have hx : (j % 16) ^^^ (j / 16 % 16) < 2 ^ 4 := Nat.xor_lt_two_pow (Nat.mod_lt _ (by decide)) (Nat.mod_lt _ (by decide))
  unfold groupSlot
  omega

theorem groupSlot_mod (j : Nat) : groupSlot j % 16 = (j % 16) ^^^ (j / 16 % 16) := by
  have hx : (j % 16) ^^^ (j / 16 % 16) < 2 ^ 4 := Nat.xor_lt_two_pow (Nat.mod_lt _ (by decide)) (Nat.mod_lt _ (by decide))
  unfold groupSlot
  omega

/-- The formula is its own inverse, as the exclusive or with the same number twice changes nothing. -/
theorem groupSlot_groupSlot (j : Nat) : groupSlot (groupSlot j) = j := by
  rw [groupSlot, groupSlot_div, groupSlot_mod, Nat.xor_xor_cancel_right, Nat.div_add_mod]

/-- It keeps to the slots that the static assignment fills. -/
theorem groupSlot_lt {j : Nat} (hj : j < 262144) : groupSlot j < 262144 := by
  have := groupSlot_div j
  omega

/-- A track number turned by the low bits of a group is one of eight. -/
theorem xor_mod_eight_lt {i : Nat} (j : Nat) (hi : i < 8) : i ^^^ (j % 8) < 8 :=
  Nat.xor_lt_two_pow (n := 3) hi (Nat.mod_lt _ (by decide))

theorem staticEntry_eq (p : Nat) : staticEntry p = entryOf ((p % 8) ^^^ (p / 8 % 8)) (groupSlot (p / 8)) 0 false false := rfl

/-- The model's inverse of the assignment, by the formula. -/
theorem staticParcel_eq (track slot : Nat) : staticParcel track slot = 8 * groupSlot slot + (track ^^^ (groupSlot slot % 8)) := rfl

theorem staticSlot_lt {p : Nat} (hp : p < parcels) : groupSlot (p / 8) < 262144 :=
  groupSlot_lt (by unfold parcels at hp; omega)

theorem entTrack_staticEntry {p : Nat} (hp : p < parcels) : entTrack (staticEntry p) = (p % 8) ^^^ (p / 8 % 8) :=
  entTrack_entryOf false false (xor_mod_eight_lt _ (Nat.mod_lt _ (by decide))) (Nat.lt_trans (staticSlot_lt hp) (by decide)) (by decide)

theorem entSlot_staticEntry {p : Nat} (hp : p < parcels) : entSlot (staticEntry p) = groupSlot (p / 8) :=
  entSlot_entryOf false false (Nat.lt_trans (staticSlot_lt hp) (by decide)) (by decide)

theorem staticParcel_mod {track : Nat} (slot : Nat) (ht : track < 8) : staticParcel track slot % 8 = track ^^^ (groupSlot slot % 8) := by
  have := xor_mod_eight_lt (groupSlot slot) ht
  rw [staticParcel_eq]
  omega

theorem staticParcel_div {track : Nat} (slot : Nat) (ht : track < 8) : staticParcel track slot / 8 = groupSlot slot := by
  have := xor_mod_eight_lt (groupSlot slot) ht
  rw [staticParcel_eq]
  omega

theorem staticParcel_lt {track slot : Nat} (ht : track < 8) (hs : slot < 262144) : staticParcel track slot < parcels := by
  have := xor_mod_eight_lt (groupSlot slot) ht
  have := groupSlot_lt hs
  rw [staticParcel_eq, parcels]
  omega

/-- The parcel that the assignment puts in a slot is assigned its track. -/
theorem entTrack_staticParcel {track slot : Nat} (ht : track < 8) (hs : slot < 262144) : entTrack (staticEntry (staticParcel track slot)) = track := by
  rw [entTrack_staticEntry (staticParcel_lt ht hs), staticParcel_mod slot ht, staticParcel_div slot ht, Nat.xor_xor_cancel_right]

/-- It is assigned that slot. -/
theorem entSlot_staticParcel {track slot : Nat} (ht : track < 8) (hs : slot < 262144) : entSlot (staticEntry (staticParcel track slot)) = slot := by
  rw [entSlot_staticEntry (staticParcel_lt ht hs), staticParcel_div slot ht, groupSlot_groupSlot]

/-- A parcel is the one that fills the slot it is assigned. -/
theorem staticParcel_of_staticEntry {p : Nat} (hp : p < parcels) : staticParcel (entTrack (staticEntry p)) (entSlot (staticEntry p)) = p := by
  rw [staticParcel_eq, entTrack_staticEntry hp, entSlot_staticEntry hp, groupSlot_groupSlot, Nat.xor_xor_cancel_right, Nat.div_add_mod]

/-- Settles O26: `staticParcel` is the inverse of the assignment, so every slot below 262,144 has one parcel. -/
theorem staticAssignmentFillsEveryTrack : Obligations.StaticAssignmentFillsEveryTrack := by
  refine ⟨fun p hp => ?_, fun j hj i hi k hk => ?_, fun track ht slot hs => ?_⟩
  · exact ⟨entTrack_staticEntry hp, entSlot_staticEntry hp, entState_entryOf false false (by decide), entReleased_entryOf false false,
      entPinned_entryOf false false⟩
  · have hin : ∀ i < 8, 8 * j + i < parcels ∧ (8 * j + i) / 8 = j ∧ (8 * j + i) % 8 = i := fun i hi => by unfold parcels; omega
    obtain ⟨hip, hidiv, himod⟩ := hin i hi
    obtain ⟨hkp, hkdiv, hkmod⟩ := hin k hk
    refine ⟨by rw [entSlot_staticEntry hip, entSlot_staticEntry hkp, hidiv, hkdiv], fun ht => ?_⟩
    rw [entTrack_staticEntry hip, entTrack_staticEntry hkp, hidiv, hkdiv, himod, hkmod] at ht
    exact Nat.xor_left_inj.mp ht
  · refine ⟨staticParcel track slot, staticParcel_lt ht hs, entTrack_staticParcel ht hs, entSlot_staticParcel ht hs, fun q hq hqt hqs => ?_⟩
    rw [← hqt, ← hqs, staticParcel_of_staticEntry hq]

/-! Where the lines of a slot lie (R143, R144). -/

section
variable {track slot o : Nat}

theorem physLine_div (ho : o < 1024) : physLine track slot o / 1024 = track * slotsPerTrack + slot := by
  unfold physLine
  omega

theorem physLine_mod (ho : o < 1024) : physLine track slot o % 1024 = o := by
  unfold physLine
  omega

theorem pTrack_physLine (hs : slot < slotsPerTrack) (ho : o < 1024) : pTrack (physLine track slot o) = track := by
  unfold slotsPerTrack at hs
  rw [pTrack, physLine_div ho, slotsPerTrack]
  omega

theorem pSlot_physLine (hs : slot < slotsPerTrack) (ho : o < 1024) : pSlot (physLine track slot o) = slot := by
  unfold slotsPerTrack at hs
  rw [pSlot, physLine_div ho, slotsPerTrack]
  omega

/-- The pseudo-channel of a line: that of its granule (R144). -/
theorem pPc_physLine (hs : slot < slotsPerTrack) (ho : o < 1024) : pPc (physLine track slot o) = 16 * track + o / 4 % 16 := by
  rw [pPc, pTrack_physLine hs ho, physLine_mod ho]

theorem pBank_physLine (hs : slot < slotsPerTrack) (ho : o < 1024) : pBank (physLine track slot o) = slot % 16 := by
  rw [pBank, pSlot_physLine hs ho]

theorem pRow_physLine (hs : slot < slotsPerTrack) (ho : o < 1024) : pRow (physLine track slot o) = 4 * (slot / 16) + o / 256 := by
  rw [pRow, pSlot_physLine hs ho, physLine_mod ho]

theorem pCol_physLine (ho : o < 1024) : pCol (physLine track slot o) = 4 * (o / 64 % 4) + o % 4 := by
  have hlow : physLine track slot o % 4 = o % 4 := by unfold physLine; omega
  rw [pCol, physLine_mod ho, hlow]

end

/-- A line's track, slot and place in the slot name it. -/
theorem physLine_pTrack_pSlot (n : Nat) : physLine (pTrack n) (pSlot n) (n % 1024) = n := by
  rw [physLine, pTrack, pSlot, Nat.div_add_mod', Nat.div_add_mod']

/-- So do its coordinates. -/
theorem lineAt_coordinates (n : Nat) : lineAt (pPc n) (pBank n) (pRow n) (pCol n) = n := by
  have htrack : pPc n / 16 = pTrack n := by unfold pPc; omega
  have hslot : 16 * (pRow n / 4) + pBank n = pSlot n := by unfold pRow pBank; omega
  have hline : 4 * (pRow n % 4 * 64 + pCol n / 4 * 16 + pPc n % 16) + pCol n % 4 = n % 1024 := by unfold pRow pCol pPc; omega
  rw [lineAt, htrack, hslot, hline, physLine_pTrack_pSlot]

/-- Settles O27: the coordinates of a slot's line by the lemmas above; a line's track, slot and place are read back from its number. -/
theorem slotGeometry : Obligations.SlotGeometry := by
  refine ⟨fun track slot o _ hs ho => ?_, fun t s o t' s' o' hs hs' ho ho' he => ?_, lineAt_coordinates, fun _ _ => rfl⟩
  · have hslots : slot < 266240 := hs
    simp only [pPc_physLine hs ho, pBank_physLine hs ho, pRow_physLine hs ho, pCol_physLine ho, chOf, true_and]
    refine ⟨?_, ?_, ?_, ?_, ?_, ?_⟩ <;> omega
  · have htrack := congrArg pTrack he
    have hslot := congrArg pSlot he
    have hline := congrArg (· % 1024) he
    rw [pTrack_physLine hs ho, pTrack_physLine hs' ho'] at htrack
    rw [pSlot_physLine hs ho, pSlot_physLine hs' ho'] at hslot
    exact ⟨htrack, hslot, (physLine_mod ho).symm.trans (hline.trans (physLine_mod ho'))⟩

end Sys2Proof.Machine

/-! Events of placement, by the branch they take (R149 to R151, R153 to R157, R159 to R161, R165, R166). -/

namespace Sys2Proof.Machine

/-- The oldest record is brought into the image (R149). -/
theorem applyOldest_cons {h : Hw} {r : JournalRec} {rs : List JournalRec} (hj : h.place.journal = r :: rs) :
    applyOldest h = setObj (setPlace h { h.place with image := applyRec h.place.image r, journal := rs }) 0x4080 4 0 rs.length := by
  simp only [applyOldest, hj]

/-- The lowest FREE_DIRTY slot of a track whose reserve is not full becomes zero (R153). -/
theorem zeroSlot_dirty {t slot : Nat} {c : Core} (hp : placing c.hw = true) (ht : trackOn c.hw t = true) (hk : trackParked c.hw t = false)
    (hz : zeroedSlots c.hw t < obj c.hw 0x4030 1) (hl : lowestSlot c.hw t .freeDirty none = some slot) :
    zeroSlot t c =
      ((c.onHw (fun h => dropSlotWrites h t slot)).store (.zero (physLine t slot 0) 1024)).onHw (fun h =>
        inputZero (setSlot (sweepSlot 3 [] h t slot) t slot .freeZeroed) t) := by
  simp only [zeroSlot, hp, ht, hk, hz, hl, Bool.not_false, Bool.and_self, decide_true, Bool.not_true, Bool.false_eq_true, if_false]

/-- What the beginning of a command clears has no part in the search for a slot. -/
theorem firstUnlisted_begin (h : Hw) (t : Nat) (col : Option Nat) (fuel slot : Nat) :
    firstUnlisted (begin h) t col fuel slot = firstUnlisted h t col fuel slot := by
  induction fuel generalizing slot with
  | zero => rfl
  | succ fuel ih => simp only [firstUnlisted, ih, begin_place]

theorem lowestSlot_begin (h : Hw) (t : Nat) (st : SlotState) (col : Option Nat) : lowestSlot (begin h) t st col = lowestSlot h t st col := by
  simp only [lowestSlot, firstUnlisted_begin]
  rfl

/-- The access that has waited longest for a zeroed slot resumes (R154). -/
theorem resumeParcel_cons {p : Nat} {ps : List Nat} {c : Core} (ha : awake c.hw = true) (hw : c.hw.place.waits = p :: ps) :
    resumeParcel c = (recreateFor c p).1 := by
  simp only [resumeParcel, hw, ha, if_true]

/-- Warm-up ends once its time has passed, enough lines were accessed and no listed retirement is under way (R156). -/
theorem warmUpEnd_ends {h : Hw} (hp : placing h = true) (ho : obj h 0x4000 1 = 0) (hr : h.boot.readyAt + ms (obj h 0x4000 2) ≤ now h)
    (hl : obj h 0x4000 3 ≤ obj h 0x4000 4) (hq : ∀ r ∈ h.place.queue, r.prio ≠ 0) (hm : ∀ m ∈ h.place.moves, m.prio ≠ 0) :
    warmUpEnd h = setObj h 0x4000 1 0 1 := by
  have hqueue : h.place.queue.any (fun r => r.prio == 0) = false := List.any_eq_false.mpr fun r hin => by simpa only [beq_iff_eq] using hq r hin
  have hmoves : h.place.moves.any (fun m => m.prio == 0) = false := List.any_eq_false.mpr fun m hin => by simpa only [beq_iff_eq] using hm m hin
  simp only [warmUpEnd, hp, ho, hr, hl, hqueue, hmoves, beq_self_eq_true, decide_true, Bool.or_self, Bool.not_false, Bool.and_self, if_true]

/-- Phase 0: `h₁` is the state without the requests that have lost their purpose, `h₂` the one in which those that find no slot in their
own track wait. While fewer moves run than may, the first request that can be served starts its move (R159, R164). -/
theorem startMove_first {h h₁ h₂ : Hw} {r : MoveReq} {t slot : Nat} (hmoot : (h.place.queue.filter (moot h)).foldl dropMoot h = h₁)
    (hw : h₁.place.waitsEpoch = false) (hl : h₁.place.moves.length < obj h₁ 0x4010 2)
    (hdefer : setPlace h₁ { h₁.place with queue := h₁.place.queue.map (deferMove h₁) } = h₂)
    (hr : firstReq h₂ = some r) (hd : destination h₂ r = some (t, slot)) :
    startMove h =
      let e := (lookup h₂ r.parcel).2
      let h := (lookup h₂ r.parcel).1
      let h := setPlace h { h.place with queue := h.place.queue.filter (fun q => q != r) }
      let h := putRoute h r.parcel (entryOf (entTrack e) (entSlot e) 1 false (entPinned e))
      let h := setSlot (dropSlotWrites h t slot) t slot .inUse
      setMoves h (h.place.moves ++ [{ parcel := r.parcel, srcTrack := entTrack e, srcSlot := entSlot e, dstTrack := t, dstSlot := slot, prio := r.prio, lastProgress := now h, retire := r.retire.isSome }]) := by
  have hroom : (h₁.place.waitsEpoch || decide (obj h₁ 0x4010 2 ≤ h₁.place.moves.length)) = false := by
    rw [hw, decide_eq_false (Nat.not_le.mpr hl), Bool.or_self]
  simp only at hdefer
  simp only [startMove, hmoot, hroom, Bool.false_eq_true, if_false, hdefer, hr, hd]

section
variable {parcel : Nat} {replayed : Bool} {m : Move} {c : Core}
variable (hm : moveOf c.hw parcel = some m)
include hm

section
variable (hsrc : trackOn c.hw m.srcTrack = true) (hdst : trackOn c.hw m.dstTrack = true)
include hsrc hdst

/-- Phase 1 copies every line, or rolls the move back when a write of its own fails (R159, R162). -/
theorem copyAll_running (hc : m.copied = false) :
    copyAll parcel replayed c =
      if copyFails c.hw m replayed (List.range 1024) then c.onHw (fun h => rollBack true h m)
      else
        let src := physLine m.srcTrack m.srcSlot 0
        let queued := (((span (16 * m.srcTrack) 16).map (fun p => (pcSt c.hw p).wq.map WqEntry.phys)).flatten).filter (fun n => n / 1024 == src / 1024)
        let held := ((listedLines c.dram src 1024) ++ queued).map (· % 1024)
        let todo := if c.dram.zones.contains .all then (List.range 1024).filter held.contains else List.range 1024
        let c := (c.onHw (fun h =>
          sweepSlot 3 todo (sweepSlot 2 todo (dropSlotWrites h m.dstTrack m.dstSlot) m.srcTrack m.srcSlot) m.dstTrack m.dstSlot)).store
            (.zero (physLine m.dstTrack m.dstSlot 0) 1024)
        (todo.foldl (copyLine m) c).onHw (fun h => match moveOf h parcel with
          | some k => countMoved k 1024 (setMove h { k with copied := true, lastProgress := now h })
          | none => h) := by
  simp only [copyAll, hm, hc, hsrc, hdst, Bool.not_true, Bool.or_self, Bool.false_eq_true, if_false] <;> rfl

/-- Phase 2 copies the dirty lines again, or rolls the move back (R159, R162). -/
theorem recopy_running (hc : m.copied = true) (hn : recopied c.hw m = false) :
    recopy parcel replayed c =
      if copyFails c.hw m replayed (dirtyLines m) then c.onHw (fun h => rollBack true h m)
      else ((dirtyLines m).foldl (copyLine m) c).onHw (fun h => match moveOf h parcel with
        | some k => countMoved k (dirtyLines m).length (setMove h { k with dirty := 0, passes := k.passes + 1, lastProgress := now h })
        | none => h) := by
  simp only [recopy, hm, hc, hn, hsrc, hdst, Bool.not_true, Bool.or_self, Bool.false_eq_true, if_false] <;> rfl

/-- Phase 3 begins once few dirty lines are left and no engine holds a lock in the parcel (R159, R161). -/
theorem swap_unlocked (hc : m.copied = true) (hr : recopied c.hw m = true)
    (hl : ∀ e < 32, ∀ k ∈ (engine c.hw e).locks, k % 2 ^ 31 / 1024 ≠ parcel) :
    swap parcel replayed c = moveSwitch parcel replayed (finishIssued m c) := by
  have hlocked : (List.range 32).any (fun e => (engine c.hw e).locks.any (fun k => k % 2 ^ 31 / 1024 == parcel)) = false := by
    simpa only [List.any_eq_false, List.mem_range, List.any_eq_true, beq_iff_eq, not_exists, not_and] using hl
  simp only [swap, hm, hc, hr, hlocked, hsrc, hdst, Bool.not_true, Bool.or_self, Bool.false_eq_true, if_false]

end

/-- While an access that has issued cannot complete the move waits (R159). -/
theorem moveSwitch_waits (hu : unitLines c.hw m.srcTrack parcel ≠ []) : moveSwitch parcel replayed c = c := by
  simp only [moveSwitch, hm, List.isEmpty_eq_false_iff.mpr hu, Bool.not_false, if_true]

/-- Otherwise the remaining dirty lines are copied and the parcel switches over, or the move is rolled back (R159, R161, R162). -/
theorem moveSwitch_issued (hu : unitLines c.hw m.srcTrack parcel = []) :
    moveSwitch parcel replayed c =
      if copyFails c.hw m replayed (dirtyLines m) then c.onHw (fun h => rollBack true h m)
      else ((dirtyLines m).foldl (copyLine m) c).onHw (fun h => match moveOf h parcel with
        | some k => countMoved k (dirtyLines m).length (finishMove k h)
        | none => h) := by
  simp only [moveSwitch, hm, hu, List.isEmpty_nil, Bool.not_true, Bool.false_eq_true, if_false] <;> rfl

end

/-- A move without progress is abandoned, but for one of a die in RESET (R160). -/
theorem moveTimeout_abandons {parcel : Nat} {m : Move} {h : Hw} (hm : moveOf h parcel = some m)
    (hd : ∀ d ∈ [2 * m.srcTrack, 2 * m.srcTrack + 1, 2 * m.dstTrack, 2 * m.dstTrack + 1], dieState h d ≠ 1) :
    moveTimeout parcel h = rollBack false h m := by
  have hreset : [2 * m.srcTrack, 2 * m.srcTrack + 1, 2 * m.dstTrack, 2 * m.dstTrack + 1].any (fun d => dieState h d == 1) = false :=
    List.any_eq_false.mpr fun d hin => by simpa only [beq_iff_eq] using hd d hin
  simp only [moveTimeout, hm, hreset, Bool.false_eq_true, if_false]

/-- A compacted track without parcels, resets and moves is gated (R19, R165). -/
theorem gateTrack_empty {t : Nat} {c : Core} (hp : placing c.hw = true) (hc : compacts c.hw t = true) (hn : obj c.hw 0x4011 3 t = 0)
    (ht : trackOn c.hw t = true) (hlow : resetPending c.hw (2 * t) = false) (hhigh : resetPending c.hw (2 * t + 1) = false)
    (hm : ∀ m ∈ c.hw.place.moves, m.dstTrack ≠ t ∧ m.srcTrack ≠ t) :
    gateTrack t c =
      ((c.onHw (fun h => (span 0 16).foldl (fun h p => setPc h (16 * t + p) { pcSt h (16 * t + p) with wq := [], rows := [], granted := none, got := [] }) h)).store
        (.zero (physLine t 0 0) (slotsPerTrack * 1024))).onHw (fun h =>
          let h := (span (8 * t) 8).foldl (fun h k => setCh (dropCorrections h k) k { chSt (dropCorrections h k) k with retry := [], canary := false }) h
          let h := [2 * t, 2 * t + 1].foldl (fun h d => setDomain (setDieState h d 3) (arrDomain d) 2) h
          let h := setDomain h (dctDomain t) 2
          setObj (setObj (setObj h 0x4011 1 t 0) 0x4011 2 t 0) 0x4011 5 t 1) := by
  have hmoves : c.hw.place.moves.any (fun m => m.dstTrack == t || m.srcTrack == t) = false :=
    List.any_eq_false.mpr fun m hin => by simpa only [Bool.or_eq_true, beq_iff_eq, not_or] using hm m hin
  simp only [gateTrack, hp, hc, hn, ht, hlow, hhigh, hmoves, beq_self_eq_true, Bool.not_false, Bool.and_self, Bool.not_true, Bool.false_eq_true, if_false]
  rfl

/-- A parked track that is called back has its arrays powered and zero-filled (R166). -/
theorem unparkTrack_called {t : Nat} {c : Core} (hp : placing c.hw = true) (hk : trackParked c.hw t = true)
    (hc : (((List.range 8).filter (fun k => !trackParked c.hw k)).map (zeroedSlots c.hw)).sum < obj c.hw 0x4030 3 ∨ flag c.hw 0x4011 6 t = false ∨
      unparkingCalled c.hw = true)
    (hu : c.hw.place.unparking.contains t = false) (hd : ∀ d, c.hw.test.testDie = some d → d / 2 ≠ t) :
    unparkTrack t c =
      ((c.store (.fill (.die (2 * t)))).store (.fill (.die (2 * t + 1)))).onHw (fun h =>
        let h := [2 * t, 2 * t + 1].foldl (fun h d => setDomain h (arrDomain d) 0) h
        let h := setDomain h (dctDomain t) 0
        setPlace h { h.place with unparking := h.place.unparking ++ [t] }) := by
  have hcalled : (decide ((((List.range 8).filter (fun k => !trackParked c.hw k)).map (zeroedSlots c.hw)).sum < obj c.hw 0x4030 3) ||
      !flag c.hw 0x4011 6 t || unparkingCalled c.hw) = true := by
    simpa only [Bool.or_eq_true, decide_eq_true_eq, Bool.not_eq_true', or_assoc] using hc
  have hdie : c.hw.test.testDie.all (fun d => d / 2 != t) = true := by
    simpa only [Option.all_eq_true, bne_iff_ne] using hd
  simp only [unparkTrack, hp, hk, hcalled, hu, hdie, Bool.not_false, Bool.and_self, if_true]

/-- Work on the rest of the stack alone leaves the stored lines. -/
theorem afterCore_onHw (s : State) (f : Hw → Hw) : afterCore s ((coreOf s).onHw f) = after s (f (begin s.hw)) := rfl

/-- Settles O24: each event's function, on the state that the clause describes, takes the branch of the event. -/
theorem placementEventsComplete : Obligations.PlacementEventsComplete := by
  unfold Obligations.PlacementEventsComplete
  refine ⟨?_, ?_, ?_, ?_, ?_, ?_, ?_, ?_, ?_, ?_, ?_, ?_, ?_, ?_⟩
  · intro s r rs ha hj
    exact exec_eq_after (c := .journalRecordApply) rfl rfl ((if_pos ha).trans (applyOldest_cons (h := begin s.hw) hj))
  · intro s ha ho
    exact exec_eq_after (c := .routeTableRebuildComplete) rfl rfl (if_pos (by simp [ha, ho]))
  · intro s t slot hw hp ht hk hz hl
    exact exec_eq_afterCore rfl hw (zeroSlot_dirty (c := coreOf s) hp ht hk hz ((lowestSlot_begin s.hw t .freeDirty none).trans hl))
  · intro s p ps ha hw
    exact exec_eq_afterCore (c := .parcelRecreateResume) rfl rfl (resumeParcel_cons (c := coreOf s) ha hw)
  · intro s hp ho hr hl hq hm
    exact exec_eq_after (c := .warmUpEnd) rfl rfl (warmUpEnd_ends (h := begin s.hw) hp ho hr hl hq hm)
  · intro s hp
    exact exec_eq_after (c := .heatEpoch) rfl rfl (if_pos hp)
  · intro s r t slot hp hg h hwait hlen h' hr hd
    have hnow : (placing s.hw && !grey s.hw) = true := by
      rw [hp, hg]
      rfl
    exact exec_eq_after (c := .moveStart) rfl rfl ((if_pos hnow).trans (startMove_first (h := begin s.hw) (h₁ := h) (h₂ := h') rfl hwait hlen rfl hr hd))
  · intro s parcel m replayed hw ha hm hc hsrc hdst
    have hrun := copyAll_running (replayed := replayed) (c := coreOf s) hm hsrc hdst hc
    exact ⟨fun hf => (exec_eq_afterCore rfl hw ((if_pos ha).trans (hrun.trans (if_pos hf)))).trans
        (congrArg _ (afterCore_onHw s (fun h => rollBack true h m))),
      fun hf => exec_eq_afterCore rfl hw ((if_pos ha).trans (hrun.trans (if_neg (Bool.eq_false_iff.mp hf))))⟩
  · intro s parcel m replayed hw ha hm hc hn hsrc hdst
    have hrun := recopy_running (replayed := replayed) (c := coreOf s) hm hsrc hdst hc hn
    exact ⟨fun hf => (exec_eq_afterCore rfl hw ((if_pos ha).trans (hrun.trans (if_pos hf)))).trans
        (congrArg _ (afterCore_onHw s (fun h => rollBack true h m))),
      fun hf => exec_eq_afterCore rfl hw ((if_pos ha).trans (hrun.trans (if_neg (Bool.eq_false_iff.mp hf))))⟩
  · intro s parcel m replayed hw ha hm hc hr hsrc hdst hl c m' hm'
    have hswap := swap_unlocked (replayed := replayed) (c := coreOf s) hm hsrc hdst hc hr hl
    exact ⟨fun hu => exec_eq_afterCore rfl hw ((if_pos ha).trans (hswap.trans (moveSwitch_waits hm' hu))),
      fun hu hf => exec_eq_afterCore rfl hw ((if_pos ha).trans (hswap.trans ((moveSwitch_issued hm' hu).trans (if_pos hf)))),
      fun hu hf => exec_eq_afterCore rfl hw ((if_pos ha).trans (hswap.trans ((moveSwitch_issued hm' hu).trans (if_neg (Bool.eq_false_iff.mp hf)))))⟩
  · intro s parcel m hw ha hm hd
    exact exec_eq_after rfl hw ((if_pos ha).trans (moveTimeout_abandons (h := begin s.hw) hm hd))
  · intro s t hw hp hc hn ht hlow hhigh hm
    exact exec_eq_afterCore rfl hw (gateTrack_empty (c := coreOf s) hp hc hn ht hlow hhigh hm)
  · intro s t hw hp hk hc hu hd
    exact exec_eq_afterCore rfl hw (unparkTrack_called (c := coreOf s) hp hk hc hu hd)
  · intro s t hw ha hu
    exact exec_eq_after rfl hw (if_neg (by simp [ha, List.contains_iff_mem.mp hu]))

end Sys2Proof.Machine

/-! An issued die command: sequence number, retry buffer and alert (R170, R185, R186). -/

namespace Sys2Proof.Machine

@[simp] theorem chSt_setCh_same (h : Hw) (n : Nat) (v : Chan) : chSt (setCh h n v) n = v := tget_tput_same _ v _ n

/-- The die finds bad parity: the command has it, or an armed injection gives it. -/
def parityFails (c : Core) (cmd : DieCmd) (bad : Bool) : Bool := bad || c.hw.inject.parity == some (chOf (cmdPc cmd))

/-- An armed injection hits the CRC of a write burst. -/
def injectsCrc (c : Core) (cmd : DieCmd) : Bool :=
  match cmd with
  | .wr .. => c.hw.inject.write == some (chOf (cmdPc cmd))
  | _ => false

/-- The die finds a bad write CRC: an armed injection gives it, or the TSVs do. -/
def crcFails (c : Core) (cmd : DieCmd) (noise : Nat) : Bool :=
  match cmd with
  | .wr _ _ _ _ e => c.hw.inject.write == some (chOf (cmdPc cmd)) || burstFails e noise
  | _ => false

/-- The channel once a command is issued: it has the next number and is buffered, and with bad parity or CRC it begins an alert unless one stands. -/
def issuedChan (k : Chan) (cmd : DieCmd) (parity crc : Bool) : Chan :=
  { k with
    seq := (k.seq + 1) % 16, retry := k.retry ++ [(k.seq, cmd)]
    alert := if k.alert.isSome then k.alert else if parity || crc then some (k.seq, !parity) else none
    fails := if k.alert.isNone && (parity || crc) then 1 else k.fails }

/-- The channel then has an alert exactly if one stood or this command begins one. -/
theorem issuedChan_alert_isSome (k : Chan) (cmd : DieCmd) (parity crc : Bool) :
    (issuedChan k cmd parity crc).alert.isSome = (k.alert.isSome || parity || crc) := by
  cases ha : k.alert with
  | none => cases parity <;> cases crc <;> simp [issuedChan, ha]
  | some a => simp [issuedChan, ha]

/-- The injections that have hit are armed no more. -/
def disarm (parity write : Bool) (h : Hw) : Hw :=
  let h := if parity then { h with inject := { h.inject with parity := none }, react := { h.react with injected := h.react.injected + 1 } } else h
  if write then { h with inject := { h.inject with write := none }, react := { h.react with injected := h.react.injected + 1 } } else h

@[simp] theorem disarm_chans (parity write : Bool) (h : Hw) : (disarm parity write h).chans = h.chans := by
  cases parity <;> cases write <;> rfl

/-- The state with an issued command in its retry buffer, before the die acts on it. -/
def buffered (c : Core) (cmd : DieCmd) (bad : Bool) (noise : Nat) : Core :=
  c.onHw (fun h => disarm (c.hw.inject.parity == some (chOf (cmdPc cmd))) (injectsCrc c cmd)
    (setCh h (chOf (cmdPc cmd)) (issuedChan (chSt c.hw (chOf (cmdPc cmd))) cmd (parityFails c cmd bad) (crcFails c cmd noise))))

section
variable {c : Core} {cmd : DieCmd} {bad : Bool} {noise : Nat}

/-- A command is buffered, and the die carries it out unless the channel then has an alert. -/
theorem issue_eq (c : Core) (cmd : DieCmd) (bad : Bool) (noise : Nat) :
    issue c cmd bad noise =
      if (issuedChan (chSt c.hw (chOf (cmdPc cmd))) cmd (parityFails c cmd bad) (crcFails c cmd noise)).alert.isSome then buffered c cmd bad noise
      else dieEffect noise (buffered c cmd bad noise) cmd := by
  cases cmd <;> rfl

@[simp] theorem chSt_buffered :
    chSt (buffered c cmd bad noise).hw (chOf (cmdPc cmd)) =
      issuedChan (chSt c.hw (chOf (cmdPc cmd))) cmd (parityFails c cmd bad) (crcFails c cmd noise) := by
  have hc : ∀ p w h, chSt (disarm p w h) (chOf (cmdPc cmd)) = chSt h (chOf (cmdPc cmd)) := fun p w h => by rw [chSt, disarm_chans, chSt]
  exact (hc _ _ _).trans (chSt_setCh_same ..)

/-- To buffer a command touches no stored line and no pseudo-channel. -/
theorem buffered_frame :
    (buffered c cmd bad noise).dram = c.dram ∧ (buffered c cmd bad noise).stores = c.stores ∧
      (buffered c cmd bad noise).hw.chans.pcs = c.hw.chans.pcs :=
  ⟨rfl, rfl, (congrArg Chans.pcs (disarm_chans _ _ _) :)⟩

/-- A good write CRC is in particular none that an injection spoils. -/
theorem injectsCrc_of_crc_good (hc : crcFails c cmd noise = false) : injectsCrc c cmd = false := by
  cases cmd with
  | wr pc bank col close e => exact (Bool.or_eq_false_iff.mp hc).1
  | _ => rfl

/-- With no alert, good parity and a good CRC, the channel takes the number and the command, and no more. -/
theorem buffered_good (ha : (chSt c.hw (chOf (cmdPc cmd))).alert = none) (hp : parityFails c cmd bad = false) (hc : crcFails c cmd noise = false) :
    buffered c cmd bad noise = c.onHw (fun h => setCh h (chOf (cmdPc cmd))
      { chSt c.hw (chOf (cmdPc cmd)) with
        seq := ((chSt c.hw (chOf (cmdPc cmd))).seq + 1) % 16
        retry := (chSt c.hw (chOf (cmdPc cmd))).retry ++ [((chSt c.hw (chOf (cmdPc cmd))).seq, cmd)] }) := by
  have hinj : (c.hw.inject.parity == some (chOf (cmdPc cmd))) = false := (Bool.or_eq_false_iff.mp hp).2
  simp [buffered, issuedChan, disarm, hinj, injectsCrc_of_crc_good hc, ha, hp, hc]

/-- Then the die carries it out. -/
theorem issue_good (ha : (chSt c.hw (chOf (cmdPc cmd))).alert = none) (hp : parityFails c cmd bad = false) (hc : crcFails c cmd noise = false) :
    issue c cmd bad noise = dieEffect noise (buffered c cmd bad noise) cmd := by
  rw [issue_eq, if_neg (by rw [issuedChan_alert_isSome, ha, hp, hc]; decide)]

/-- Under an alert, with bad parity or with a bad CRC the die does nothing with it (R185, R186). -/
theorem issue_ignored (hb : (chSt c.hw (chOf (cmdPc cmd))).alert.isSome = true ∨ parityFails c cmd bad = true ∨ crcFails c cmd noise = true) :
    issue c cmd bad noise = buffered c cmd bad noise := by
  rw [issue_eq, if_pos]
  simpa only [issuedChan_alert_isSome, Bool.or_eq_true, or_assoc] using hb

end

/-- Settles O20: the command is buffered; the die carries it out when the channel then has no alert, and otherwise leaves lines and rows alone. -/
theorem issueAndAlert : Obligations.IssueAndAlert := by
  unfold Obligations.IssueAndAlert
  intro c cmd bad noise ch k parity crc t
  have hignored (hb : k.alert.isSome = true ∨ parity = true ∨ crc = true) : t = buffered c cmd bad noise := issue_ignored hb
  have hchan : chSt (buffered c cmd bad noise).hw ch = issuedChan k cmd parity crc := chSt_buffered
  refine ⟨fun ha hp hc => ?_, fun ha hb => ?_, fun ha => ?_, fun hb => ?_⟩
  · exact (issue_good ha hp hc).trans (congrArg (dieEffect noise · cmd) (buffered_good ha hp hc))
  · have hbad : (parity || crc) = true := Bool.or_eq_true_iff.mpr hb
    rw [hignored (.inr hb), hchan]
    exact ⟨by simp [issuedChan, ha, hbad], by simp [issuedChan, ha, hbad], buffered_frame⟩
  · rw [hignored (.inl ha), hchan]
    exact ⟨by simp [issuedChan, ha], buffered_frame⟩
  · rw [hignored hb, hchan]
    exact ⟨rfl, rfl⟩

end Sys2Proof.Machine

/-! The die commands that the controller may issue (R171, R172, R186). -/

namespace Sys2Proof.Machine

/-- The controller may send commands to the die of a pseudo-channel: the stack runs, the die is powered and not in reset, and fewer than 16 commands are outstanding (R186). -/
def MayCommand (h : Hw) (pc : Nat) : Prop :=
  h.mode = .run ∧ dieState h (dieOf pc) ≠ 1 ∧ dieState h (dieOf pc) ≠ 3 ∧ (chSt h (chOf pc)).retry.length < 16

section
variable {c : Core} {pc bank col : Nat} {bad : Bool}

/-- A command whose own condition holds is issued, after what it changes first. -/
theorem command_issues {ok : Hw → Bool} {cmd : DieCmd} {noise : Nat} {before : Hw → Hw} (hc : MayCommand c.hw (cmdPc cmd)) (hok : ok c.hw = true) :
    command ok cmd bad noise before c = issue (c.onHw before) cmd bad noise := by
  obtain ⟨hm, hreset, hoff, hroom⟩ := hc
  simp only [command, hm, hreset, hoff, hroom, hok, beq_self_eq_true, ne_eq, not_false_eq_true, decide_true, Bool.and_self, if_true]

/-- A column read of the granted transfer's next line is issued; it closes the row as commanded, or with an idle time of 0, when no request
needs the row (R171, R172). -/
theorem readColumn_issues {l : XLine} {n : Nat} {noise : BitVec 576} (close : Bool) (hc : MayCommand c.hw pc) (hl : live pc c.hw = true)
    (ht : readTarget c.hw pc bank col = some (l, n)) :
    readColumn pc bank col noise bad close c =
      issue c (.rd pc bank col (closes c.hw pc bank close
        (setPc c.hw pc { pcSt c.hw pc with got := (pcSt c.hw pc).got ++ [(l.idx, 0#512, false)] }))) bad (fromBurst noise.toNat) := by
  simp only [readColumn, hl, ht, if_true]
  exact command_issues (before := id) hc rfl

/-- A column write of the oldest queued line of a granted drain is issued, in the same way (R172, R217). -/
theorem writeColumn_issues {i n : Nat} {e : WqEntry} {rest : List WqEntry} {noise : BitVec 592} (close : Bool) (hc : MayCommand c.hw pc)
    (hl : live pc c.hw = true) (hg : (pcSt c.hw pc).granted = some (.drain i n)) (hq : (pcSt c.hw pc).wq = e :: rest)
    (hb : pBank e.phys = bank) (hcol : pCol e.phys = col) (hr : tfind (pcSt c.hw pc).rows bank = some (pRow e.phys)) :
    writeColumn pc bank col bad noise close c =
      issue c (.wr pc bank col (closes c.hw pc bank close (setPc c.hw pc { pcSt c.hw pc with wq := rest })) e) bad
        (noise.toNat / 2 ^ 576 * 2 ^ 576 + fromBurst (noise.toNat % 2 ^ 576)) := by
  simp only [writeColumn, hl, hg, hq, hb, hcol, hr, decide_true, Bool.and_self, if_true]
  exact command_issues (before := id) hc rfl

end

/-- Settles O19: each command's function, on the state that its clause describes, issues its command. -/
theorem dieCommandsComplete : Obligations.DieCommandsComplete := by
  unfold Obligations.DieCommandsComplete
  intro s pc bad hm hreset hoff hroom
  have hc : MayCommand (coreOf s).hw pc := ⟨hm, hreset, hoff, hroom⟩
  refine ⟨?_, ?_, ?_, ?_, ?_, ?_, ?_, ?_, ?_, ?_, ?_, ?_⟩
  · intro bank row hw hl hopen
    exact exec_eq_afterCore rfl hw (command_issues hc (Bool.and_eq_true_iff.mpr ⟨hl, hopen⟩))
  · intro bank hw hl hclose
    exact exec_eq_afterCore rfl hw (command_issues hc (Bool.and_eq_true_iff.mpr ⟨hl, hclose⟩))
  · intro hw hl hclose
    exact exec_eq_afterCore rfl hw (command_issues hc (Bool.and_eq_true_iff.mpr ⟨hl, List.all_eq_true.mpr hclose⟩))
  · intro hw hl hidle hg
    exact exec_eq_afterCore rfl hw (command_issues hc (Bool.and_eq_true_iff.mpr ⟨Bool.and_eq_true_iff.mpr ⟨hl, hidle⟩, hg⟩))
  · intro bank row hw hl hg
    exact exec_eq_afterCore rfl hw (command_issues hc (Bool.and_eq_true_iff.mpr ⟨hl, hg⟩))
  · intro hw hl hrows hg
    exact exec_eq_afterCore rfl hw (command_issues hc (Bool.and_eq_true_iff.mpr ⟨Bool.and_eq_true_iff.mpr ⟨hl, List.isEmpty_iff.mpr hrows⟩, Option.isNone_iff_eq_none.mpr hg⟩))
  · intro hw hsr ha hg
    exact exec_eq_afterCore rfl hw (command_issues hc (Bool.and_eq_true_iff.mpr ⟨Bool.and_eq_true_iff.mpr ⟨hsr, ha⟩, Option.isNone_iff_eq_none.mpr hg⟩))
  · intro reg value hw
    exact exec_eq_afterCore rfl hw (command_issues hc rfl)
  · intro hw hl
    exact exec_eq_afterCore rfl hw (command_issues hc hl)
  · intro bank hw hl hopen hn
    exact exec_eq_afterCore rfl hw
      (command_issues hc (Bool.and_eq_true_iff.mpr ⟨Bool.and_eq_true_iff.mpr ⟨hl, hopen⟩, (Bool.not_eq_true' _).mpr hn⟩))
  · intro bank col noise l n hl ht
    exact ⟨fun hw => exec_eq_afterCore rfl hw (readColumn_issues (c := coreOf s) false hc hl ht),
      fun hw => exec_eq_afterCore rfl hw (readColumn_issues (c := coreOf s) true hc hl ht)⟩
  · intro bank col noise i n e rest hl hg hq hb hcol hr
    exact ⟨fun hw => exec_eq_afterCore rfl hw (writeColumn_issues (c := coreOf s) false hc hl hg hq hb hcol hr),
      fun hw => exec_eq_afterCore rfl hw (writeColumn_issues (c := coreOf s) true hc hl hg hq hb hcol hr)⟩

end Sys2Proof.Machine

/-! Commands of the controller's own, and the faults that they raise, leave placement alone. -/

namespace Sys2Proof.Machine

/-- What each pass of a loop leaves of placement, the loop leaves. -/
theorem foldl_place {α : Type} {f : Hw → α → Hw} (hf : ∀ h x, (f h x).place = h.place) (xs : List α) (h : Hw) : (xs.foldl f h).place = h.place :=
  List.foldlRecOn (motive := fun t => t.place = h.place) xs f rfl (fun t ht x _ => (hf t x).trans ht)

section
variable (h : Hw)

/-! Sending. -/

@[simp] theorem sentCodewords_place (ls n : Nat) : (sentCodewords h ls n).place = h.place := rfl
@[simp] theorem startStream_place (ls : Nat) : (startStream h ls).place = h.place := rfl

@[simp] theorem fillIdle_place (ls : Nat) : (fillIdle h ls).place = h.place := by
  unfold fillIdle
  split <;> rfl

@[simp] theorem driveFlit_place (ls : Nat) (x : FlitContent) (bad : Bool) : (driveFlit h ls x bad).place = h.place := by
  simp only [driveFlit, emit_place, sentCodewords_place]
  split <;> simp

@[simp] theorem sendFlit_place (ls : Nat) (x : FlitContent) : (sendFlit h ls x).place = h.place := by
  unfold sendFlit
  simp only [apply_ite Hw.place, driveFlit_place, ite_self]

@[simp] theorem putFlit_place (ls : Nat) (f : TxFlit) : (putFlit h ls f).place = h.place := sendFlit_place ..

@[simp] theorem newFlit_place (p ls : Nat) (g : Option TxGroup) : (newFlit h p ls g).place = h.place := putFlit_place ..

@[simp] theorem takeCredits_place (p : Nat) (g : TxGroup) : (takeCredits h p g).place = h.place := by
  unfold takeCredits
  split <;> rfl

@[simp] theorem endSample_place (w : HeldGroup) : (endSample h w).place = h.place := by
  unfold endSample
  split <;> rfl

@[simp] theorem liftFence_place (p : Nat) : (liftFence h p).place = h.place := by
  unfold liftFence
  dsimp only
  split
  · split <;> rfl
  · rfl

end

theorem sendReplays_place (fuel : Nat) (h : Hw) (p : Nat) : (sendReplays fuel h p).place = h.place := by
  induction fuel generalizing h with
  | zero => rfl
  | succ n ih =>
    unfold sendReplays
    dsimp only
    split
    · rw [ih, putFlit_place]
      rfl
    · rfl

theorem sendCredits_place (fuel : Nat) (h : Hw) (p : Nat) : (sendCredits fuel h p).place = h.place := by
  induction fuel generalizing h with
  | zero => rfl
  | succ n ih =>
    unfold sendCredits
    dsimp only
    split
    · rfl
    · split
      · rw [ih, newFlit_place]
      · rfl

theorem sendWaiting_place (ws : List HeldGroup) (h : Hw) (p : Nat) (blocked : List Nat) : (sendWaiting h p ws blocked).1.place = h.place := by
  induction ws generalizing h blocked with
  | nil => rfl
  | cons w ws ih =>
    unfold sendWaiting
    dsimp only
    split
    · rw [ih, newFlit_place, takeCredits_place, endSample_place]
    · exact ih ..

section
variable (h : Hw)

@[simp] theorem flushPort_place (p : Nat) : (flushPort h p).place = h.place := by
  unfold flushPort
  split
  · exact liftFence_place ..
  · simp only [liftFence_place, sendCredits_place, setPort_place, sendWaiting_place, sendReplays_place]

@[simp] theorem sendGroup_place (p : Nat) (g : TxGroup) : (sendGroup h p g).place = h.place := by
  unfold sendGroup sendSampled
  dsimp only
  split
  · exact liftFence_place ..
  · exact flushPort_place ..

/-! Records. -/

@[simp] theorem keepFirstLast_place (r : FaultRec) : (keepFirstLast h r).place = h.place := by
  unfold keepFirstLast
  split <;> rfl

@[simp] theorem notify_place (r : FaultRec) : (notify h r).place = h.place := by
  unfold notify
  dsimp only
  split
  · rfl
  · refine foldl_place (fun h p => ?_) _ h
    split
    · exact sendGroup_place ..
    · rfl

@[simp] theorem alsoFired_place (code detail : Nat) : (alsoFired h code detail).place = h.place := by
  unfold alsoFired
  dsimp only
  split <;> rfl

@[simp] theorem enterGrey_place (cause : Nat) (source : Option Nat) : (enterGrey h cause source).place = h.place := by
  unfold enterGrey
  split
  · rfl
  · split
    · cases source with
      | none => rfl
      | some s => dsimp only; split <;> rfl
    · rfl

/-- A Milestone event leaves placement alone if what it raises does. -/
theorem milestoneEvent_place {after : Hw → Nat → Hw} (ha : ∀ h s, (after h s).place = h.place) (code detail : Nat) :
    (milestoneEvent after h code detail).place = h.place := by
  unfold milestoneEvent
  split
  · rfl
  · split
    · exact alsoFired_place ..
    · split
      · rfl
      · rw [ha]
        split <;> rfl

/-- So does a record with the firing that it causes. -/
theorem writeRecord_place {fire : Hw → Nat → Nat → Hw} (hf : ∀ h code detail, (fire h code detail).place = h.place) (r : FaultRec) :
    (writeRecord fire h r).place = h.place := by
  unfold writeRecord
  dsimp only
  split
  · rw [hf, notify_place, keepFirstLast_place]
    rfl
  · rw [notify_place, keepFirstLast_place]
    rfl

theorem raiseN_place (fuel s : Nat) (w : Where) : (raiseN fuel h s w).place = h.place := by
  induction fuel generalizing h s w with
  | zero => rfl
  | succ fuel ih =>
    have hrec (h : Hw) (r : FaultRec) : (writeRecord (milestoneEvent (fun h s => raiseN fuel h s {})) h r).place = h.place :=
      writeRecord_place h (milestoneEvent_place · (fun h s => ih h s {})) r
    unfold raiseN
    dsimp only
    split
    · rfl
    · simp only [apply_ite Hw.place, enterGrey_place, hrec, bump_place, setLatch, setObj_place, ite_self]

@[simp] theorem raise_place (s : Nat) (w : Where) : (raise h s w).place = h.place := raiseN_place h 3 s w

/-! Commands of the controller's own, and the row that a line needs. -/

@[simp] theorem noteReplay_place (ch : Nat) (crc : Bool) : (noteReplay h ch crc).place = h.place := by
  cases crc <;> exact raise_place ..

@[simp] theorem ownCommands_place (ch n : Nat) (wr : Bool) : (ownCommands h ch n wr).place = h.place := by
  unfold ownCommands
  simp only [apply_ite Hw.place, noteReplay_place, setCh_place, ite_self]

@[simp] theorem queueTrr_place (pc bank row : Nat) : (queueTrr h pc bank row).place = h.place := by
  unfold queueTrr
  dsimp only
  split <;> rfl

@[simp] theorem drawNeighbours_place (pc bank row : Nat) : (drawNeighbours h pc bank row).place = h.place := by
  have hrows (h : Hw) (rows : List Nat) : (rows.foldl (fun h r => queueTrr h pc bank r) h).place = h.place :=
    foldl_place (fun h r => queueTrr_place h pc bank r) rows h
  unfold drawNeighbours
  simp only [apply_ite Hw.place, hrows, setCh_place, ite_self]

@[simp] theorem openRow_place (n : Nat) : (openRow h n).place = h.place := by
  unfold openRow
  dsimp only
  split
  · rfl
  · rw [drawNeighbours_place, bump_place, setPc_place, ownCommands_place]

end

end Sys2Proof.Machine

/-! What a die does with a command it accepts (Table 6.2). -/

namespace Sys2Proof.Machine

section
variable {α : Type}

theorem tfind_cons (e : Nat × α) (r : Tbl α) (k : Nat) : tfind (e :: r) k = if e.1 = k then some e.2 else tfind r k := by
  by_cases he : e.1 = k <;> simp [tfind, he]

theorem tfind_tins_same (v : α) (t : Tbl α) (k : Nat) (h : ∀ e ∈ t, e.1 ≠ k) : tfind (tins k v t) k = some v := by
  induction t with
  | nil => simp [tins, tfind_cons]
  | cons e r ih =>
    obtain ⟨he, hr⟩ := List.forall_mem_cons.mp h
    rw [tins_cons]
    split
    · rw [tfind_cons, if_pos rfl]
    · rw [tfind_cons, if_neg he, ih hr]

/-- A listed key holds what was written to it. -/
@[simp] theorem tfind_tset_same (v : α) (t : Tbl α) (k : Nat) : tfind (tset t k v) k = some v :=
  tfind_tins_same v _ k (tdel_not_mem t k)

/-- A deleted key is not listed. -/
@[simp] theorem thas_tdel_same (t : Tbl α) (k : Nat) : thas (tdel t k) k = false :=
  List.any_eq_false.mpr (fun e he => by simpa using tdel_not_mem t k e he)

end

section
variable (h : Hw) (n : Nat)

@[simp] theorem pcSt_setRows_same (rows : Tbl Nat) : (pcSt (setRows h n rows) n).rows = rows := by
  rw [setRows, pcSt_setPc_same]

@[simp] theorem pcSt_setOwed (p : Nat) (v : Int) : pcSt (setOwed h p v) n = pcSt h n := rfl

/-- What the array area shows of self-refresh is not a matter of its pseudo-channels. -/
@[simp] theorem pcSt_showSr (d : Nat) : pcSt (showSr h d) n = pcSt h n := by
  unfold showSr
  dsimp only
  split
  · rfl
  · split <;> rfl

end

/-- What a system slot's line holds depends on placement alone. -/
theorem systemBits_of_place {h t : Hw} (hp : t.place = h.place) (n : Nat) : systemBits t n = systemBits h n := by
  simp only [systemBits, hp]

@[simp] theorem onHw_hw (c : Core) (f : Hw → Hw) : (c.onHw f).hw = f c.hw := rfl

/-- A column command that closes its row leaves its bank closed. -/
theorem thas_closeAfter (c : Core) (pc bank : Nat) : thas (pcSt (c.onHw (closeAfter true pc bank)).hw pc).rows bank = false := by
  simp only [onHw_hw, closeAfter, if_true, pcSt_setRows_same, thas_tdel_same]

/-- The granted read's next line is read and kept with the grant (R171). -/
theorem collectColumn_target {c : Core} {pc bank col n : Nat} {l : XLine} (noise : Nat) (ht : readTarget c.hw pc bank col = some (l, n)) :
    collectColumn c pc bank col noise =
      let r := readLine { c with hw := (lookup c.hw (l.line / 1024)).1 } n noise false false
      r.1.onHw (fun h =>
        setPc (if r.2.2 = true then notePoisonDelivered h n else h) pc { pcSt h pc with got := (pcSt h pc).got ++ [(l.idx, r.2.1, r.2.2)] }) := by
  simp only [collectColumn, ht]
  rfl

/-- A queued line that has left the queue is counted for its channel and its class. -/
def countWritten (h : Hw) (e : WqEntry) : Hw :=
  let p := pPc e.phys
  let h := bump (setPc h p { pcSt h p with wq := (pcSt h p).wq.filter (fun x => x != e) }) 0x5120 3 (chOf p)
  match e.cls with
  | some k => countLines h (trkOf p) k 1
  | none => h

theorem chSt_countWritten (h : Hw) (e : WqEntry) (n : Nat) : chSt (countWritten h e) n = chSt h n := by
  unfold countWritten
  cases e.cls <;> rfl

theorem countWritten_place (h : Hw) (e : WqEntry) : (countWritten h e).place = h.place := by
  unfold countWritten
  cases e.cls <;> rfl

/-- A line that patrol scrub wrote back is to be re-read, for the symbol that it corrected (R293). -/
def noteHard (h : Hw) (e : WqEntry) : Hw :=
  match e.check with
  | some s => { h with chans := { h.chans with hard := h.chans.hard ++ [(e.phys, s)] } }
  | none => h

theorem noteHard_place (h : Hw) (e : WqEntry) : (noteHard h e).place = h.place := by
  unfold noteHard
  cases e.check <;> rfl

/-- Unless its channel has failed, a queued line opens its row and is stored with fresh check symbols and what the TSVs added (R173, R187). -/
theorem drainNoisy_good {c : Core} {e : WqEntry} (noise : Nat) (hf : (chSt c.hw (chOf (pPc e.phys))).failed = false) :
    drainNoisy c e noise =
      ({ c with hw := openRow (noteHard (countWritten c.hw e) e) e.phys } : Core).storeLine e.phys (encodeLine e.data e.poison ^^^ noise) :=
  if_neg (ne_true_of_eq_false ((congrArg Chan.failed (chSt_countWritten c.hw e _)).trans hf))

/-- It is one change of the stored lines; a cell of a system slot lists what differs from what the slot holds (R148). -/
theorem drainNoisy_stores {c : Core} {e : WqEntry} (noise : Nat) (hf : (chSt c.hw (chOf (pPc e.phys))).failed = false) :
    (drainNoisy c e noise).stores = c.stores ++ [.line e.phys (encodeLine e.data e.poison ^^^ noise ^^^ systemBits c.hw e.phys)] := by
  have hplace : (openRow (noteHard (countWritten c.hw e) e) e.phys).place = c.hw.place := by
    rw [openRow_place, noteHard_place, countWritten_place]
  rw [drainNoisy_good noise hf, ← systemBits_of_place hplace]
  rfl

/-- Settles O21: each command's effect by its own lemma. -/
theorem dieEffects : Obligations.DieEffects := by
  unfold Obligations.DieEffects
  intro c pc noise
  refine ⟨fun bank row => ?_, fun bank => ?_, fun bank col => thas_closeAfter _ pc bank, fun bank col l n ht => ?_, fun bank col close e hf => ?_,
    ?_, ?_, ?_, fun value => ?_⟩
  · simp only [dieEffect, onHw_hw, pcSt_setRows_same, tfind_tset_same]
  · simp only [dieEffect, onHw_hw, pcSt_setRows_same, thas_tdel_same]
  · exact collectColumn_target noise ht
  · exact drainNoisy_stores _ hf
  · simp only [dieEffect, onHw_hw, pcSt_setRows_same]
  · simp only [dieEffect, onHw_hw, pcSt_showSr, pcSt_setPc_same, and_self]
  · simp only [dieEffect, onHw_hw, pcSt_showSr, pcSt_setOwed, pcSt_setPc_same, and_self]
  · simp only [dieEffect, onHw_hw, dieSt_setDie_same, and_self]

end Sys2Proof.Machine

/-! The arbiter's order (R213, R223). -/

namespace Sys2Proof.Machine

/-- A search from `n - 1` down to 0 finds the highest number that has a value. -/
theorem findSome?_reverse_range_eq_some {β : Type} {f : Nat → Option β} {b : β} :
    ∀ {n : Nat}, (List.range n).reverse.findSome? f = some b → ∃ i < n, f i = some b ∧ ∀ j, i < j → j < n → f j = none
  | 0, hf => by simp at hf
  | n + 1, hf => by
    rw [List.range_succ, List.reverse_append, List.reverse_singleton, List.singleton_append, List.findSome?_cons] at hf
    cases hn : f n with
    | some c => exact ⟨n, n.lt_succ_self, by simpa only [hn] using hf, fun j hnj hj => by omega⟩
    | none =>
      obtain ⟨i, hi, hb, habove⟩ := findSome?_reverse_range_eq_some (by simpa only [hn] using hf)
      refine ⟨i, by omega, hb, fun j hij hj => ?_⟩
      obtain rfl | hlt : j = n ∨ j < n := by omega
      · exact hn
      · exact habove j hij hlt

/-- Grey mode takes the engine inputs 4 to 13 and input 1 out of use (R223). -/
def outOfUse (h : Hw) (i : Nat) : Prop := grey h = true ∧ ((4 ≤ i ∧ i ≤ 13) ∨ i = 1)

/-- What an input puts before the arbiter: its number and its winner, nothing while it is out of use. -/
def bid (h : Hw) (pc i : Nat) : Option (Nat × Grant) :=
  if grey h && (decide (4 ≤ i) && decide (i ≤ 13) || i == 1) then none else (atInput h pc i).map (fun g => (i, g))

/-- The arbiter takes the first bid from input 15 down. -/
theorem winner_eq_findSome?_bid (h : Hw) (pc : Nat) : winner h pc = (List.range 16).reverse.findSome? (bid h pc) :=
  List.head?_filterMap

theorem bid_outOfUse {h : Hw} {i : Nat} (pc : Nat) (ho : outOfUse h i) : bid h pc i = none :=
  if_pos (by simpa [outOfUse] using ho)

theorem bid_inUse {h : Hw} {i : Nat} (pc : Nat) (ho : ¬outOfUse h i) : bid h pc i = (atInput h pc i).map (fun g => (i, g)) :=
  if_neg (by simpa [outOfUse] using ho)

/-- A bid is what wins at an input in use. -/
theorem atInput_of_bid_some {h : Hw} {pc j i : Nat} {g : Grant} (hb : bid h pc j = some (i, g)) :
    j = i ∧ ¬outOfUse h j ∧ atInput h pc j = some g := by
  by_cases ho : outOfUse h j
  · rw [bid_outOfUse pc ho] at hb
    cases hb
  · rw [bid_inUse pc ho] at hb
    obtain ⟨_, hat, ⟨⟩⟩ := Option.map_eq_some_iff.mp hb
    exact ⟨rfl, ho, hat⟩

/-- An input in use makes no bid only when nothing there can take the path. -/
theorem atInput_of_bid_none {h : Hw} {pc i : Nat} (hb : bid h pc i = none) (ho : ¬outOfUse h i) : atInput h pc i = none := by
  rwa [bid_inUse pc ho, Option.map_eq_none_iff] at hb

/-- Settles O17: the winner is the bid of the highest input that makes one, so it is in use and every higher input in use has nothing. -/
theorem highestInputWins : Obligations.HighestInputWins := by
  unfold Obligations.HighestInputWins
  intro h pc i g hw
  rw [winner_eq_findSome?_bid] at hw
  obtain ⟨k, hk, hbid, habove⟩ := findSome?_reverse_range_eq_some hw
  obtain ⟨rfl, huse, hat⟩ := atInput_of_bid_some hbid
  exact ⟨hk, hat, fun hg => not_or.mp fun hout => huse ⟨hg, hout⟩, fun j hij hj hju => atInput_of_bid_none (habove j hij hj) hju⟩

end Sys2Proof.Machine

/-! The head descriptor of a port's buffer (R229, R235 to R240). -/

namespace Sys2Proof.Machine

/-- The descriptor `d` stands at the head of a port whose descriptors are taken, and the stack is not in Grey mode. -/
structure AtHead (c : Core) (p : Nat) (d : JobDesc) : Prop where
  takes : takesJobs c.hw = true
  ungrey : grey c.hw = false
  head : ∃ b rest, (port c.hw p).job = b :: rest ∧ b ≠ [] ∧ parseDesc b = d

/-- An ABORT descriptor is answered with the status that `abort` found, or waits (R240). -/
def answerAbort (p : Nat) (d : JobDesc) (r : Core × Option Nat) : Core :=
  match r.2 with
  | some st => answerHead p d st r.1
  | none => r.1

section
variable {c : Core} {p : Nat} {d : JobDesc}

/-- A descriptor of a type is not dropped as one with a reserved opcode. -/
theorem AtHead.dropReserved_eq (hd : AtHead c p d) (hk : knownJob d.opcode = true) (n : Nat) : dropReserved p n c = c := by
  obtain ⟨_, _, b, rest, hj, _, rfl⟩ := hd
  cases n with
  | zero => rfl
  | succ n => simp only [dropReserved, hj, hk, Bool.or_true, if_true]

/-- What the row of the descriptor's opcode does with it once it is looked at. -/
theorem AtHead.takeJob_eq (hd : AtHead c p d) (hk : knownJob d.opcode = true) :
    takeJob d.opcode p c =
      if goodDesc d = false then refuseDesc p d 2 c
      else if d.opcode = 15 then answerAbort p d (abort p (d.arg0 % 65536) c)
      else if d.opcode = 10 ∧ obj c.hw 0x6102 d.kernel = 0xFF then refuseDesc p d 4 c
      else if 256 ≤ obj c.hw 0x6001 p then c
      else c.onHw (fun h => admitJob (popDesc h p) p d) := by
  have hdrop := hd.dropReserved_eq hk (port c.hw p).job.length
  obtain ⟨ht, hg, b, rest, hj, hb, rfl⟩ := hd
  have hne : b.isEmpty = false := by simpa using hb
  unfold takeJob
  rw [hdrop]
  simp only [ht, hg, hj, hne, bne_self_eq_false, Bool.or_self, Bool.not_true, Bool.false_eq_true, if_false, Bool.not_eq_true', Bool.and_eq_true,
    decide_eq_true_eq]
  rcases abort p ((parseDesc b).arg0 % 65536) c with ⟨_, _ | _⟩ <;> rfl

/-- A malformed descriptor is refused with status 2 (R229). -/
theorem AtHead.takeJob_malformed (hd : AtHead c p d) (hk : knownJob d.opcode = true) (hm : goodDesc d = false) : takeJob d.opcode p c = refuseDesc p d 2 c :=
  (hd.takeJob_eq hk).trans (if_pos hm)

/-- A good descriptor of a job, with its kernel loaded and the port below its limit, is admitted (R235, R237). -/
theorem AtHead.takeJob_admits (hd : AtHead c p d) (hgood : goodDesc d = true) (hop : 1 ≤ d.opcode ∧ d.opcode ≤ 10)
    (hload : d.opcode = 10 → obj c.hw 0x6102 d.kernel ≠ 0xFF) (hl : obj c.hw 0x6001 p < 256) :
    takeJob d.opcode p c = c.onHw (fun h => admitJob (popDesc h p) p d) := by
  rw [hd.takeJob_eq (by simp [knownJob, hop]), if_neg (by simp [hgood]), if_neg (by omega), if_neg (fun h => hload h.1 h.2), if_neg (Nat.not_le.mpr hl)]

/-- A good ABORT does what `abort` finds for it (R240). -/
theorem AtHead.takeJob_abort (hd : AtHead c p d) (hgood : goodDesc d = true) (hab : d.opcode = 15) :
    takeJob 15 p c = answerAbort p d (abort p (d.arg0 % 65536) c) := by
  rw [← hab, hd.takeJob_eq (by rw [hab]; rfl), if_neg (by simp [hgood]), if_pos hab]

end

/-- The row of a job's opcode leaves what admission makes of the state. -/
theorem exec_admits {s : State} {i : Instr} {p op : Nat} {d : JobDesc} (he : exec i s = runCore i.wf (takeJob op p) s) (hw : i.wf = true)
    (hd : AtHead (coreOf s) p d) (hgood : goodDesc d = true) (hl : obj s.hw 0x6001 p < 256) (ho : d.opcode = op) (hop : 1 ≤ op ∧ op ≤ 10)
    (hload : op = 10 → obj s.hw 0x6102 d.kernel ≠ 0xFF) : exec i s = .next (after s (admitJob (popDesc (begin s.hw) p) p d)) := by
  subst ho
  exact exec_eq_afterCore he hw (hd.takeJob_admits hgood hop hload hl)

/-- Settles O29: each row takes the head descriptor of its opcode, which passes every check before admission. -/
theorem descriptorsAreAdmitted : Obligations.DescriptorsAreAdmitted := by
  unfold Obligations.DescriptorsAreAdmitted
  intro s p b rest ht hg hj hb hgood hl d t
  have hd : AtHead (coreOf s) p d := ⟨ht, hg, b, rest, hj, hb, rfl⟩
  refine ⟨?_, ?_, ?_, ?_, ?_, ?_, ?_, ?_, ?_, fun ho hk hw => exec_admits rfl hw hd hgood hl ho (by decide) (fun _ => hk)⟩
  all_goals exact fun ho hw => exec_admits rfl hw hd hgood hl ho (by decide) (fun h => absurd h (by decide))

section
variable {c : Core} {p id : Nat}

/-- An ABORT whose target has completed has the status that was kept for it. -/
theorem abort_kept {st : Nat} (ha : tfind c.hw.jobs.aborts p = some st) : abort p id c = (c, some st) := by
  simp only [abort, ha]

/-- No job of the port has the id: status 7. -/
theorem abort_unknown (ha : tfind c.hw.jobs.aborts p = none) (hn : jobNamed c.hw p id = none) : abort p id c = (c, some 7) := by
  simp only [abort, abortTarget, ha, hn, Option.bind_none]

/-- A target that is held: it is marked with the ABORT's status, and stopped. -/
theorem abort_target {j : Nat} {q : Job} {e : Core} {gone : Bool} (ha : tfind c.hw.jobs.aborts p = none) (hn : jobNamed c.hw p id = some j)
    (hq : jobAt c.hw j = some q)
    (hs : let st := q.abort.getD (abortStatus q)
      stopTarget j { q with abort := some st } (c.onHw (fun h => onJob h j (fun q => { q with abort := some st }))) = (e, gone)) :
    abort p id c = (e, if gone then some (q.abort.getD (abortStatus q)) else none) := by
  simp only [abort, abortTarget, ha, hn, hq, Option.bind_some, Option.map_some, hs]

/-- Only a target before its commit point is ended. -/
theorem ite_abortStatus {α : Type} (q : Job) (x y : α) :
    (if abortStatus q = 0 then x else y) = if (q.committed || q.status.isSome) = true then y else x := by
  unfold abortStatus
  split <;> rfl

/-- A stopped target that is still held tries to complete. -/
theorem stopTarget_held {j : Nat} {q k : Job} {d : Core}
    (hd : (if abortStatus q = 0 then c.onHw (fun h => endJob h j 5 (noResult q)) else c) = d) (hk : jobAt d.hw j = some k) :
    stopTarget j q c = tryComplete j k d := by
  simp only [stopTarget, hd, hk]

end

/-- Settles O30: the descriptor reaches `abort`, whose three outcomes are those of the clauses. -/
theorem abortCompletes : Obligations.AbortCompletes := by
  unfold Obligations.AbortCompletes
  intro s p b rest hw ht hg hj hb ho hgood id answered
  have hd : AtHead (coreOf s) p (parseDesc b) := ⟨ht, hg, b, rest, hj, hb, rfl⟩
  have hanswers {e : Core} {st : Nat} (ha : abort p id (coreOf s) = (e, some st)) : exec (.abort p) s = answered e st :=
    exec_eq_afterCore rfl hw ((hd.takeJob_abort hgood ho).trans (congrArg _ ha))
  refine ⟨fun st ha => hanswers (abort_kept ha), fun ha hn => hanswers (abort_unknown ha hn), ?_⟩
  intro j q ha hn hq past st c₁ c₂
  have hstopped : (if abortStatus { q with abort := some st } = 0 then c₁.onHw (fun h => endJob h j 5 (noResult { q with abort := some st })) else c₁) = c₂ :=
    ite_abortStatus _ _ _
  have hstop {k : Job} (hk : jobAt c₂.hw j = some k) {gone : Bool} (hc : (tryComplete j k c₂).2 = gone) :
      abort p id (coreOf s) = ((tryComplete j k c₂).1, if gone then some st else none) :=
    abort_target (c := coreOf s) ha hn hq ((stopTarget_held hstopped hk).trans (Prod.ext rfl hc))
  exact ⟨fun k hk hc => hanswers (hstop hk hc),
    fun k hk hc => exec_eq_afterCore rfl hw ((hd.takeJob_abort hgood ho).trans (congrArg _ (hstop hk hc)))⟩

section
variable {p st : Nat} {d : JobDesc} {c e : Core}

/-- Without a completion record none has to be ready. -/
theorem recordReady_of_no_record {q : Job} (hr : sendsRecord q.desc = false) (c : Core) : recordReady c q = (c, true) := by
  simp only [recordReady, hr, Bool.not_false, if_true]

/-- Without a completion record no line is written. -/
theorem writeCompletion_of_no_record {q : Job} (hr : sendsRecord q.desc = false) (st : Nat) (c : Core) : writeCompletion q st c = c := by
  simp only [writeCompletion, hr, Bool.false_eq_true, if_false]

/-- A refusal answers and counts once the record can be written (R229). -/
theorem refuseDesc_ready (hr : recordReady c (slotless p d) = (e, true)) :
    refuseDesc p d st c = (answerDesc p d st e).onHw (fun h => bump h 0x6005 p) := by
  simp only [refuseDesc, hr, if_true]

/-- Until then the refused descriptor waits. -/
theorem refuseDesc_waits (hr : recordReady c (slotless p d) = (e, false)) : refuseDesc p d st c = e := by
  simp only [refuseDesc, hr, Bool.false_eq_true, if_false]

/-- A descriptor refused without a record has a JCPL in every completion mode (Table 8.2). -/
theorem sendsJcpl_of_no_record (hr : sendsRecord d = false) (hs : st ≠ 0) : sendsJcpl (slotless p d) st = true := by
  obtain ⟨_, h3⟩ : d.cmode ≠ 2 ∧ d.cmode ≠ 3 := by simpa [sendsRecord] using hr
  simp [sendsJcpl, slotless, h3, hs]

/-- A descriptor that is answered without a record leaves the buffer, and its JCPL is sent. -/
theorem answerDesc_of_no_record (hr : sendsRecord d = false) (hs : st ≠ 0) (c : Core) :
    answerDesc p d st c = c.onHw (fun h =>
      let h := popDesc h p
      sendGroup (setJobs h { h.jobs with aborts := tdel h.jobs.aborts p }) p (completion (slotless p d) st)) := by
  simp only [answerDesc, writeCompletion_of_no_record (q := slotless p d) hr, sendsJcpl_of_no_record hr hs, if_true]
  rfl

end

/-- Settles O31: the malformed descriptor is refused with status 2; without a record no line is written, and with one `recordReady` decides. -/
theorem malformedDescriptorIsRefused : Obligations.MalformedDescriptorIsRefused := by
  unfold Obligations.MalformedDescriptorIsRefused
  intro s p b rest hw ht hg hj hb ho hm d
  have hd : AtHead (coreOf s) p d := ⟨ht, hg, b, rest, hj, hb, rfl⟩
  have hrefused : takeJob 1 p (coreOf s) = refuseDesc p d 2 (coreOf s) := by
    have hop : d.opcode = 1 := ho
    rw [← hop, hd.takeJob_malformed (by rw [hop]; rfl) hm]
  refine ⟨fun hr => ?_, fun _ c => ⟨fun hc => ?_, fun hc => ?_⟩⟩
  · rw [exec_eq_afterCore (c := .copy p) rfl hw
      (hrefused.trans (refuseDesc_ready (recordReady_of_no_record (q := slotless p d) hr (coreOf s)))), answerDesc_of_no_record hr (by decide)]
    rfl
  · exact exec_eq_afterCore rfl hw (hrefused.trans (refuseDesc_ready hc))
  · exact exec_eq_afterCore rfl hw (hrefused.trans (refuseDesc_waits hc))

/-! The completion of a job (R233, R234). -/

section
variable {h : Hw}

/-- Freeing a physical slot of the kernel store leaves the counts of the ports alone. -/
theorem obj_freeStore_of_idx_lt (slot : Nat) {i j u : Nat} (hi : i < 0x6104) (hj : j < 256) (hu : u < 4096) :
    obj (freeStore h slot) i j u = obj h i j u := by
  unfold freeStore
  split
  · exact obj_setObj_of_lt_idx _ _ 1 0 hi hj hu
  · rfl

/-- Freeing a physical slot leaves the jobs alone. -/
theorem jobAt_freeStore (slot j : Nat) : jobAt (freeStore h slot) j = jobAt h j := by
  unfold freeStore
  split <;> rfl

end

/-- The kernel binding of a job that leaves its slot ends. -/
def unbind (slot : Option Nat) (h : Hw) : Hw :=
  match slot with
  | some s => freeStore (setObj h 0x6103 s 0 (obj h 0x6103 s - 1)) s
  | none => h

theorem obj_unbind_of_idx_lt (slot : Option Nat) {h : Hw} {i j u : Nat} (hi : i < 0x6103) (hj : j < 256) (hu : u < 4096) :
    obj (unbind slot h) i j u = obj h i j u := by
  cases slot with
  | none => rfl
  | some s => exact (obj_freeStore_of_idx_lt s (by omega) hj hu).trans (obj_setObj_of_lt_idx h _ s 0 hi hj hu)

theorem jobAt_unbind (slot : Option Nat) {h : Hw} (j : Nat) : jobAt (unbind slot h) j = jobAt h j := by
  cases slot with
  | none => rfl
  | some s => exact jobAt_freeStore s j

/-- Job `j` has left its slot, and an ABORT that waits for it has its status. -/
def slotFreed (j : Nat) (q : Job) (h : Hw) : Hw :=
  setJobs h { h.jobs with jobs := tdel h.jobs.jobs j, aborts := match q.abort with | some a => tset h.jobs.aborts q.port a | none => h.jobs.aborts }

/-- The port holds one job fewer and has one completion more. -/
def countCompleted (p : Nat) (h : Hw) : Hw := setObj (bump h 0x6003 p) 0x6001 p 0 (obj h 0x6001 p - 1)

/-- A deleted key has no value. -/
theorem tfind_tdel_same {α : Type} (t : Tbl α) (k : Nat) : tfind (tdel t k) k = none := by
  simp only [tfind, Option.map_eq_none_iff, List.find?_eq_none, beq_iff_eq]
  exact fun e he => tdel_not_mem t k e he

/-- A job that ended OK with neither record nor JCPL completes by its counts alone. -/
theorem completeJob_silent {c : Core} {j : Nat} {q : Job} (hq : jobAt c.hw j = some q) (hs : q.status = some 0) (hr : sendsRecord q.desc = false)
    (hc : sendsJcpl q 0 = false) : completeJob j c = c.onHw (fun h => unbind q.slot (countCompleted q.port (slotFreed j q h))) := by
  simp only [completeJob, hq, hs, writeCompletion_of_no_record hr, hc, Bool.false_eq_true, if_false]
  cases q.slot <;> rfl

/-- Below completion mode 2 only an OK has no JCPL (Table 8.2). -/
theorem status_of_no_jcpl {q : Job} {st : Nat} (hm : q.desc.cmode < 2) (hc : sendsJcpl q st = false) : st = 0 := by
  have h3 : q.desc.cmode ≠ 3 := by omega
  obtain ⟨_, hst⟩ : q.desc.cmode = 1 ∧ st = 0 := by simpa [sendsJcpl, h3] using hc
  exact hst

/-- What the counts of a completed job's port read. -/
theorem obj_countCompleted {p : Nat} (hp : p < 4) (h : Hw) :
    obj (countCompleted p h) 0x6001 p = obj h 0x6001 p - 1 ∧
    obj (countCompleted p h) 0x6003 p = satAdd (objWidth 0x6003 p) (obj h 0x6003 p) 1 :=
  ⟨obj_setObj_same _ _ _ _ _, (obj_setObj_of_idx_lt _ _ p 0 (by omega) (by omega) (by omega)).trans (obj_bumpBy_same h _ _ _ _)⟩

/-! The completion record (R234). -/

theorem leNat_append (xs ys : List Byte) : leNat (xs ++ ys) = leNat xs + 256 ^ xs.length * leNat ys := by
  induction xs with
  | nil => simp [leNat]
  | cons x xs ih =>
    rw [List.cons_append, leNat, leNat, ih, List.length_cons, Nat.pow_succ']
    ring

/-- A list of `n` bytes is cut before whatever follows it. -/
theorem fitBytes_append {n : Nat} {xs : List Byte} (ys : List Byte) (hx : xs.length = n) : fitBytes n (xs ++ ys) = xs := by
  rw [fitBytes, List.append_assoc, List.take_left' hx]

/-- Bits below `m` are read as well after the bits from `m` on are cut. -/
theorem mod_two_pow_div_mod {a b m : Nat} (x : Nat) (h : a + b ≤ m) : x % 2 ^ m / 2 ^ a % 2 ^ b = x / 2 ^ a % 2 ^ b := by
  obtain ⟨k, rfl⟩ := Nat.exists_eq_add_of_le (show a ≤ m by omega)
  rw [Nat.pow_add, Nat.mod_mul_right_div_self, Nat.mod_mod_of_dvd _ (Nat.pow_dvd_pow 2 (by omega))]

/-- Bits below the width of a word are read as in the number that it was made of. -/
theorem toNat_ofNat_div_mod {a b w : Nat} (x : Nat) (h : a + b ≤ w) : (BitVec.ofNat w x).toNat / 2 ^ a % 2 ^ b = x / 2 ^ a % 2 ^ b := by
  rw [BitVec.toNat_ofNat, mod_two_pow_div_mod x h]

/-- A field of the first 16 bytes of a line. -/
theorem lineField_lineOfBytes {xs ys : List Byte} {off n : Nat} (hx : xs.length = 16) (hn : off + n ≤ 16) :
    lineField (lineOfBytes (xs ++ ys)) off n = leNat xs / 2 ^ (8 * off) % 2 ^ (8 * n) := by
  have hbits : 8 * off + 8 * n ≤ 128 := by omega
  rw [lineField, lineOfBytes, toNat_ofNat_div_mod _ (by omega), ← mod_two_pow_div_mod _ hbits, leNat_append, hx,
    show 256 ^ 16 = 2 ^ 128 from rfl, Nat.add_mul_mod_self_left, mod_two_pow_div_mod _ hbits]

/-- The header slot of a completion (R233). -/
def completionHeader (q : Job) (st : Nat) : Nat :=
  0x0A + st % 256 * 2 ^ 8 + q.desc.jobId % 65536 * 2 ^ 16 + bit q.result.isSome * 2 ^ 32 + q.bytes % 2 ^ 48 * 2 ^ 40

/-- The record begins with the header slot of the completion. -/
theorem recordLine_eq (q : Job) (st : Nat) :
    recordLine q st = lineOfBytes (leBytes 16 (completionHeader q st) ++ leBytes 16 (q.result.getD 0)) := by
  have hhead : fitBytes 16 (groupBytes (completion q st)) = leBytes 16 (completionHeader q st) := fitBytes_append _ (length_leBytes 16 _)
  rw [recordLine, hhead]

/-- A field of the record's header slot. -/
theorem lineField_recordLine (q : Job) (st : Nat) {off n : Nat} (hn : off + n ≤ 16) :
    lineField (recordLine q st) off n = completionHeader q st / 2 ^ (8 * off) % 2 ^ (8 * n) := by
  have hlt : completionHeader q st < 256 ^ 16 := by
    have hbit : bit q.result.isSome ≤ 1 := bit_le_one _
    unfold completionHeader
    omega
  rw [recordLine_eq, lineField_lineOfBytes (length_leBytes 16 _) hn, leNat_leBytes, Nat.mod_eq_of_lt hlt]

/-- Settles O33: such a job completes by its counts alone, which the end of its kernel's binding leaves; the record's fields are digits of its header. -/
theorem completedJobIsGone : Obligations.CompletedJobIsGone := by
  unfold Obligations.CompletedJobIsGone
  refine ⟨fun c j q st hp hq hs hm hc => ?_, fun q st hid hst hbytes => ?_⟩
  · obtain rfl := status_of_no_jcpl hm hc
    have hr : sendsRecord q.desc = false := by
      have h2 : q.desc.cmode ≠ 2 := by omega
      have h3 : q.desc.cmode ≠ 3 := by omega
      simp [sendsRecord, h2, h3]
    obtain ⟨hheld, hdone⟩ := obj_countCompleted hp (slotFreed j q c.hw)
    rw [completeJob_silent hq hs hr hc]
    exact ⟨(jobAt_unbind _ _).trans (tfind_tdel_same _ _), rfl,
      (obj_unbind_of_idx_lt _ (by decide) (by omega) (by decide)).trans hheld,
      (obj_unbind_of_idx_lt _ (by decide) (by omega) (by decide)).trans hdone⟩
  · have hbit : bit q.result.isSome ≤ 1 := bit_le_one _
    simp only [lineField_recordLine q st (show 0 + 1 ≤ 16 by decide), lineField_recordLine q st (show 1 + 1 ≤ 16 by decide),
      lineField_recordLine q st (show 2 + 2 ≤ 16 by decide), lineField_recordLine q st (show 5 + 6 ≤ 16 by decide), completionHeader]
    omega

end Sys2Proof.Machine

/-! Job events: what the function of each leaves, by the branch it takes. -/

namespace Sys2Proof.Machine

section
variable {e : Nat}

/-- A free engine in service starts the next part of its queue (R238). -/
theorem partStart_free {c : Core} {r : Nat × Nat} {q : Job} (ha : awake c.hw = true) (hp : (engine c.hw e).part = none) (hs : engState c.hw e = 0)
    (hd : domainState c.hw (engDomain (e / 4)) = 0) (hn : nextPart c.hw (engine c.hw e).queue = some r) (hq : jobAt c.hw r.1 = some q) :
    partStart e c =
      let g := engine c.hw e
      let d := c.onHw (fun h =>
        let h := setEngine h e { images := loadImage g q.slot, idleAt := g.idleAt, queue := g.queue.filter (· != r), part := some r, retired := now h, k := if q.desc.opcode = 10 then startKern q else {} }
        placeWaiting (setPart (bump (setEngState h e 1) 0x6012 e) r.1 r.2 (fun p => { p with running := true, issue := p.low })))
      if q.desc.opcode = 8 then issueRecords r.1 r.2 64 d else d := by
  simp only [partStart, hn, hq, ha, hp, hs, hd, Bool.not_true, Option.isSome_none, bne_self_eq_false, Bool.or_self, Bool.false_eq_true, if_false]

theorem engineDomainOn_awake {t : Nat} {h : Hw} (hm : h.mode = .run) (ho : obj h 0x7000 1 ≤ 1) :
    engineDomainOn t h =
      let h := engOn (setDomain h (engDomain t) 0) t
      placeWaiting (if grey h then (trackEngines t).foldl (fun h e => if engState h e = 0 then setEngState h e 3 else h) h else h) := by
  have hup : (h.mode != .run || decide (1 < obj h 0x7000 1)) = false := by simp [hm, ho]
  simp only [engineDomainOn, hup, Bool.false_eq_true, if_false]

section
variable {c : Core} {j i : Nat} {q : Job} {p : Part} (ha : awake c.hw = true) (hr : running c.hw e = some (j, i, q, p))
include ha hr

/-- A part that is not the home part sends what it has found (R238). -/
theorem partialResult_away (hc : combines q.desc.opcode = true) (hup : windowsUp c.hw q.desc = true) (hop : q.desc.opcode ≠ 5) (hh : p.home = false) :
    partialResult e c =
      let r := partWork e q.desc p c
      r.1.onHw (fun h => finishPart (setPart (ringCarry h (e / 4) q.homeTrack 64) j i (fun p => { p with finding := r.2.f })) (j, i)) := by
  simp only [partialResult, hr, ha, hc, hup, hop, hh, Bool.not_true, Bool.or_self, Bool.false_eq_true, if_false]

theorem partialResult_reduce (hup : windowsUp c.hw q.desc = true) (hop : q.desc.opcode = 5) : partialResult e c = reducePart e j i q p c := by
  have hc : combines 5 = true := rfl
  simp only [partialResult, hr, ha, hc, hup, hop, Bool.not_true, Bool.or_self, Bool.false_eq_true, if_false, if_true]

/-- The grant, by the type of the job (R239, R276). -/
theorem commitGrant_batch (hop : q.desc.opcode = 8) : commitGrant e c = batchPart j i q p c := by
  simp only [commitGrant, hr, ha, hop, Bool.not_true, Bool.false_eq_true, if_false, if_true]

theorem commitGrant_kernel {st : Nat} (hop : q.desc.opcode = 10) (hg : (engine c.hw e).asking = some st) :
    commitGrant e c = kernelEnd e j i st q c := by
  have h8 : q.desc.opcode ≠ 8 := by omega
  simp only [commitGrant, hr, ha, if_neg h8, if_pos hop, hg, Bool.not_true, Bool.false_eq_true, if_false]

/-- The grant of a built-in type other than ATOMIC-BATCH. -/
theorem commitGrant_builtin (h8 : q.desc.opcode ≠ 8) (h10 : q.desc.opcode ≠ 10) (hup : windowsUp c.hw q.desc = true) :
    commitGrant e c =
      if combines q.desc.opcode = true then (if p.home = true then homePart e j i q p c else c) else writePart e j i q p c := by
  simp only [commitGrant, hr, ha, if_neg h8, if_neg h10, hup, Bool.not_true, Bool.false_eq_true, if_false]

theorem speculativeRead_reads {su o l : Nat} (hn : q.desc.nospec = false) (hf : flag c.hw 0x6030 1 = true)
    (hl : (stream (engine c.hw e) su).ahead.length < obj c.hw 0x6030 2)
    (ho : (if q.desc.opcode = 10 then kernelAhead q.desc (stream (engine c.hw e) su) (obj c.hw 0x6030 2)
      else builtinAhead q.desc p su (stream (engine c.hw e) su).ahead.length) = some (o, l)) :
    speculativeRead e su c = readAhead c e su q.desc.cls o l := by
  simp only [speculativeRead, hr, ha, hn, hf, Nat.not_le.mpr hl, ho, Bool.not_true, decide_false, Bool.or_self, Bool.false_eq_true, if_false]

end

/-- Types whose parts combine are built in, and not ATOMIC-BATCH. -/
theorem ne_of_combines {op : Nat} (hc : combines op = true) : op ≠ 8 ∧ op ≠ 10 := by
  constructor <;> rintro rfl <;> exact absurd hc (by decide)

/-- COPY, FILL, GATHER and SCATTER are built in and their parts do not combine. -/
theorem ne_and_not_combines_of_mem {op : Nat} (hop : op ∈ [1, 2, 3, 4]) : op ≠ 8 ∧ op ≠ 10 ∧ ¬combines op = true := by
  revert op
  decide

/-- What a REDUCE part sends is stated with the parcels that it may start written out. -/
theorem reducePart_eq (j i : Nat) (q : Job) (p : Part) (c : Core) :
    reducePart e j i q p c =
      let ks := mayStart q p
      let r := partWork e q.desc { p with parcels := ks } c
      r.1.onHw (fun h =>
        let h := if ks = [] ∨ p.home = true then h else ringCarry h (e / 4) q.homeTrack 64
        let h := setPart h j i (fun p => { p with finding := addFinding p.finding r.2.f, sent := p.sent + ks.length })
        if p.home = false ∧ p.sent + ks.length = p.parcels.length then finishPart h (j, i) else h) := by
  simp only [reducePart, Bool.or_eq_true, List.isEmpty_iff, Bool.and_eq_true, Bool.not_eq_true', decide_eq_true_eq]

end

theorem tryComplete_ready {c : Core} {j st : Nat} {q : Job} (hs : q.status = some st)
    (hj : sendsJcpl q st = true → canSend c.hw q.port (completion q st) = true) (hr : (recordReady c q).2 = true) :
    (tryComplete j q c).1 = completeJob j (recordReady c q).1 := by
  have hsend : (sendsJcpl q st && !canSend c.hw q.port (completion q st)) = false := by simpa using hj
  simp only [tryComplete, hs, hsend, hr, Bool.false_eq_true, if_false, if_true]

theorem jobComplete_ended {c : Core} {p id j st : Nat} {q : Job} (ha : awake c.hw = true)
    (hf : c.hw.jobs.jobs.find? (fun e => e.2.port == p && e.2.desc.jobId == id && e.2.status.isSome) = some (j, q)) (hs : q.status = some st)
    (hj : sendsJcpl q st = true → canSend c.hw p (completion q st) = true) (hr : (recordReady c q).2 = true) :
    jobComplete p id c = completeJob j (recordReady c q).1 := by
  have hport : q.port = p := by
    have hsel := List.find?_some hf
    simp only [Bool.and_eq_true, beq_iff_eq] at hsel
    exact hsel.1.1
  subst hport
  simp only [jobComplete, hf, ha, if_true, tryComplete_ready hs hj hr]

theorem engineBack_back {h : Hw} {e : Nat} (hm : h.mode = .run) (hs : engState h e = 4) :
    engineBack e h = placeWaiting (setEngState h e (if grey h || engineUnit h e then 3 else if domainState h (engDomain (e / 4)) = 0 then 0 else 2)) := by
  simp only [engineBack, hm, hs, bne_self_eq_false, Bool.or_self, Bool.false_eq_true, if_false]

theorem jobTimeout_ends {h : Hw} {p id j : Nat} {q : Job} (hn : jobNamed h p id = some j) (hq : jobAt h j = some q) (hl : obj h 0x6000 3 ≠ 0)
    (hc : q.committed = false) (hs : q.status = none) : jobTimeout p id h = endJob h j 0x0D (noResult q) := by
  simp only [jobTimeout, hn, hq, hl, hc, hs, decide_false, Option.isSome_none, Bool.or_self, Bool.false_eq_true, if_false]

/-- Of the jobs that wait for a lock and hold it the younger ends (R248). -/
theorem lockWaitTimeout_ends {h : Hw} {e line a b x y g w : Nat} {q : Job} (hw : (engine h e).wait = some (line, w))
    (ha : (engine h e).part = some (a, x)) (hg : lockedBy h e line = some g) (hb : (engine h g).part = some (b, y))
    (hq : jobAt h (if older h a b then b else a) = some q) :
    lockWaitTimeout e h = endJob (bump h 0x6040 2) (if older h a b then b else a) 9 (noResult q) := by
  simp only [lockWaitTimeout, hw, ha, hg, Option.bind_some, hb, hq]

/-- Settles O32: each event's function, on the state that the clause describes, takes the branch of the event. -/
theorem jobEventsComplete : Obligations.JobEventsComplete := by
  unfold Obligations.JobEventsComplete
  refine ⟨?_, ?_, ?_, ?_, ?_, ?_, ?_, ?_, ?_, ?_, ?_⟩
  · intro s e r q hw ha hp hs hd hn hq
    exact exec_eq_afterCore rfl hw (partStart_free (c := coreOf s) ha hp hs hd hn hq)
  · intro s t hw hm ho
    exact exec_eq_after rfl hw (engineDomainOn_awake (h := begin s.hw) hm ho)
  · intro s e j i q p hw ha hr hc hup
    exact ⟨fun hop hh => exec_eq_afterCore rfl hw (partialResult_away (c := coreOf s) ha hr hc hup hop hh),
      fun hop => exec_eq_afterCore rfl hw ((partialResult_reduce (c := coreOf s) ha hr hup hop).trans (reducePart_eq j i q p (coreOf s)))⟩
  · intro s e j i q p hw ha hr
    refine ⟨fun hop => ?_, fun st hop hg => ?_, fun hc hh hup => ?_, fun hop hup => ?_⟩
    · exact exec_eq_afterCore rfl hw (commitGrant_batch (c := coreOf s) ha hr hop)
    · exact exec_eq_afterCore rfl hw (commitGrant_kernel (c := coreOf s) ha hr hop hg)
    · obtain ⟨h8, h10⟩ := ne_of_combines hc
      exact exec_eq_afterCore rfl hw ((commitGrant_builtin (c := coreOf s) ha hr h8 h10 hup).trans ((if_pos hc).trans (if_pos hh)))
    · obtain ⟨h8, h10, hc⟩ := ne_and_not_combines_of_mem hop
      exact exec_eq_afterCore rfl hw ((commitGrant_builtin (c := coreOf s) ha hr h8 h10 hup).trans (if_neg hc))
  · intro s p id j st q hw ha hf hs hj hr
    exact exec_eq_afterCore rfl hw (jobComplete_ended (c := coreOf s) ha hf hs hj hr)
  · intro s e su j i o l q p hw ha hr hn hf hl ho
    exact exec_eq_afterCore rfl hw (speculativeRead_reads (c := coreOf s) ha hr hn hf hl ho)
  · intro s e hw ha hs
    exact exec_eq_after rfl hw (if_pos (by simp [servesParts, ha, hs]))
  · intro s e hw ha hs hp
    exact exec_eq_after rfl hw (if_pos (by simp [servesParts, ha, hs, hp]))
  · intro s e hw hm hs
    exact exec_eq_after rfl hw (engineBack_back (h := begin s.hw) hm hs)
  · intro s p id j q hw hn hq hl hc hs
    exact exec_eq_after rfl hw (jobTimeout_ends (h := begin s.hw) hn hq hl hc hs)
  · intro s e line a b x y g w q hw hwait ha hg hb hq
    exact exec_eq_after rfl hw (lockWaitTimeout_ends (h := begin s.hw) hwait ha hg hb hq)

end Sys2Proof.Machine

/-! Streams, scratch, atomics and locks of a kernel (R247, R264 to R272): what each body does in the branch that runs. -/

namespace Sys2Proof.Machine

/-- A row whose body retires the instruction. -/
theorem exec_retires {s : State} {c : KCtx} {i : Instr} {op : KOp} {body : KCtx → Core → KRes} {d : Core}
    (he : exec i s = runCore i.wf (kstep op body c.e) s) (hw : i.wf = true) (hf : Fetches s c) (ho : c.x.op = op)
    (hb : body c (coreOf s) = .next d) : exec i s = .next (Retires s c d) := by
  rw [he, hw, runCore_kstep op body hf ho, hb]
  rfl

/-- The byte offset of the word that SATOM updates in its window, and its two operands: CAS compares with RD (R269). -/
def KCtx.satomByte (x : KCtx) : Nat := x.k.sreg x.x.ra * (if bitAt x.x.fn 4 then 8 else 4)
def KCtx.satomA (x : KCtx) : Nat := if x.x.fn % 8 = 4 then x.k.sreg x.x.rd else x.k.sreg x.x.rb
def KCtx.satomB (x : KCtx) : Nat := if x.x.fn % 8 = 4 then x.k.sreg x.x.rb else 0

section
variable {x : KCtx} {c : Core} {st : Stream}

/-- An access that runs, to an open unit, in a mode that has it and inside the window, goes to its line (R260, R265). -/
theorem access_runs {srcs modes : List Nat} {offset : Stream → Nat} (f : Stream → (o line : Nat) → KRes)
    (hst : stream (engine c.hw x.e) x.su = st) (hr : Runs x srcs) (ho : st.opened = true) (hm : st.mode ∈ modes) (hl : offset st < (x.window st).len) :
    x.scalar c srcs [] (x.access c modes offset f) = f st (offset st) ((x.window st).base + offset st) := by
  subst hst
  rw [scalar_runs x c srcs _ hr]
  simp only [KCtx.access, ho, List.contains_iff_mem.mpr hm, Nat.not_le.mpr hl, Bool.not_true, Bool.or_self, Bool.false_eq_true, if_false]

section
variable (hst : stream (engine c.hw x.e) x.su = st) (ho : st.opened = true)
include hst ho

/-- SNEXT reads the line at the next offset and steps by the stride (R265, R266). -/
theorem kernelSnext_reads (hr : Runs x []) (hm : st.mode = 0) (hl : st.next < (x.window st).len)
    (hup : streamUp x x.su st.next ((x.window st).base + st.next) c.hw = true) :
    let r := kernelRead x x.su st.next ((x.window st).base + st.next) c
    kernelSnext x c = .next (x.receive r.2.1 r.2.2 (r.1.onHw (fun h => setStream h x.e x.su (fun t => { t with next := stepOffset st })))) := by
  rw [kernelSnext, access_runs _ hst hr ho (by simp [hm]) hl]
  simp only [hup, Bool.not_true, Bool.false_eq_true, if_false]

/-- SGET reads the line at the offset that RA gives. -/
theorem kernelSget_reads (hr : Runs x [x.x.ra]) (hm : st.mode = 2 ∨ st.mode = 3) (hl : x.k.sreg x.x.ra < (x.window st).len)
    (hup : streamUp x x.su (x.k.sreg x.x.ra) ((x.window st).base + x.k.sreg x.x.ra) c.hw = true) :
    let r := kernelRead x x.su (x.k.sreg x.x.ra) ((x.window st).base + x.k.sreg x.x.ra) c
    kernelSget x c = .next (x.receive r.2.1 r.2.2 r.1) := by
  rw [kernelSget, access_runs _ hst hr ho (by simpa using hm) hl]
  simp only [hup, Bool.not_true, Bool.false_eq_true, if_false]

/-- SPUT holds its line back, once older copies are issued (R268). -/
theorem kernelSput_holds {d : Core} (hr : Runs x []) (hm : st.mode = 1) (hl : st.next < (x.window st).len)
    (hi : issueHeld x (fun su l => su == x.su || l.line == (x.window st).base + st.next) c = (d, true)) :
    kernelSput x c = .next (d.onHw (fun h => setStream (dropAhead h x.e ((x.window st).base + st.next)) x.e x.su (fun t =>
      { t with next := stepOffset st, held := some ⟨(x.window st).base + st.next, x.k.vreg x.x.ra, x.k.vtagged x.x.ra⟩ }))) := by
  rw [kernelSput, access_runs _ hst hr ho (by simp [hm]) hl]
  simp only [hi]

/-- SSET writes its line at once, behind a copy that a unit holds. -/
theorem kernelSset_writes {b d : Core} {line : Nat} (hr : Runs x [x.x.rb]) (hm : st.mode = 3) (hl : x.k.sreg x.x.rb < (x.window st).len)
    (hline : line = (x.window st).base + x.k.sreg x.x.rb) (hi : issueHeld x (fun _ l => l.line == line) c = (b, true))
    (hup : writeUp b.hw x.q.desc.cls line = true) (hd : recreateFor b (line / 1024) = (d, true)) :
    kernelSset x c = .next (engWrite d x.e x.j x.q.desc.cls line (x.k.vreg x.x.ra) (x.k.vtagged x.x.ra)) := by
  subst hline
  rw [kernelSset, access_runs _ hst hr ho (by simp [hm]) hl]
  simp only [hi, hup, hd, Bool.not_true, Bool.false_eq_true, if_false]

theorem kernelSpos_sequential (hr : Runs x []) (hm : st.mode < 2) : kernelSpos x c = .next (x.putS st.next c) := by
  rw [kernelSpos, scalar_runs x c _ _ hr, hst]
  simp only [ho, hm, Bool.not_true, Bool.false_eq_true, if_false, if_true]

/-- A line whose updates the unit takes now: what it held is read, the result is stored, and the job counts the line (R247, R269). -/
theorem kernelSatom_updates {d d' : Core} {old line : Nat} (hline : line = (x.window st).base + x.satomByte / 64)
    (hr : Runs x ([x.x.ra, x.x.rb] ++ (if x.x.fn % 8 = 4 then [x.x.rd] else []))) (hm : st.mode = 3) (hl : x.satomByte / 64 < (x.window st).len)
    (hi : issueHeld x (fun _ l => l.line == line) c = (d, true)) (hk : lockedBy d.hw x.e line = none) (hup : engUp d.hw x.q.desc.cls line = true)
    (hu : let m := rmwBefore d (chOf (pPc (physOf (route d.hw (line / 1024)) line))) line
      rmwLine m line (x.satomByte % 64 / 4) (bitAt x.x.fn 4) (x.x.fn % 8) x.satomA x.satomB (bitAt x.x.fn 3) (some x.q.desc.cls) m.hw.chans.nextTxn =
        (d', true, some old)) :
    kernelSatom x c = .next (setKern x.e (fun k => k.setS x.x.rd old false) (d'.onHw (fun h =>
      addBytes (dropAhead (ringCarry (countLines h (entTrack (route h (line / 1024))) x.q.desc.cls 1) (x.e / 4) (entTrack (route h (line / 1024))) 64) x.e line)
        x.j 64))) := by
  subst hline
  have hoperands : (if x.x.fn % 8 = 4 then (x.k.sreg x.x.rd, x.k.sreg x.x.rb) else (x.k.sreg x.x.rb, 0)) = (x.satomA, x.satomB) := by
    unfold KCtx.satomA KCtx.satomB
    split <;> rfl
  simp only [kernelSatom, hoperands]
  rw [access_runs _ hst hr ho (by simp [hm]) hl]
  simp only [KCtx.satomByte] at hi hk hup hu
  simp only [hi, hk, hup, hu, Option.isSome_none, Bool.not_true, Bool.false_eq_true, if_false]
  rfl

/-- A lock of a line that no one holds, above the locks held, is taken (R270). -/
theorem kernelLock_takes {d : Core} {line : Nat} (hr : Runs x [x.x.ra]) (hm : st.mode < 4) (hl : x.k.sreg x.x.ra < (x.window st).len)
    (hline : line = (x.window st).base + x.k.sreg x.x.ra) (hk : ∀ k ∈ (engine c.hw x.e).locks, lockLine k ≠ line ∧ k ≤ lockKey c.hw line)
    (hn : (engine c.hw x.e).locks.length < 16) (hi : issueHeld x (fun _ l => l.line == line) c = (d, true)) (hfree : lockedBy d.hw x.e line = none) :
    kernelLock x c = .next (d.onHw (fun h => setEngine h x.e { engine h x.e with locks := (engine h x.e).locks ++ [lockKey c.hw line] })) := by
  subst hline
  have hnew : (engine c.hw x.e).locks.any (fun k => lockLine k == (x.window st).base + x.k.sreg x.x.ra) = false :=
    List.any_eq_false.mpr fun k hmem => by simpa using (hk k hmem).1
  have horder : (engine c.hw x.e).locks.any (fun k => decide (lockKey c.hw ((x.window st).base + x.k.sreg x.x.ra) < k)) = false :=
    List.any_eq_false.mpr fun k hmem => by simpa using (hk k hmem).2
  rw [kernelLock, access_runs _ hst hr ho (by simp; omega) hl]
  simp only [hnew, horder, Nat.not_le.mpr hn, hi, hfree, Option.isSome_none, Bool.false_eq_true, if_false]

theorem kernelUnlock_releases (hr : Runs x [x.x.ra]) (hm : st.mode < 4) (hl : x.k.sreg x.x.ra < (x.window st).len) :
    kernelUnlock x c = .next (c.onHw (fun h =>
      setEngine h x.e { engine h x.e with locks := (engine h x.e).locks.filter (fun k => lockLine k != (x.window st).base + x.k.sreg x.x.ra) })) := by
  rw [kernelUnlock, access_runs _ hst hr ho (by simp; omega) hl]

end

/-- SOPEN on a window that is present and, in a writing mode, writable opens the unit once its held line is issued (R264, R268). -/
theorem kernelSopen_opens {w : Window} {mode : Nat} {d : Core} (hmode : mode = field x.x.fn 3 2) (hwin : w = (windowsOf x.q.desc).getD (x.x.fn % 4) {})
    (hr : Runs x (if mode < 2 then [x.x.ra] else [])) (hl : w.len ≠ 0) (hwr : mode % 2 = 1 → w.wr = true)
    (hi : issueHeld x (fun su _ => su == x.x.rd) c = (d, true)) :
    kernelSopen x c = .next (d.onHw (fun h => setStream (closeStream x.e x.x.rd h) x.e x.x.rd (fun _ =>
      { opened := true, win := x.x.fn % 4, mode := mode, next := if mode < 2 then x.k.sreg x.x.ra else 0, stride := if mode < 2 then x.x.imm else 0 }))) := by
  subst hmode hwin
  have hwrites : (decide (field x.x.fn 3 2 % 2 = 1) && !((windowsOf x.q.desc).getD (x.x.fn % 4) {}).wr) = false := by simpa using hwr
  rw [kernelSopen, scalar_runs x c _ _ hr]
  simp only [if_neg hl, hwrites, hi, Bool.false_eq_true, if_false]

section
variable (hrange : x.address + scratchSize x.x.fn ≤ 524288) (halign : x.address % scratchSize x.x.fn = 0)
include hrange halign

/-- An aligned access inside the scratch memory goes through (R271). -/
theorem scratch_inside (f : (a n : Nat) → KRes) : x.scratch f = f x.address (scratchSize x.x.fn) := by
  simp only [KCtx.scratch, Nat.not_lt.mpr hrange, halign, bne_self_eq_false, Bool.false_eq_true, if_false]

theorem kernelLoad_line (hn : scratchSize x.x.fn = 64) (hr : Runs x (x.x.ra :: x.srcB)) :
    kernelLoad x c = .next (setKern x.e (fun k =>
      k.setV x.x.rd (BitVec.ofNat 512 (leNat ((span x.address (scratchSize x.x.fn)).map (fun i => tget 0#8 x.k.scratch i))))
        (tget false x.k.scratchPoison (x.address / 64))) c) := by
  rw [kernelLoad, scalar_runs x c _ _ hr, scratch_inside hrange halign]
  simp only [if_pos hn]

theorem kernelLoad_scalar (hn : scratchSize x.x.fn ≠ 64) (hr : Runs x (x.x.ra :: x.srcB)) :
    let v := leNat ((span x.address (scratchSize x.x.fn)).map (fun i => tget 0#8 x.k.scratch i))
    kernelLoad x c = .next (setKern x.e (fun k =>
      k.setS x.x.rd (if bitAt x.x.fn 4 then ofSigned 64 (toSigned (8 * scratchSize x.x.fn) v) else v)
        (tget false x.k.scratchPoison (x.address / 64))) c) := by
  rw [kernelLoad, scalar_runs x c _ _ hr, scratch_inside hrange halign]
  simp only [if_neg hn]

theorem kernelStore_line (hn : scratchSize x.x.fn = 64) (hr : Runs x (x.x.ra :: x.srcB)) :
    kernelStore x c = .next (setKern x.e (fun k =>
      { k with scratch := ((span x.address (scratchSize x.x.fn)).zip (leBytes (scratchSize x.x.fn) (x.k.vreg x.x.rd).toNat)).foldl (fun t b => tput 0#8 t b.1 b.2) k.scratch
               scratchPoison := tput false k.scratchPoison (x.address / 64) (k.vtagged x.x.rd) }) c) := by
  rw [kernelStore, scratch_inside hrange halign]
  simp only [hn, decide_true, if_true, List.append_nil, scalar_runs x c _ _ hr]

theorem kernelStore_scalar (hn : scratchSize x.x.fn ≠ 64) (hr : Runs x (x.x.ra :: x.srcB ++ [x.x.rd])) :
    kernelStore x c = .next (setKern x.e (fun k =>
      { k with scratch := ((span x.address (scratchSize x.x.fn)).zip (leBytes (scratchSize x.x.fn) (x.k.sreg x.x.rd))).foldl (fun t b => tput 0#8 t b.1 b.2) k.scratch }) c) := by
  have hline : decide (scratchSize x.x.fn = 64) = false := decide_eq_false hn
  rw [kernelStore, scratch_inside hrange halign]
  simp only [hline, Bool.false_eq_true, if_false, scalar_runs x c _ _ hr]

end

end

/-- Settles O55: each row's body, on the state that its clause describes, takes the branch in which the instruction retires. -/
theorem kernelMemoryComplete : Obligations.KernelMemoryComplete := by
  unfold Obligations.KernelMemoryComplete
  intro s c he hf st win
  have hw : decide (c.e < 32) = true := decide_eq_true he
  refine ⟨?_, ?_, ?_, ?_, ?_, ?_, ?_, ?_, ?_, ?_, ?_, ?_⟩
  · intro hop hr ho hm hl hup
    exact exec_retires rfl hw hf hop (kernelSnext_reads (c := coreOf s) rfl ho hr hm hl hup)
  · intro hop hr ho hm hl hup
    exact exec_retires rfl hw hf hop (kernelSget_reads (c := coreOf s) rfl ho hr hm hl hup)
  · intro d hop hr ho hm hl hi
    exact exec_retires rfl hw hf hop (kernelSput_holds (c := coreOf s) rfl ho hr hm hl hi)
  · intro b d hop hr ho hm hl line hi hup hd
    exact exec_retires rfl hw hf hop (kernelSset_writes (c := coreOf s) rfl ho hr hm hl rfl hi hup hd)
  · intro hop hr ho
    exact exec_retires rfl hw hf hop ((scalar_runs c (coreOf s) _ _ hr).trans (if_pos ho))
  · intro hop hr ho hm
    exact exec_retires rfl hw hf hop (kernelSpos_sequential (c := coreOf s) rfl ho hr hm)
  · intro d hop mode w hr hl hwr hi
    exact exec_retires rfl hw hf hop (kernelSopen_opens rfl rfl hr hl hwr hi)
  · intro a n bytes hrange halign
    refine ⟨fun hop hr => ⟨fun hn => ?_, fun hn => ?_⟩, fun hop => ⟨fun hn hr => ?_, fun hn hr => ?_⟩⟩
    · exact exec_retires rfl hw hf hop (kernelLoad_line hrange halign hn hr)
    · exact exec_retires rfl hw hf hop (kernelLoad_scalar hrange halign hn hr)
    · exact exec_retires rfl hw hf hop (kernelStore_line hrange halign hn hr)
    · exact exec_retires rfl hw hf hop (kernelStore_scalar hrange halign hn hr)
  · intro d d' old hop hr ho hm wide size i line a b hl hi hfree hup m hu
    exact exec_retires rfl hw hf hop (kernelSatom_updates (c := coreOf s) rfl ho rfl hr hm hl hi hfree hup hu)
  · intro d hop hr ho hm hl line g hk hn hi hfree
    exact exec_retires rfl hw hf hop (kernelLock_takes (c := coreOf s) rfl ho hr hm hl rfl hk hn hi hfree)
  · intro hop hr ho hm hl
    exact exec_retires rfl hw hf hop (kernelUnlock_releases (c := coreOf s) rfl ho hr hm hl)
  · intro hop hr
    exact exec_retires rfl hw hf hop (scalar_runs c (coreOf s) _ _ hr)

end Sys2Proof.Machine

/-! Kernel rows: the ending of an instruction by what its body answers, and the branches in which the shared operations skip, run or trap
(R260, R265, R271, R273). -/

namespace Sys2Proof.Machine

/-- A row of Table 9.4: its command runs the body where the engine fetches the row's instruction. -/
def KernelRow (mk : Nat → Instr) (op : KOp) (body : KCtx → Core → KRes) : Prop :=
  ∀ (e : Nat) (s : State), exec (mk e) s = runCore (mk e).wf (kstep op body e) s

section
variable {s : State} {c : KCtx} {mk : Nat → Instr} {op : KOp} {body : KCtx → Core → KRes} {d : Core}
variable (he : KernelRow mk op body) (hw : (mk c.e).wf = true) (hf : Fetches s c) (ho : c.x.op = op)
include he hw hf ho

theorem KernelRow.retires (hb : body c (coreOf s) = .next d) : exec (mk c.e) s = .next (Retires s c d) :=
  exec_retires (he c.e s) hw hf ho hb

/-- A row whose body writes the kernel's registers and does nothing else. -/
theorem KernelRow.writes {f : Kern → Kern} (hb : body c (coreOf s) = .next (setKern c.e f (coreOf s))) :
    exec (mk c.e) s = .next (Writes s c f) :=
  he.retires hw hf ho hb

theorem KernelRow.jumps {pc : Nat} (hb : body c (coreOf s) = .jump d pc) : exec (mk c.e) s = .next (afterCore s (retire c.e pc d)) := by
  rw [he, hw, runCore_kstep op body hf ho, hb]

theorem KernelRow.traps {code : Nat} (hb : body c (coreOf s) = .trap code) : exec (mk c.e) s = .next (Traps s c code) := by
  rw [he, hw, runCore_kstep op body hf ho, hb]
  rfl

theorem KernelRow.waits (hb : body c (coreOf s) = .wait d) : exec (mk c.e) s = .next (afterCore s d) := by
  rw [he, hw, runCore_kstep op body hf ho, hb]

end

section
variable {x : KCtx} (c : Core)

/-- A scalar instruction whose guard bit is clear does nothing (R260). -/
theorem scalar_suppressed (srcs vsrcs : List Nat) (f : KRes) (hg : bitAt x.guard 0 = false) : x.scalar c srcs vsrcs f = .next c := by
  simp only [KCtx.scalar, hg, Bool.not_false, if_true]

/-- One that runs and reads a tagged register traps POISON_USE (R273). -/
theorem scalar_tagged {srcs : List Nat} (vsrcs : List Nat) (f : KRes) (hg : bitAt x.guard 0 = true) (ht : srcs.any x.k.staged = true) :
    x.scalar c srcs vsrcs f = .trap 7 := by
  simp only [KCtx.scalar, hg, ht, Bool.not_true, Bool.true_or, Bool.false_eq_true, if_false, if_true]

theorem runs_nil (hg : bitAt x.guard 0 = true) : Runs x [] := ⟨hg, rfl⟩

theorem runs_of_subset {srcs all : List Nat} (hg : bitAt x.guard 0 = true) (h : all.any x.k.staged = false) (hsub : srcs ⊆ all) : Runs x srcs :=
  ⟨hg, List.any_eq_false.mpr fun r hr => List.any_eq_false.mp h r (hsub hr)⟩

/-- An access to a unit that is not open traps STREAM_STATE (R265). -/
theorem access_closed (modes : List Nat) (offset : Stream → Nat) (f : Stream → (o line : Nat) → KRes)
    (ho : (stream (engine c.hw x.e) x.su).opened = false) : x.access c modes offset f = .trap 6 := by
  simp only [KCtx.access, ho, Bool.not_false, Bool.true_or, if_true]

/-- An access beyond the window of a unit that is open in a mode for it traps WINDOW_RANGE (R265). -/
theorem access_beyond {st : Stream} {modes : List Nat} {offset : Stream → Nat} (f : Stream → (o line : Nat) → KRes)
    (hst : stream (engine c.hw x.e) x.su = st) (ho : st.opened = true) (hm : st.mode ∈ modes) (hl : (x.window st).len ≤ offset st) :
    x.access c modes offset f = .trap 3 := by
  subst hst
  simp only [KCtx.access, ho, List.contains_iff_mem.mpr hm, Bool.not_true, Bool.or_self, Bool.false_eq_true, if_false, if_pos hl]

/-- A scratch access past the last byte traps SCRATCH_RANGE, aligned or not (R271, assumption 96). -/
theorem scratch_beyond (f : (a n : Nat) → KRes) (h : 524288 < x.address + scratchSize x.x.fn) : x.scratch f = .trap 8 := by
  simp only [KCtx.scratch, if_pos h]

/-- One inside that is not aligned to its size traps ALIGN (R271). -/
theorem scratch_unaligned (f : (a n : Nat) → KRes) (h : x.address + scratchSize x.x.fn ≤ 524288) (ha : x.address % scratchSize x.x.fn ≠ 0) :
    x.scratch f = .trap 9 := by
  simp only [KCtx.scratch, Nat.not_lt.mpr h, if_false, bne_iff_ne, ne_eq, ha, not_false_eq_true, if_true]

end

end Sys2Proof.Machine

/-! System and control instructions of a kernel (R256, R257, R261, R274 to R276). -/

namespace Sys2Proof.Machine

/-- MILESTONE triggers, and counts where the trigger is not idle or not enabled for engines (R396). -/
theorem kernelMilestone_runs {x : KCtx} (c : Core) (hr : Runs x []) :
    kernelMilestone x c = .next (c.onHw (fun h =>
      if obj h 0x9000 2 = 1 ∧ bitAt (obj h 0x9000 3) 3 = true then milestone h 4 x.e else bump (milestone h 4 x.e) 0x6200 7)) := by
  have harmed (h : Hw) : (obj h 0x9000 2 != 1 || !bitAt (obj h 0x9000 3) 3) = !decide (obj h 0x9000 2 = 1 ∧ bitAt (obj h 0x9000 3) 3 = true) := by
    by_cases h1 : obj h 0x9000 2 = 1 <;> simp [h1]
  simp only [kernelMilestone, scalar_runs x c _ _ hr, harmed, Bool.not_eq_true', decide_eq_false_iff_not, ite_not]

theorem kernelIllegal_traps {h : Hw} {e j i : Nat} {q : Job} (hk : kernelAt h e = some (j, i, q, .illegal)) :
    kernelIllegal e h = kernelTrap e j q (engine h e).k.pc 1 h := by
  simp only [kernelIllegal, hk]

theorem kernelPcRange_traps {h : Hw} {e j i : Nat} {q : Job} (hk : kernelAt h e = some (j, i, q, .beyond)) :
    kernelPcRange e h = kernelTrap e j q (engine h e).k.pc 2 h := by
  simp only [kernelPcRange, hk]

/-- Settles O52: each row's body, where its guard lets it run, answers with the ending that its clause states. -/
theorem kernelControlComplete : Obligations.KernelControlComplete := by
  unfold Obligations.KernelControlComplete
  refine ⟨fun s c he hf => ?_, fun s e j i q hw hk => ?_, fun s e j i q hw hk => ?_⟩
  · have hw : decide (c.e < 32) = true := decide_eq_true he
    refine ⟨fun ho => ?_, fun ho => ?_, fun hr => ⟨fun ho => ?_, fun ho => ?_, fun ho => ?_, fun ho => ?_, fun ho => ?_, fun ho => ?_, fun ho => ?_⟩,
      fun hr => ⟨fun ho => ?_, fun ho => ?_⟩⟩
    · exact KernelRow.retires (mk := .kNop) (fun _ _ => rfl) hw hf ho rfl
    · exact KernelRow.retires (mk := .kFence) (fun _ _ => rfl) hw hf ho rfl
    · exact KernelRow.waits (mk := .kEnd) (fun _ _ => rfl) hw hf ho (scalar_runs c _ _ _ hr)
    · exact KernelRow.waits (mk := .kEndp) (fun _ _ => rfl) hw hf ho (scalar_runs c _ _ _ hr)
    · exact KernelRow.traps (mk := .kTrap) (fun _ _ => rfl) hw hf ho (scalar_runs c _ _ _ hr)
    · exact KernelRow.retires (mk := .kMilestone) (fun _ _ => rfl) hw hf ho (kernelMilestone_runs _ hr)
    · exact KernelRow.writes (mk := .kTime) (fun _ _ => rfl) hw hf ho (scalar_runs c _ _ _ hr)
    · exact KernelRow.jumps (mk := .kBr) (fun _ _ => rfl) hw hf ho (scalar_runs c _ _ _ hr)
    · exact KernelRow.jumps (mk := .kCall) (fun _ _ => rfl) hw hf ho (scalar_runs c _ _ _ hr)
    · exact KernelRow.jumps (mk := .kJr) (fun _ _ => rfl) hw hf ho (scalar_runs c _ _ _ hr)
    · exact KernelRow.jumps (mk := .kJalr) (fun _ _ => rfl) hw hf ho (scalar_runs c _ _ _ hr)
  · exact exec_eq_after rfl hw (kernelIllegal_traps (h := begin s.hw) hk)
  · exact exec_eq_after rfl hw (kernelPcRange_traps (h := begin s.hw) hk)

end Sys2Proof.Machine

/-! Guards, tags and traps of a kernel (R260, R265, R271, R273, R274). -/

namespace Sys2Proof.Machine

section
variable {s : State} {c : KCtx} {mk : Nat → Instr} {op : KOp} (hw : (mk c.e).wf = true) (hf : Fetches s c) (ho : c.x.op = op)
include hw hf ho

/-- A scalar integer row, suppressed by its guard or stopped by a tag on RA. -/
theorem integerRow_guarded {f : (w a b : Nat) → Nat} (he : KernelRow mk op (intOp f)) (hm : c.x.maj ≠ 4) :
    (bitAt c.guard 0 = false → exec (mk c.e) s = .next (Retires s c (coreOf s))) ∧
    (bitAt c.guard 0 = true → c.k.staged c.x.ra = true → exec (mk c.e) s = .next (Traps s c 7)) := by
  refine ⟨fun hg => he.retires hw hf ho ?_, fun hg ht => he.traps hw hf ho ?_⟩
  · exact (if_neg hm).trans (scalar_suppressed _ _ _ _ hg)
  · exact (if_neg hm).trans (scalar_tagged _ _ _ hg (by simp [ht]))

/-- A sequential access of mode `m`, to a closed unit or beyond its window. -/
theorem streamRow_traps {m : Nat} {f : KCtx → Core → Stream → (o line : Nat) → KRes}
    (he : KernelRow mk op (fun x d => x.scalar d [] [] (x.access d [m] (fun t => t.next) (f x d)))) (hg : bitAt c.guard 0 = true)
    {st : Stream} (hst : stream (engine s.hw c.e) c.su = st) :
    (st.opened = false → exec (mk c.e) s = .next (Traps s c 6)) ∧
    (st.opened = true → st.mode = m → (c.window st).len ≤ st.next → exec (mk c.e) s = .next (Traps s c 3)) := by
  subst hst
  refine ⟨fun hclosed => he.traps hw hf ho ?_, fun hopen hm hl => he.traps hw hf ho ?_⟩
  · exact (scalar_runs c _ _ _ (runs_nil hg)).trans (access_closed (coreOf s) _ _ _ hclosed)
  · exact (scalar_runs c _ _ _ (runs_nil hg)).trans (access_beyond (coreOf s) _ rfl hopen (List.mem_singleton.mpr hm) hl)

/-- A scratch access beyond the memory, or not aligned. -/
theorem scratchRow_traps {srcs : KCtx → List Nat} {f : KCtx → Core → (a n : Nat) → KRes}
    (he : KernelRow mk op (fun x d => x.scalar d (srcs x) [] (x.scratch (f x d)))) (hr : Runs c (srcs c)) :
    (524288 < c.address + scratchSize c.x.fn → exec (mk c.e) s = .next (Traps s c 8)) ∧
    (c.address + scratchSize c.x.fn ≤ 524288 → c.address % scratchSize c.x.fn ≠ 0 → exec (mk c.e) s = .next (Traps s c 9)) := by
  refine ⟨fun h => he.traps hw hf ho ?_, fun h ha => he.traps hw hf ho ?_⟩
  · exact (scalar_runs c _ _ _ hr).trans (scratch_beyond _ h)
  · exact (scalar_runs c _ _ _ hr).trans (scratch_unaligned _ h ha)

end

/-- Settles O56: the rows that a clause names share one operation, whose guard, tag, stream and scratch checks come before its effect. -/
theorem kernelGuardsAndTraps : Obligations.KernelGuardsAndTraps := by
  unfold Obligations.KernelGuardsAndTraps
  intro s c mk he hf
  have hw : decide (c.e < 32) = true := decide_eq_true he
  refine ⟨fun hrow hm => ?_, fun hrow hg => ?_, fun hrow hg ht => ?_⟩
  · obtain ⟨ho, rfl⟩ | ⟨ho, rfl⟩ | ⟨ho, rfl⟩ | ⟨ho, rfl⟩ := hrow
    · exact integerRow_guarded hw hf ho (fun _ _ => rfl) hm
    · exact integerRow_guarded hw hf ho (fun _ _ => rfl) hm
    · exact integerRow_guarded hw hf ho (fun _ _ => rfl) hm
    · exact integerRow_guarded hw hf ho (fun _ _ => rfl) hm
  · obtain ⟨ho, rfl⟩ | ⟨ho, rfl⟩ := hrow
    · rw [ho, if_pos rfl]
      exact streamRow_traps (mk := .kSnext) hw hf ho (fun _ _ => rfl) hg rfl
    · rw [ho, if_neg (by decide)]
      exact streamRow_traps (mk := .kSput) hw hf ho (fun _ _ => rfl) hg rfl
  · obtain ⟨ho, rfl⟩ | ⟨ho, rfl⟩ := hrow
    · exact scratchRow_traps hw hf ho (fun _ _ => rfl) (runs_of_subset hg ht (List.subset_append_left _ _))
    · refine scratchRow_traps hw hf ho (fun _ _ => rfl) (runs_of_subset hg ht ?_)
      split <;> simp

end Sys2Proof.Machine

/-! Integer instructions of a kernel, scalar and lane by lane (R257, R262). -/

namespace Sys2Proof.Machine

/-- A row of `intOp` has the two forms of Table 9.3. -/
theorem integerForms_of_row {mk : Nat → Instr} {op : KOp} {f : (w a b : Nat) → Nat} (he : KernelRow mk op (intOp f)) : IntegerForms mk op f := by
  intro s c hw hf ho
  refine ⟨fun hm hr => he.writes hw hf ho ?_, fun hm hr => he.writes hw hf ho ?_⟩
  · exact (if_neg hm).trans (scalar_runs c _ _ _ hr)
  · exact (if_pos hm).trans (vector_runs c _ _ _ _ _ hr)

theorem sreg_zero (k : Kern) : k.sreg 0 = 0 := if_pos rfl

theorem sreg_setS_same (k : Kern) {r : Nat} (v : Nat) (tag : Bool) (hr : r ≠ 0) : (k.setS r v tag).sreg r = v % 2 ^ 64 := by
  simp only [Kern.sreg, Kern.setS, if_neg hr, tget_tput_same]

/-! Lanes of a line are its digits in base 2^w. -/

section
variable {b n : Nat} {g : Nat → Nat} (hg : ∀ i, g i < b)

theorem sum_range_eq_ofDigits (b n : Nat) (g : Nat → Nat) :
    ((List.range n).map (fun i => g i * b ^ i)).sum = Nat.ofDigits b ((List.range n).map g) := by
  induction n with
  | zero => rfl
  | succ n ih => simp [List.range_succ, Nat.ofDigits_append, ih, Nat.mul_comm]

include hg

theorem map_range_lt : ∀ v ∈ (List.range n).map g, v < b := by
  intro v hv
  obtain ⟨i, -, rfl⟩ := List.mem_map.mp hv
  exact hg i

theorem sum_range_lt_pow (hb : 1 < b) : ((List.range n).map (fun i => g i * b ^ i)).sum < b ^ n := by
  rw [sum_range_eq_ofDigits]
  simpa using Nat.ofDigits_lt_base_pow_length hb (map_range_lt (n := n) hg)

/-- A digit of a sum of digits. -/
theorem sum_range_div_pow_mod {i : Nat} (hi : i < n) : ((List.range n).map (fun i => g i * b ^ i)).sum / b ^ i % b = g i := by
  have hb : 0 < b := Nat.zero_lt_of_lt (hg 0)
  rw [sum_range_eq_ofDigits, Nat.ofDigits_div_pow_eq_ofDigits_drop i hb _ (map_range_lt hg), List.drop_eq_getElem_cons (by simpa using hi),
    Nat.ofDigits_cons, Nat.add_mul_mod_self_left, List.getElem_map, List.getElem_range, Nat.mod_eq_of_lt (hg i)]

end

theorem laneAt_lt (l : Line) (w i : Nat) : laneAt l w i < 2 ^ w := Nat.mod_lt _ (Nat.two_pow_pos w)

/-- What a lane of `putLanes` holds. -/
def laneOr (old : Line) (w : Nat) (on : List Nat) (f : Nat → Nat) (i : Nat) : Nat := if on.contains i then f i % 2 ^ w else laneAt old w i

theorem laneOr_lt (old : Line) (w : Nat) (on : List Nat) (f : Nat → Nat) (i : Nat) : laneOr old w on f i < 2 ^ w := by
  unfold laneOr
  split
  · exact Nat.mod_lt _ (Nat.two_pow_pos w)
  · exact laneAt_lt old w i

/-- The number of a line with some lanes replaced: lanes of w bits that fill it do not overflow it. -/
theorem toNat_putLanes (old : Line) {w : Nat} (on : List Nat) (f : Nat → Nat) (hw : 0 < w) (hfill : w * (512 / w) = 512) :
    (putLanes old w on f).toNat = ((List.range (512 / w)).map (fun i => laneOr old w on f i * (2 ^ w) ^ i)).sum := by
  have hlt := sum_range_lt_pow (n := 512 / w) (laneOr_lt old w on f) (Nat.one_lt_two_pow hw.ne')
  rw [← Nat.pow_mul, hfill] at hlt
  simp only [← Nat.pow_mul] at hlt ⊢
  exact (BitVec.toNat_ofNat _ _).trans (Nat.mod_eq_of_lt hlt)

/-- An enabled lane takes its value, wrapped to the lane; any other stays (R260, R262). -/
theorem laneAt_putLanes (old : Line) {w i : Nat} (on : List Nat) (f : Nat → Nat) (hw : w = 32 ∨ w = 64) (hi : i < 512 / w) :
    laneAt (putLanes old w on f) w i = if on.contains i then f i % 2 ^ w else laneAt old w i := by
  have hfill : 0 < w ∧ w * (512 / w) = 512 := by
    obtain rfl | rfl := hw <;> decide
  rw [laneAt, toNat_putLanes old on f hfill.1 hfill.2, Nat.pow_mul, sum_range_div_pow_mod (laneOr_lt old w on f) hi, laneOr]

/-- The least integer of w bits divided by −1 gives itself, with remainder 0 (R262). -/
theorem least_div_neg_one {w : Nat} (hw : w = 32 ∨ w = 64) :
    ofSigned w ((toSigned w (2 ^ (w - 1))).tdiv (toSigned w (2 ^ w - 1))) = 2 ^ (w - 1) ∧
    ofSigned w ((toSigned w (2 ^ (w - 1))).tmod (toSigned w (2 ^ w - 1))) = 0 := by
  obtain rfl | rfl := hw <;> decide

/-- Arithmetic modulo 2^w is that of words of w bits. -/
theorem wrap_eq_bitVec {w a b : Nat} (ha : a < 2 ^ w) (hb : b < 2 ^ w) :
    (a + b) % 2 ^ w = (BitVec.ofNat w a + BitVec.ofNat w b).toNat ∧ (a + 2 ^ w - b) % 2 ^ w = (BitVec.ofNat w a - BitVec.ofNat w b).toNat ∧
    a * b % 2 ^ w = (BitVec.ofNat w a * BitVec.ofNat w b).toNat := by
  have hsub : a + 2 ^ w - b = 2 ^ w - b + a := by omega
  simp only [BitVec.toNat_add, BitVec.toNat_sub, BitVec.toNat_mul, BitVec.toNat_ofNat, Nat.mod_eq_of_lt ha, Nat.mod_eq_of_lt hb, hsub, true_and]

/-- Settles O53: all nineteen rows run `intOp`, whose two forms are said once; lanes are the digits of a line. -/
theorem kernelIntegerComplete : Obligations.KernelIntegerComplete := by
  unfold Obligations.KernelIntegerComplete
  refine ⟨?_, fun k r v tag => ⟨sreg_zero _, sreg_setS_same k v tag⟩, fun old w i on f hw hi => laneAt_putLanes old on f hw hi,
    fun w hw => least_div_neg_one hw, fun w a b _ ha hb => wrap_eq_bitVec ha hb⟩
  and_intros <;> exact integerForms_of_row fun _ _ => rfl

end Sys2Proof.Machine

/-! Moves, compares, floating point, lanes and predicates of a kernel (R254, R257, R260, R261, R263): the forms of each shared operation. -/

namespace Sys2Proof.Machine

section
variable {mk : Nat → Instr} {op : KOp}

theorem scalarForms_of_row {srcs : KCtx → List Nat} {v : KCtx → Nat}
    (he : KernelRow mk op (fun x d => x.scalar d (srcs x) [] (.next (x.putS (v x) d)))) : ScalarForms mk op srcs v :=
  fun _ c hw hf ho hr => he.writes hw hf ho (scalar_runs c _ _ _ hr)

theorem compareForms_of_row {f : (w a b : Nat) → Bool} (he : KernelRow mk op (cmpOp f)) : CompareForms mk op f := by
  intro s c hw hf ho
  refine ⟨fun hm hr => he.writes hw hf ho ?_, fun hm hr => he.writes hw hf ho ?_⟩
  · exact (if_neg hm).trans (scalar_runs c _ _ _ hr)
  · exact (if_pos hm).trans (vector_runs c _ _ _ _ _ hr)

theorem floatForms_of_row {d b : Bool} {f : FpFmt → (d a b : Nat) → Nat} (he : KernelRow mk op (fpOp d b f)) : FloatForms mk op d b f := by
  intro s c hw hf ho
  refine ⟨fun hm hr => he.writes hw hf ho ?_, fun hm hr => he.writes hw hf ho ?_⟩
  · exact (if_neg hm).trans (scalar_runs c _ _ _ hr)
  · exact (if_pos hm).trans (vector_runs c _ _ _ _ _ hr)

theorem reduceForms_of_row {fi : (w a b : Nat) → Nat} {ff : FpFmt → (a b : Nat) → Nat} {minmax : Bool}
    (he : KernelRow mk op (reduceOp fi ff minmax)) : ReduceForms mk op fi ff minmax :=
  fun _ c hw hf ho hr => he.writes hw hf ho (by rw [reduceOp, vector_runs c _ _ _ _ _ hr]; rfl)

theorem laneForms_of_row {w : KCtx → Nat} {srcs : KCtx → List Nat} {v : KCtx → Nat → Nat}
    (he : KernelRow mk op (fun x d => x.vector d (w x) (srcs x) [] (fun on => .next (x.putV (w x) on false (v x) d)))) : LaneForms mk op w srcs v :=
  fun _ c hw hf ho hr => he.writes hw hf ho (vector_runs c _ _ _ _ _ hr)

theorem predicateForms_of_row {srcs : KCtx → List Nat} {v : KCtx → Nat} (he : KernelRow mk op (fun x d => x.bits d (srcs x) (v x))) :
    PredicateForms mk op srcs v :=
  fun _ c hw hf ho hg ht => he.writes hw hf ho (bits_runs c _ _ _ hg ht)

end

section
variable {x : KCtx} {n : Nat} (hn : n ∈ x.lanes x.laneW)
include hn

/-- An enabled lane is one that a line has. -/
theorem lt_of_mem_lanes : n < 512 / x.laneW := List.mem_range.mp (List.mem_filter.mp hn).1

/-- EXT of an enabled lane (R261). -/
theorem kernelExt_enabled (c : Core) (hx : x.k.sreg x.x.rb = n) (hr : RunsLanes x x.laneW [x.x.rb] [x.x.ra]) :
    kernelExt x c = .next (x.putS (laneAt (x.k.vreg x.x.ra) x.laneW n) c) := by
  simp only [kernelExt, vector_runs x c _ _ _ _ hr, hx, Nat.not_le.mpr (lt_of_mem_lanes hn), List.contains_iff_mem.mpr hn, if_false, if_true]

/-- INS into an enabled lane: one lane is never the whole register, so the tag stays (R272). -/
theorem kernelIns_enabled (c : Core) (hx : x.k.sreg x.x.rb = n) (hr : RunsLanes x x.laneW [x.x.ra, x.x.rb] []) :
    kernelIns x c = .next (setKern x.e (fun k =>
      k.setV x.x.rd (putLanes (k.vreg x.x.rd) x.laneW [n] (fun _ => x.k.sreg x.x.ra)) (k.vtagged x.x.rd)) c) := by
  have hone : 1 ≠ 512 / x.laneW := by
    unfold KCtx.laneW
    split <;> decide
  simp only [kernelIns, vector_runs x c _ _ _ _ hr, hx, Nat.not_le.mpr (lt_of_mem_lanes hn), List.contains_iff_mem.mpr hn, if_false, if_true,
    KCtx.putV, List.length_singleton, if_neg hone]

end

/-- Settles O54: each group of rows shares one operation, whose forms are said once; MOV, EXT and INS of lanes stand alone. -/
theorem kernelDataComplete : Obligations.KernelDataComplete := by
  unfold Obligations.KernelDataComplete
  refine ⟨?_, ?_, ?_, ?_, ⟨?_, ?_, ?_, ?_, ?_, ?_⟩, ?_⟩
  · and_intros <;> exact scalarForms_of_row fun _ _ => rfl
  · and_intros <;> exact compareForms_of_row fun _ _ => rfl
  · and_intros <;> exact floatForms_of_row fun _ _ => rfl
  · and_intros <;> exact reduceForms_of_row fun _ _ => rfl
  · exact laneForms_of_row fun _ _ => rfl
  · exact laneForms_of_row fun _ _ => rfl
  · exact laneForms_of_row fun _ _ => rfl
  · intro s c hw hf ho hl
    exact KernelRow.writes (mk := .kVmov) (fun _ _ => rfl) hw hf ho (vector_runs c _ _ _ _ _ ⟨hl, rfl, rfl⟩)
  · intro s c hw hf ho hr hn
    exact KernelRow.writes (mk := .kExt) (fun _ _ => rfl) hw hf ho (kernelExt_enabled hn _ rfl hr)
  · intro s c hw hf ho hr hn
    exact KernelRow.writes (mk := .kIns) (fun _ _ => rfl) hw hf ho (kernelIns_enabled hn _ rfl hr)
  · and_intros <;> exact predicateForms_of_row fun _ _ => rfl

end Sys2Proof.Machine

/-! Write-back and scrub events, by the branch they take (R285, R286, R291 to R294). -/

namespace Sys2Proof.Machine

/-- A correction that a newer write has overtaken is dropped and counted (R286). -/
theorem writeBack_stale {ch : Nat} {e : Correction} {rest : List Correction} {h : Hw} (hc : (chSt h ch).corr = e :: rest) (hs : e.stale = true) :
    writeBack ch h = bump (setCh h ch { chSt h ch with corr := rest }) 0x9800 6 (pPc e.phys) := by
  simp only [writeBack, hc, hs, if_true]

/-- Any other enters a write queue that has room and holds no write to its line (R285). -/
theorem writeBack_queues {ch : Nat} {e : Correction} {rest : List Correction} {h : Hw} (hc : (chSt h ch).corr = e :: rest)
    (hs : e.stale = false) (hq : wqFind h e.phys = none) (hl : (pcSt h (pPc e.phys)).wq.length < 32) :
    writeBack ch h = queueLine (setCh h ch { chSt h ch with corr := rest }) { phys := e.phys, data := e.data, poison := e.poison, check := e.check } := by
  simp only [writeBack, hc, hs, hq, Nat.not_le.mpr hl, Option.isSome_none, decide_false, Bool.or_self, Bool.false_eq_true, if_false]

/-- The slot in which the position of a pass that is due lies (R291). -/
def patrolSlot (h : Hw) (pc : Nat) : Nat := 16 * (obj h 0x9900 4 pc / 16 / 4) + obj h 0x9900 4 pc % 16

section
variable {pc : Nat} {c : Core} (ha : (chSt c.hw (chOf pc)).alert = none)
include ha

/-- The due position of a pass lies in a retired or parked slot and is skipped (R291). -/
theorem patrolRow_skips (upsets : List (Nat × BitVec 576)) (hd : patrolDue c.hw pc = true)
    (hs : slotState c.hw (trkOf pc) (patrolSlot c.hw pc) = .retired ∨ slotState c.hw (trkOf pc) (patrolSlot c.hw pc) = .parked) :
    patrolRow pc upsets c = c.onHw (passNext pc) := by
  unfold patrolSlot at hs
  obtain hs | hs := hs <;>
    simp only [patrolRow, hd, ha, hs, Option.isSome_none, Bool.not_true, Bool.or_self, Bool.false_eq_true, if_false]

/-- In any other slot its sixteen lines are read and checked under the grant, and the pass goes on (R291, R292). -/
theorem patrolRow_scrubs (upsets : List (Nat × BitVec 576)) (hd : patrolDue c.hw pc = true)
    (hr : slotState c.hw (trkOf pc) (patrolSlot c.hw pc) ≠ .retired) (hp : slotState c.hw (trkOf pc) (patrolSlot c.hw pc) ≠ .parked)
    (hg : (pcSt c.hw pc).granted = some .scrub) :
    patrolRow pc upsets c =
      let n := obj c.hw 0x9900 4 pc
      let r := slotLive (bumpBy c.hw 0x3430 (patrolInput c.hw pc) (chOf pc) 3) (trkOf pc) (patrolSlot c.hw pc)
      let d := ((List.range 16).map (lineAt pc (n % 16) (n / 16))).foldl (scrubRead r.2 pc) (upsetCells pc (n % 16) (n / 16) upsets { c with hw := r.1 })
      d.onHw (fun h => passNext pc (bump (setPc h pc { pcSt h pc with granted := none }) 0x9900 7 pc)) := by
  unfold patrolSlot at hr hp ⊢
  -- `hr` and `hp` exclude the arms that skip, so the match takes its last one.
  simp only [patrolRow, hd, ha, hg, Option.isSome_none, Bool.not_true, Bool.or_self, Bool.false_eq_true, if_false]

/-- A drained write-back whose line has not been written since is read again; the same symbol in error is a hard error, which counts as four
(R293). -/
theorem hardCheck_rereads {n pos : Nat} (noise : BitVec 576) (hr : patrolRuns c.hw pc = true)
    (hh : c.hw.chans.hard.find? (fun e => pPc e.1 == pc) = some (n, pos)) (hq : wqFind c.hw n = none) :
    hardCheck pc noise c =
      let r := arrayRead (c.onHw (fun h => { h with chans := { h.chans with hard := h.chans.hard.erase (n, pos) } })) n (fromBurst noise.toNat)
      let d := r.2
      r.1.onHw (fun h =>
        let h := noteDecode h n d.cls false
        let h := if wantsWriteBack d.cls then queueWriteBack h n d.data d.poison none else h
        if d.cls = .corrected pos ∨ d.cls = .poisonedCorrected pos then
          reportErrors (raise (bump h 0x9800 8 pc) Src.hardError (whereLine h n)) n 4
        else h) := by
  have hkept : wqFind (c.onHw (fun h => { h with chans := { h.chans with hard := h.chans.hard.erase (n, pos) } })).hw n = none := hq
  simp only [hardCheck, hh, hr, ha, hkept, Option.isSome_none, Bool.not_true, Bool.or_self, Bool.or_eq_true, decide_eq_true_eq,
    Bool.false_eq_true, if_false]

end

/-- A pass that has outlasted its interval is marked and told of once (R294). -/
theorem scrubLate_first {pc : Nat} {h : Hw} (hr : patrolRuns h pc = true) (hl : (pcSt h pc).late = false) :
    scrubLate pc h = raise (bump (setPc h pc { pcSt h pc with late := true }) 0x9900 6 pc) Src.scrubLate { selector := unitSel 4 pc } := by
  simp only [scrubLate, hr, hl, Bool.not_false, Bool.and_self, if_true]

/-- Settles O23: each event's function, on the state that the clause describes, takes the branch of the event. -/
theorem integrityEventsComplete : Obligations.IntegrityEventsComplete := by
  unfold Obligations.IntegrityEventsComplete
  refine ⟨?_, ?_, ?_, ?_⟩
  · intro s ch e rest hw ha hc
    exact ⟨fun hs => exec_eq_after rfl hw ((if_pos ha).trans (writeBack_stale hc hs)),
      fun hs hq hl => exec_eq_after rfl hw ((if_pos ha).trans (writeBack_queues hc hs hq hl))⟩
  · intro s pc upsets hw hd ha
    exact ⟨fun hs => exec_eq_afterCore rfl hw (patrolRow_skips ha upsets hd hs),
      fun hr hp hg => exec_eq_afterCore rfl hw (patrolRow_scrubs ha upsets hd hr hp hg)⟩
  · intro s pc n pos noise hw hr ha hh hq
    exact exec_eq_afterCore rfl hw (hardCheck_rereads ha noise hr hh hq)
  · intro s pc hw hr hl
    exact exec_eq_after rfl hw (scrubLate_first hr hl)

end Sys2Proof.Machine

/-! The whole stack: totality of the commands, and what a step runs. -/

namespace Sys2Proof.Machine

/-- A well-formed command ends in a next state, with the queue as it was. -/
theorem exec_of_wf {c : Instr} (s : State) (hw : c.wf = true) : ∃ t, exec c s = .next t ∧ t.pending = s.pending := by
  rcases exec_shape c s with ⟨f, hf⟩ | ⟨f, hf⟩
  · rw [hf, hw]
    exact ⟨_, rfl, rfl⟩
  · rw [hf, hw]
    exact ⟨_, rfl, rfl⟩

/-- Any other stops by name. -/
theorem exec_of_not_wf {c : Instr} (s : State) (hw : c.wf = false) : exec c s = .fault .illFormed := by
  rcases exec_shape c s with ⟨f, hf⟩ | ⟨f, hf⟩
  · rw [hf, hw, runHw_false]
  · rw [hf, hw, runCore_false]

/-- Settles O58: every meaning is one of the two frames (`exec_shape`), and a frame stops on an ill-formed command alone. -/
theorem wellFormedCommandCompletes : Obligations.WellFormedCommandCompletes := by
  unfold Obligations.WellFormedCommandCompletes
  exact fun c s => ⟨exec_of_wf s, exec_of_not_wf s⟩

/-- A step on a queue that is not empty. -/
theorem step_of_pending_cons {c : Instr} {s : State} {rest : List Instr} (hp : s.pending = c :: rest) :
    step s = exec c { s with pending := rest } := by
  simp only [step, hp]

/-- On an empty queue with no frame held the clock ticks. -/
theorem step_ticks {s : State} (hp : s.pending = []) (hd : heldDue (tick s.hw) = false) : step s = .next { s with hw := tick s.hw } := by
  simp only [step, hp, hd, Bool.false_eq_true, if_false]

/-- A frame that AO held is handed over at the tick. -/
theorem step_serves_held {s : State} (hp : s.pending = []) (hd : heldDue (tick s.hw) = true) :
    step s = .next (afterCore s (serveHeld { coreOf s with hw := begin (tick s.hw) })) := by
  simp only [step, hp, hd, if_true, runCore_true, afterCore, coreOf]

/-- Settles O57: the three cases of `step`, by the queue and by the frame that AO holds. -/
theorem stepRunsTheFrontCommand : Obligations.StepRunsTheFrontCommand := by
  unfold Obligations.StepRunsTheFrontCommand
  exact ⟨fun _ _ _ => step_of_pending_cons, fun _ hp => ⟨step_ticks hp, step_serves_held hp⟩⟩

end Sys2Proof.Machine

/-! The band of a die (R329, Table 12.2). -/

namespace Sys2Proof.Machine

section
variable {t : Int} {b : Nat}

theorem nextBand_russet (ht : degC 95 < t) : nextBand t b = 2 := by
  simp [nextBand, ht]

/-- Above 93.00 °C Russet stays, and any other band is Umber at least. -/
theorem nextBand_above_russet_exit (hlo : degC 93 < t) (hhi : t ≤ degC 95) (hb : b ≤ 2) : nextBand t b = max b 1 := by
  have h85 : degC 85 < t := Int.lt_trans (by decide) hlo
  obtain rfl | hb2 : b = 2 ∨ b ≤ 1 := by omega
  · simp [nextBand, hlo]
  · have hne : b ≠ 2 := by omega
    simp [nextBand, Int.not_lt.mpr hhi, h85, hne, hb2]

theorem nextBand_middle (hlo : degC 85 < t) (hhi : t ≤ degC 93) : nextBand t b = 1 := by
  have h95 : ¬degC 95 < t := Int.not_lt.mpr (Int.le_trans hhi (by decide))
  simp [nextBand, h95, Int.not_lt.mpr hhi, hlo]

/-- Above 83.00 °C the lowest band stays, and any other is the middle one. -/
theorem nextBand_above_lowest (hlo : degC 83 < t) (hhi : t ≤ degC 85) : nextBand t b = min b 1 := by
  have h93 : ¬degC 93 < t := Int.not_lt.mpr (Int.le_trans hhi (by decide))
  have h95 : ¬degC 95 < t := Int.not_lt.mpr (Int.le_trans hhi (by decide))
  obtain rfl | hb : b = 0 ∨ 1 ≤ b := by omega
  · simp [nextBand, h93, h95, Int.not_lt.mpr hhi]
  · have hne : b ≠ 0 := by omega
    simp [nextBand, h93, h95, hlo, hne, hb]

theorem nextBand_lowest (ht : t ≤ degC 83) : nextBand t b = 0 := by
  have h85 : ¬degC 85 < t := Int.not_lt.mpr (Int.le_trans ht (by decide))
  have h93 : ¬degC 93 < t := Int.not_lt.mpr (Int.le_trans ht (by decide))
  have h95 : ¬degC 95 < t := Int.not_lt.mpr (Int.le_trans ht (by decide))
  simp [nextBand, h85, h93, h95, Int.not_lt.mpr ht]

end

/-- Settles O40: `nextBand` in each of the five ranges of the temperature. -/
theorem bandsHaveHysteresis : Obligations.BandsHaveHysteresis := by
  unfold Obligations.BandsHaveHysteresis
  exact fun t b hb => ⟨nextBand_russet, fun hlo hhi => nextBand_above_russet_exit hlo hhi hb, nextBand_middle, nextBand_above_lowest,
    nextBand_lowest⟩

end Sys2Proof.Machine

/-! The boundary-scan port (R429). -/

namespace Sys2Proof.Machine

section
variable {h : Hw}

/-- Outside RESET_N low no instruction drives a ball. -/
theorem ball_not_held (cell : Nat) (own : Bool) (hm : h.mode ≠ .held) : ball h cell own = some own := by
  have hacts : tapActs h ≠ 0 ∧ tapActs h ≠ 4 ∧ tapActs h ≠ 5 := by
    simp only [tapActs, beq_eq_false_iff_ne.mpr hm, Bool.false_eq_true, if_false]
    split_ifs <;> omega
  obtain ⟨h0, h4, h5⟩ := hacts
  rw [ball, if_neg h5, if_neg (not_or.mpr ⟨h0, h4⟩)]

/-- While RESET_N is low EXTEST, IDCODE, SAMPLE/PRELOAD, CLAMP and HIGHZ act as they are named. -/
theorem tapActs_held (hm : h.mode = .held) (hi : h.test.tapInstr ≤ 5) (h3 : h.test.tapInstr ≠ 3) : tapActs h = h.test.tapInstr := by
  simp only [tapActs, hm, beq_self_eq_true, if_true]
  split_ifs <;> omega

/-- The cells are loaded by EXTEST and CLAMP only while RESET_N is low. -/
theorem loadsCells_held (i cells : Nat) (hm : h.mode = .held) :
    (if h.mode == .held then preload i cells h else selectTap i h) = setTest h { h.test with tapInstr := i, cells := cells } :=
  if_pos (beq_iff_eq.mpr hm)

end

/-- Settles O45: the rows that select an instruction, and what a ball carries with RESET_N low and otherwise. -/
theorem testAccessPort : Obligations.TestAccessPort := by
  unfold Obligations.TestAccessPort
  refine ⟨fun s => exec_eq_after rfl rfl rfl, fun s => exec_eq_after rfl rfl rfl, fun s => exec_eq_after rfl rfl rfl,
    fun s cells hw => exec_eq_after rfl hw rfl, fun s cells hw hm => ?_, fun s cells hw hm => ?_, fun s code hw => exec_eq_after rfl hw rfl,
    fun s code hw => exec_eq_after rfl hw rfl, fun h cell own => ball_not_held cell own, fun h cell own hm => ⟨fun hi => ?_, fun hi => ?_, fun hi => ?_⟩⟩
  · exact exec_eq_after (f := fun h => if h.mode == .held then preload 0 cells h else selectTap 0 h) rfl hw (loadsCells_held 0 cells hm)
  · exact exec_eq_after (f := fun h => if h.mode == .held then preload 4 cells h else selectTap 4 h) rfl hw (loadsCells_held 4 cells hm)
  · rw [ball, tapActs_held hm (by omega) (by omega), if_pos hi]
  · rw [ball, tapActs_held hm (by omega) (by omega), if_neg (by omega), if_pos hi]
  · rw [ball, tapActs_held hm (by omega) (by omega), if_neg (by omega), if_neg (by omega)]

end Sys2Proof.Machine

/-! Power management events, by the branch they take (R305, R308, R310 to R313, R401). -/

namespace Sys2Proof.Machine

section
variable {h : Hw}

/-- An effect whose condition holds takes place. -/
theorem only_of_true {b : Bool} (f : Hw → Hw) (hb : b = true) : only b f h = f h := if_pos hb

@[simp] theorem obj_setPower (h : Hw) (v : Power) (i j u : Nat) : obj (setPower h v) i j u = obj h i j u := rfl

/-- The offset of the crystal decides nothing about the root PLL. -/
theorem pllRuns_setOffset (v : Nat) : pllRuns (setObj h 0x7060 3 0 v) = pllRuns h := by
  have h7000 : obj (setObj h 0x7060 3 0 v) 0x7000 1 = obj h 0x7000 1 := obj_setObj_of_lt_idx h v 3 0 (by decide) (by decide) (by decide)
  have h7040 : obj (setObj h 0x7060 3 0 v) 0x7040 3 = obj h 0x7040 3 := obj_setObj_of_lt_idx h v 3 0 (by decide) (by decide) (by decide)
  simp only [pllRuns, domainState, setObj_mode, h7000, h7040]

/-- The check of every millisecond (R310). -/
theorem clockCheck_eq (locked inRange : Bool) (offset : Int) :
    clockCheck locked inRange offset h =
      let k := setObj h 0x7060 3 0 (ofSigned 32 offset)
      if pllRuns h = false then k
      else
        let k := setObj k 0x7060 1 0 (bit locked)
        if locked = false ∨ inRange = false then clockFault k else setActive k Src.clockFault false := by
  simp only [clockCheck, pllRuns_setOffset, Bool.or_eq_true, Bool.not_eq_true']

/-- IDLE is entered without activity (R311). -/
theorem idleEntry_inactive (hm : h.mode = .run) (ho : obj h 0x7000 1 = 0) (hs : h.power.sleep = none) (ha : activity h = false) :
    idleEntry h =
      setPower (setPlace (setObj h 0x7000 1 0 1) { h.place with unparkCall := false }) { h.power with idleAt := now h } :=
  if_pos (by simp [hm, ho, hs, ha])

/-- The domain of idle engines is gated (R308, R311). -/
theorem engineGate_idle {t : Nat} (hm : h.mode = .run) (ho : obj h 0x7000 1 ≤ 1)
    (hi : ((span (4 * t) 4).all fun e => (engine h e).part.isNone && (engine h e).queue.isEmpty) = true)
    (hd : domainState h (engDomain t) = 0) :
    engineGate t h =
      let k := gateDomain h (engDomain t) 2
      if domainState k (engDomain t) = 2 then engOff k t else k := by
  simp only [engineGate, hm, ho, hi, hd, beq_self_eq_true, decide_true, Bool.and_self, if_true]

/-- In IDLE the lanesets that may park are called to (R312). -/
theorem idlePark_idle (hm : h.mode = .run) (ho : obj h 0x7000 1 = 1) :
    idlePark h = (List.range 16).foldl (fun h k => if mayPark h k && !(laneset h k).parkWait then parkFor k h else h) h := by
  simp only [idlePark, hm, ho, beq_self_eq_true, Bool.and_self, if_true]

/-- A measurement is stored, and the cap acts while the stack runs (R313, R465). -/
theorem measure_eq (watts volts vddqc vpp : List Nat) :
    measure watts volts vddqc vpp h =
      let h := (List.range 5).foldl (fun h i => setObj (setObj h 0x7021 (i + 1) 0 (watts.getD i 0)) 0x7070 (i + 1) 0 (volts.getD i 0)) h
      let h := (List.range 8).foldl (fun h t => setObj (setObj h 0x7050 1 t (vddqc.getD t 0)) 0x7050 2 t (vpp.getD t 0)) h
      let vd := volts.getD 3 0
      let h := if obj h 0x7070 7 = 0 || vd < obj h 0x7070 7 then setObj h 0x7070 7 0 vd else h
      let h := if genGood vddqc vpp then setActive h Src.regulatorFault false else h
      let h := setObj (checkRails volts h) 0x7020 3 0 watts.sum
      let h := if h.mode = .run then capControl watts.sum h else h
      setPower h { h.power with
        marks := (h.power.marks ++ [(List.range 8).map (trackLines h)]).drop ((h.power.marks.length + 1) - 10)
        dieMarks := (h.power.dieMarks ++ [(List.range 16).map (fun d => (dieActs h d, dieLines h d))]).drop ((h.power.dieMarks.length + 1) - 10) } := by
  simp only [measure, beq_iff_eq]

end

/-- Settles O34: each event's function, on the state that the clause describes, takes the branch of the event. -/
theorem powerEventsComplete : Obligations.PowerEventsComplete := by
  unfold Obligations.PowerEventsComplete
  refine ⟨?_, ?_, ?_, ?_, ?_, ?_, ?_, ?_, ?_, ?_⟩
  · intro s rail track hw hm hr
    exact exec_eq_after rfl hw (only_of_true _ (by simp [hm, hr]))
  · intro s locked inRange offset hw ht hx
    exact exec_eq_after rfl hw ((only_of_true _ (by simp [hx]; exact ht)).trans (clockCheck_eq locked inRange offset))
  · intro s hm
    exact exec_eq_after rfl rfl (only_of_true _ (by simp [hm]))
  · intro s hx
    exact exec_eq_after rfl rfl (only_of_true _ hx)
  · intro s hm ho hs ha
    exact exec_eq_after rfl rfl (idleEntry_inactive (h := begin s.hw) hm ho hs ha)
  · intro s t hw hm ho hi hd
    exact exec_eq_after rfl hw (engineGate_idle (h := begin s.hw) hm ho hi hd)
  · intro s hh ho
    exact exec_eq_after rfl rfl (only_of_true _ (by simp [hh, ho]))
  · intro s hm ho
    exact exec_eq_after rfl rfl (idlePark_idle (h := begin s.hw) hm ho)
  · intro s hm ho hu
    exact exec_eq_after rfl rfl (only_of_true _ (by simp [hm, ho, hu]))
  · intro s watts volts vddqc vpp hw ht
    exact exec_eq_after rfl hw ((only_of_true _ ht).trans (measure_eq watts volts vddqc vpp))

end Sys2Proof.Machine

/-! The first stop step of a sleep request (R317, R188). -/

namespace Sys2Proof.Machine

/-- With no refusal the first block stops. This step takes no account of a channel whose SRE fails. -/
theorem sleepStep_agreed {c : Core} {q : Sleep} (sreFails : Option Nat) (hq : c.hw.power.sleep = some q) (hs : q.stopping = false)
    (hr : refusing c.hw = []) (hd : dctDefers c.hw = false) :
    sleepStep sreFails c =
      stopStep { q with stopping := true } (c.onHw (fun h => setPower h { h.power with sleep := some { q with stopping := true } })) := by
  simp only [sleepStep, hq, hs, hr, hd, Bool.false_eq_true, if_false]

/-- What the command leaves of it. -/
theorem exec_sleepStopStep_agreed {s : State} {q : Sleep} {sreFails : Option Nat} (hw : (Instr.sleepStopStep sreFails).wf = true)
    (hq : s.hw.power.sleep = some q) (hs : q.stopping = false) (hr : refusing s.hw = []) (hd : dctDefers s.hw = false) :
    exec (.sleepStopStep sreFails) s = .next (afterCore s
      (stopStep { q with stopping := true } ((coreOf s).onHw (fun h => setPower h { h.power with sleep := some { q with stopping := true } })))) :=
  exec_eq_afterCore rfl hw (sleepStep_agreed (c := coreOf s) sreFails hq hs hr hd)

/-- A sleep request in its query phase of which two blocks count as stopped: its first stop step is that of the channel controllers. -/
def lateQuery : Sleep := { path := none, start := 0, stopped := 2 }

/-- The stack with that request; every die is gated. -/
def lateQueryState : State :=
  { State.reset with
    hw := { mode := .run, power := { sleep := some lateQuery }, regs := (List.range 16).map (fun d => (regKey 0x1110 2 d, 3)) } }

/-- What the stop step of the channel controllers leaves of the request there. -/
def requestAfterStop (sreFails : Option Nat) : Option Sleep :=
  (afterCore lateQueryState
    (stopStep { lateQuery with stopping := true }
      ((coreOf lateQueryState).onHw (fun h => setPower h { h.power with sleep := some { lateQuery with stopping := true } })) sreFails)).hw.power.sleep

/-- The controllers stop, and the request goes on. -/
theorem requestAfterStop_none : (requestAfterStop none).isSome = true := by decide +kernel

/-- An SRE that fails on channel 0 refuses it. -/
theorem requestAfterStop_failing : (requestAfterStop (some 0)).isSome = false := by decide +kernel

/-- Refutes O36: its clause of the first stop step hands on the channel whose SRE fails, which the model's step does not (`sleepStep_agreed`).
The two differ where that step is the channel controllers': nothing in the clause says that a request in its query phase has no block
stopped, and for one with two (`lateQueryState`) the clause asks for a refusal where the model goes on. -/
theorem not_sleepEventsComplete : ¬ Obligations.SleepEventsComplete := by
  unfold Obligations.SleepEventsComplete
  rintro ⟨-, -, hstep, -⟩
  obtain ⟨-, -, hagreed, -⟩ := hstep lateQueryState lateQuery (some 0) rfl rfl
  have hr : refusing lateQueryState.hw = [] := by decide +kernel
  have hd : dctDefers lateQueryState.hw = false := by decide +kernel
  have hmodel := exec_sleepStopStep_agreed (s := lateQueryState) (q := lateQuery) (sreFails := some 0) rfl rfl rfl hr hd
  have hsame : requestAfterStop none = requestAfterStop (some 0) := by
    unfold requestAfterStop
    rw [Host.Outcome.next.inj (hmodel.symm.trans (hagreed rfl hr hd))]
  have hrefused := requestAfterStop_failing
  rw [← hsame, requestAfterStop_none] at hrefused
  exact Bool.noConfusion hrefused

end Sys2Proof.Machine

/-! A wake event during SLEEP (R320, R321). -/

namespace Sys2Proof.Machine

/-- What a wake event during SLEEP leaves: it is recorded with its time and detail, and the wake begins. -/
def wakeBegun (code detail : Nat) (h : Hw) : Hw :=
  let h := setObj (setObj h 0x7010 5 0 code) 0x7010 6 0 (now h)
  let h := setObj (setObj h 0x7010 7 0 detail) 0x7010 8 0 (2 ^ (code - 1))
  setObj (setPower h { h.power with wakeStart := now h }) 0x7000 1 0 4

section
variable {h : Hw} {code : Nat} (detail : Nat)

theorem wakeEvent_disabled (hb : bitAt (obj h 0x7010 1) (code - 1) = false) : wakeEvent code detail h = h := by
  simp only [wakeEvent, hb, Bool.not_false, Bool.or_true, if_true]

theorem wakeEvent_asleep (hm : h.mode = .run) (hs : h.power.sleep = none) (ho : obj h 0x7000 1 = 2)
    (hb : bitAt (obj h 0x7010 1) (code - 1) = true) : wakeEvent code detail h = wakeBegun code detail h := by
  simp only [wakeEvent, hm, hs, ho, hb, bne_self_eq_false, Bool.not_true, Bool.or_self, Option.isSome_none, Bool.false_eq_true, if_false,
    Nat.reduceEqDiff, if_true]
  rfl

/-- What a register of the wake record reads is what was written to it: no later write touches it. -/
theorem obj_wakeBegun (code : Nat) (h : Hw) :
    obj (wakeBegun code detail h) 0x7010 5 = code ∧ obj (wakeBegun code detail h) 0x7010 6 = now h ∧
      obj (wakeBegun code detail h) 0x7010 7 = detail ∧ obj (wakeBegun code detail h) 0x7010 8 = 2 ^ (code - 1) := by
  simp [wakeBegun, obj_setObj_of_idx_lt, obj_setObj_other_sub]

end

/-- Settles O37: the two branches of `wakeEvent` in SLEEP. -/
theorem wakeEventBeginsWake : Obligations.WakeEventBeginsWake := by
  unfold Obligations.WakeEventBeginsWake
  intro h code detail _ hm hs ho
  refine ⟨fun hb => ?_, wakeEvent_disabled detail⟩
  rw [wakeEvent_asleep detail hm hs ho hb]
  obtain ⟨hcode, htime, hdetail, hbits⟩ := obj_wakeBegun detail code h
  exact ⟨obj_setObj_same _ _ _ _ _, hcode, htime, hdetail, hbits, rfl, rfl, rfl, rfl, rfl⟩

end Sys2Proof.Machine

/-! What the report of a fault leaves alone: the clock, the channels, placement, the thermal state and the trip objects. -/

namespace Sys2Proof.Machine

/-- From one state to the other the clock, the channels, placement, the thermal state with its hold on ERR_N, and the trip objects
(0x7880) stay. -/
structure KeepsPlant (h t : Hw) : Prop where
  clock : t.clock = h.clock
  chans : t.chans = h.chans
  place : t.place = h.place
  therm : t.therm = h.therm
  thmErr : t.thmErr = h.thmErr
  reg : ∀ j < 256, obj t 0x7880 j = obj h 0x7880 j

namespace KeepsPlant

variable {h t u : Hw}

theorem refl (h : Hw) : KeepsPlant h h := ⟨rfl, rfl, rfl, rfl, rfl, fun _ _ => rfl⟩

theorem trans (a : KeepsPlant h t) (b : KeepsPlant t u) : KeepsPlant h u :=
  ⟨b.clock.trans a.clock, b.chans.trans a.chans, b.place.trans a.place, b.therm.trans a.therm, b.thmErr.trans a.thmErr,
    fun j hj => (b.reg j hj).trans (a.reg j hj)⟩

/-- What each pass of a loop over a list keeps, the loop keeps. -/
theorem foldl {α : Type} {f : Hw → α → Hw} {xs : List α} (hf : ∀ h, ∀ x ∈ xs, KeepsPlant h (f h x)) (h : Hw) : KeepsPlant h (xs.foldl f h) :=
  List.foldlRecOn (motive := KeepsPlant h) xs f (refl h) (fun t ht x hx => ht.trans (hf t x hx))

/-- What both branches keep. -/
theorem ite {c : Prop} [Decidable c] (ht : KeepsPlant h t) (hu : KeepsPlant h u) : KeepsPlant h (if c then t else u) := by
  split
  · exact ht
  · exact hu

/-- A write to an object in front of the trip objects. -/
theorem setObj_lt (h : Hw) {i j u : Nat} (v : Nat) (hi : i < 0x7880) (hj : j < 256) (hu : u < 4096) : KeepsPlant h (setObj h i j u v) :=
  ⟨rfl, rfl, rfl, rfl, rfl, fun j' _ => obj_setObj_of_idx_lt h v j' 0 hi hj hu⟩

/-- A write to an object behind them. -/
theorem setObj_gt (h : Hw) {i : Nat} (j u v : Nat) (hi : 0x7880 < i) : KeepsPlant h (setObj h i j u v) :=
  ⟨rfl, rfl, rfl, rfl, rfl, fun _ hj' => obj_setObj_of_lt_idx h v j u hi hj' (by decide)⟩

/-- The same at the end of a chain of writes. -/
theorem thenSet (k : KeepsPlant h t) {i j u v : Nat} (hi : 0x7880 < i) : KeepsPlant h (Machine.setObj t i j u v) := k.trans (.setObj_gt t j u v hi)

/-- A change to other fields. -/
theorem same (hclock : t.clock = h.clock) (hchans : t.chans = h.chans) (hplace : t.place = h.place) (htherm : t.therm = h.therm)
    (herr : t.thmErr = h.thmErr) (hregs : t.regs = h.regs) : KeepsPlant h t :=
  ⟨hclock, hchans, hplace, htherm, herr, fun j _ => congrArg (fun r => tget (regDefault (regKey 0x7880 j 0)) r (regKey 0x7880 j 0)) hregs⟩

theorem setLaneset (h : Hw) (n : Nat) (v : Laneset) : KeepsPlant h (setLaneset h n v) := .same rfl rfl rfl rfl rfl rfl
theorem setPort (h : Hw) (n : Nat) (v : Port) : KeepsPlant h (setPort h n v) := .same rfl rfl rfl rfl rfl rfl
theorem emit (h : Hw) (o : Out) : KeepsPlant h (emit h o) := .same rfl rfl rfl rfl rfl rfl
theorem faults (h : Hw) (f : Faults) : KeepsPlant h { h with faults := f } := .same rfl rfl rfl rfl rfl rfl
theorem setBlob (h : Hw) (i j : Nat) (v : List Byte) : KeepsPlant h (setBlob h i j v) := .same rfl rfl rfl rfl rfl rfl
theorem faultsReact (h : Hw) (f : Faults) (r : React) : KeepsPlant h { h with faults := f, react := r } := .same rfl rfl rfl rfl rfl rfl
theorem react (h : Hw) (r : React) : KeepsPlant h { h with react := r } := .same rfl rfl rfl rfl rfl rfl

/-! Sending. -/

theorem fillIdle (h : Hw) (ls : Nat) : KeepsPlant h (fillIdle h ls) := .ite (.setLaneset ..) (.refl h)

theorem driveFlit (h : Hw) (ls : Nat) (x : FlitContent) (bad : Bool) : KeepsPlant h (driveFlit h ls x bad) :=
  ((KeepsPlant.ite (.setLaneset ..) (.fillIdle ..)).trans (.setLaneset ..)).trans (.emit ..)

theorem sendFlit (h : Hw) (ls : Nat) (x : FlitContent) : KeepsPlant h (sendFlit h ls x) := by
  unfold Machine.sendFlit
  refine .ite (KeepsPlant.trans ?_ (.driveFlit ..)) (.driveFlit ..)
  exact .same rfl rfl rfl rfl rfl rfl

theorem putFlit (h : Hw) (ls : Nat) (f : TxFlit) : KeepsPlant h (putFlit h ls f) := by
  unfold Machine.putFlit
  exact (KeepsPlant.setLaneset ..).trans (.sendFlit ..)

theorem newFlit (h : Hw) {p : Nat} (ls : Nat) (g : Option TxGroup) (hp : p < 256) : KeepsPlant h (newFlit h p ls g) :=
  ((KeepsPlant.setPort ..).trans (.setObj_lt _ _ (by decide) hp (by decide))).trans (.putFlit ..)

theorem takeCredits (h : Hw) {p : Nat} (g : TxGroup) (hp : p < 256) : KeepsPlant h (takeCredits h p g) :=
  .ite (.setPort ..) (.setObj_lt _ _ (by decide) hp (by decide))

theorem endSample (h : Hw) (w : HeldGroup) : KeepsPlant h (endSample h w) := by
  unfold Machine.endSample
  split
  · exact .react ..
  · exact .refl h

theorem liftFence (h : Hw) (p : Nat) : KeepsPlant h (liftFence h p) := by
  unfold Machine.liftFence
  dsimp only
  split
  · exact .ite (.setPort ..) (.refl h)
  · exact .refl h

theorem sendReplays (fuel : Nat) (h : Hw) {p : Nat} (hp : p < 256) : KeepsPlant h (sendReplays fuel h p) := by
  induction fuel generalizing h with
  | zero => exact .refl h
  | succ n ih =>
    unfold Machine.sendReplays
    dsimp only
    split
    · exact (((KeepsPlant.setPort ..).trans (.setObj_lt _ _ (by decide) hp (by decide))).trans (.putFlit ..)).trans (ih _)
    · exact .refl h

theorem sendCredits (fuel : Nat) (h : Hw) {p : Nat} (hp : p < 256) : KeepsPlant h (sendCredits fuel h p) := by
  induction fuel generalizing h with
  | zero => exact .refl h
  | succ n ih =>
    unfold Machine.sendCredits
    dsimp only
    split
    · exact .refl h
    · split
      · exact (KeepsPlant.newFlit _ _ _ hp).trans (ih _)
      · exact .refl h

theorem sendWaiting (ws : List HeldGroup) (h : Hw) {p : Nat} (blocked : List Nat) (hp : p < 256) :
    KeepsPlant h (sendWaiting h p ws blocked).1 := by
  induction ws generalizing h blocked with
  | nil => exact .refl h
  | cons w ws ih =>
    unfold Machine.sendWaiting
    dsimp only
    split
    · exact (((KeepsPlant.endSample ..).trans (.takeCredits _ _ hp)).trans (.newFlit _ _ _ hp)).trans (ih _ _)
    · exact ih ..

theorem flushPort (h : Hw) {p : Nat} (hp : p < 256) : KeepsPlant h (flushPort h p) :=
  .ite (.liftFence ..)
    (((((KeepsPlant.sendReplays _ _ hp).trans (.sendWaiting _ _ _ hp)).trans (.setPort ..)).trans (.sendCredits _ _ hp)).trans (.liftFence ..))

theorem sendGroup (h : Hw) {p : Nat} (g : TxGroup) (hp : p < 256) : KeepsPlant h (sendGroup h p g) :=
  .ite ((KeepsPlant.setObj_lt _ _ (by decide) hp (by decide)).trans (.liftFence ..)) ((KeepsPlant.setPort ..).trans (.flushPort _ hp))

/-! Records. -/

theorem keepFirstLast (h : Hw) (r : FaultRec) : KeepsPlant h (keepFirstLast h r) := .ite (.refl h) (.faults ..)

theorem notify (h : Hw) (r : FaultRec) : KeepsPlant h (notify h r) := by
  refine .ite (.refl h) (.foldl (fun h p hp => ?_) h)
  have hp4 : p < 4 := List.mem_range.mp (List.mem_filter.mp hp).1
  exact .ite (.sendGroup _ _ (by omega)) (.setObj_gt _ _ _ _ (by decide))

theorem alsoFired (h : Hw) (code detail : Nat) : KeepsPlant h (alsoFired h code detail) :=
  have hbits := KeepsPlant.setObj_gt h 4 0 (obj h 0x9010 4 ||| 2 ^ (code - 1)) (i := 0x9010) (by decide)
  .ite (hbits.trans ((KeepsPlant.setObj_gt _ _ _ _ (by decide)).trans (.setObj_gt _ _ _ _ (by decide)))) hbits

theorem enterGrey (h : Hw) (cause : Nat) (source : Option Nat) : KeepsPlant h (enterGrey h cause source) := by
  have hset {t : Hw} (k : KeepsPlant h t) (j u v : Nat) : KeepsPlant h (setObj t 0x8300 j u v) := k.thenSet (by decide)
  unfold Machine.enterGrey
  refine .ite (.faults ..) (.ite ?_ ?_)
  · cases source with
    | none => exact hset (hset (hset (refl h) ..) ..) ..
    | some s => exact .ite (hset (hset (hset (hset (refl h) ..) ..) ..) ..) (hset (hset (hset (refl h) ..) ..) ..)
  · exact (hset (hset (hset (hset (hset (refl h) ..) ..) ..) ..) ..).trans (.react ..)

/-- A Milestone event keeps what the record of its firing keeps. -/
theorem milestoneEvent {after : Hw → Nat → Hw} (ha : ∀ h s, KeepsPlant h (after h s)) (h : Hw) (code detail : Nat) :
    KeepsPlant h (milestoneEvent after h code detail) := by
  have hstate {t : Hw} (k : KeepsPlant h t) (j v : Nat) : KeepsPlant h (setObj t 0x9000 j 0 v) := k.thenSet (by decide)
  have hrec {t : Hw} (k : KeepsPlant h t) (j v : Nat) : KeepsPlant h (setObj t 0x9010 j 0 v) := k.thenSet (by decide)
  unfold Machine.milestoneEvent
  refine .ite (refl h) (.ite (.alsoFired ..) (.ite (hstate (refl h) ..) (KeepsPlant.trans ?_ (ha _ _))))
  refine .ite (KeepsPlant.trans (KeepsPlant.trans ?_ (.faults ..)) (.emit ..)) ?_
  all_goals
    refine KeepsPlant.trans (KeepsPlant.trans ?_ (.setBlob ..)) (.faultsReact ..)
    exact hrec (hrec (hstate (hrec (hrec (hrec (hstate (refl h) ..) ..) ..) ..) ..) ..) ..

/-- So does a record with the firing that it causes. -/
theorem writeRecord {fire : Hw → Nat → Nat → Hw} (hf : ∀ h code detail, KeepsPlant h (fire h code detail)) (h : Hw) (r : FaultRec) :
    KeepsPlant h (writeRecord fire h r) := by
  have hset {t : Hw} (k : KeepsPlant h t) (j v : Nat) : KeepsPlant h (setObj t 0x8011 j 0 v) := k.thenSet (by decide)
  unfold Machine.writeRecord
  refine .ite (KeepsPlant.trans ?_ (hf ..)) ?_
  all_goals exact (((hset (hset (refl h) ..) ..).trans (.faults ..)).trans (.keepFirstLast ..)).trans (.notify ..)

theorem raiseN (fuel : Nat) (h : Hw) (s : Nat) (w : Where) : KeepsPlant h (raiseN fuel h s w) := by
  induction fuel generalizing h s w with
  | zero => exact (refl h).thenSet (by decide)
  | succ fuel ih =>
    have hrec (h : Hw) (r : FaultRec) : KeepsPlant h (Machine.writeRecord (Machine.milestoneEvent (fun h s => Machine.raiseN fuel h s {})) h r) :=
      .writeRecord (.milestoneEvent (fun h s => ih h s {})) h r
    have hlatched {t : Hw} (k : KeepsPlant h t) (c : Prop) [Decidable c] : KeepsPlant h (if c then setLatch t s true else t) :=
      .ite (k.trans (.faults ..)) k
    have hstatus : KeepsPlant h (setObj (bump h 0x8000 7 s) 0x8000 2 s 1) := ((refl h).thenSet (by decide)).thenSet (by decide)
    unfold Machine.raiseN
    refine .ite ((refl h).thenSet (by decide)) (.ite (KeepsPlant.trans ?_ (.enterGrey ..)) ?_)
    all_goals exact .ite ((hlatched (hstatus.trans (.faults ..)) _).trans (hrec ..)) ((hlatched (hstatus.trans (.faults ..)) _).thenSet (by decide))

theorem raise (h : Hw) (s : Nat) (w : Where) : KeepsPlant h (raise h s w) := raiseN 3 h s w

end KeepsPlant

end Sys2Proof.Machine

/-! The entry into a trip (R336 to R339, R451). -/

namespace Sys2Proof.Machine

/-- From one state to the other the thermal state, its hold on ERR_N, the channels, placement and every trip object but the peak (0x7880:05) stay. -/
structure KeepsTripRecord (h t : Hw) : Prop where
  therm : t.therm = h.therm
  thmErr : t.thmErr = h.thmErr
  chans : t.chans = h.chans
  place : t.place = h.place
  reg : ∀ j < 256, j ≠ 5 → obj t 0x7880 j = obj h 0x7880 j

namespace KeepsTripRecord

variable {h t u : Hw}

theorem refl (h : Hw) : KeepsTripRecord h h := ⟨rfl, rfl, rfl, rfl, fun _ _ _ => rfl⟩

theorem trans (a : KeepsTripRecord h t) (b : KeepsTripRecord t u) : KeepsTripRecord h u :=
  ⟨b.therm.trans a.therm, b.thmErr.trans a.thmErr, b.chans.trans a.chans, b.place.trans a.place,
    fun j hj h5 => (b.reg j hj h5).trans (a.reg j hj h5)⟩

theorem setPeak (h : Hw) (v : Nat) : KeepsTripRecord h (setObj h 0x7880 5 0 v) :=
  ⟨rfl, rfl, rfl, rfl, fun _ _ h5 => obj_setObj_other_sub h 0x7880 0 v h5⟩

theorem setTempPeak (h : Hw) (v : Int) : KeepsTripRecord h (setTemp h 0x7880 5 0 v) := by
  unfold setTemp
  split
  · exact .setPeak ..
  · have hdrawn : KeepsTripRecord h (draw h 30).2 := ⟨rfl, rfl, rfl, rfl, fun _ _ _ => rfl⟩
    exact hdrawn.trans (.setPeak ..)

/-- The peak of a trip is one register. -/
theorem notePeak (h : Hw) (rs : List (Nat × Nat)) : KeepsTripRecord h (notePeak h rs) := by
  refine List.foldlRecOn (motive := KeepsTripRecord h) _ _ (refl h) (fun t ht n _ => ht.trans ?_)
  split
  · exact .setTempPeak ..
  · exact refl t

theorem ofPlant (k : KeepsPlant h t) : KeepsTripRecord h t := ⟨k.therm, k.thmErr, k.chans, k.place, fun j hj _ => k.reg j hj⟩

end KeepsTripRecord

/-- The balls and the trip objects as step 1 of a trip writes them. -/
def tripMarked (cause sensor : Nat) (h : Hw) : Hw :=
  let h := setTherm { h with thmErr := true } { h.therm with tripLow := true, tripAt := now h }
  bump (setObj (setObj (setObj (setObj h 0x7880 1 0 1) 0x7880 3 0 cause) 0x7880 4 0 sensor) 0x7880 6 0 0) 0x7880 2

/-- What follows those writes in step 1, the peak and the report of THERMAL_TRIP, keeps them. -/
theorem recordTrip_keeps (cause sensor : Nat) (h : Hw) : KeepsTripRecord (tripMarked cause sensor h) (recordTrip cause sensor h) :=
  ((KeepsTripRecord.setPeak _ _).trans (.notePeak _ _)).trans (.ofPlant (.raise _ _ _))

theorem obj_tripMarked (cause sensor : Nat) (h : Hw) :
    obj (tripMarked cause sensor h) 0x7880 1 = 1 ∧ obj (tripMarked cause sensor h) 0x7880 3 = cause ∧
    obj (tripMarked cause sensor h) 0x7880 4 = sensor ∧ obj (tripMarked cause sensor h) 0x7880 6 = 0 ∧
    obj (tripMarked cause sensor h) 0x7880 2 = satAdd (objWidth 0x7880 2) (obj h 0x7880 2) 1 := by
  have hold : obj (setTherm { h with thmErr := true } { h.therm with tripLow := true, tripAt := now h }) 0x7880 2 = obj h 0x7880 2 := rfl
  simp [tripMarked, bump, bumpBy, obj_setObj_other_sub, hold]

section
variable {c : Core} (cause sensor : Nat)

/-- A stack that is held or has tripped does not trip. -/
theorem trip_of_stopped (hm : c.hw.mode = .held ∨ c.hw.mode = .trip ∨ c.hw.mode = .dramOff) : trip cause sensor c = c :=
  if_pos (by rcases hm with hm | hm | hm <;> simp [hm])

/-- After the last step of a shutdown the balls alone follow (R451). -/
theorem trip_after_shutdown (hm : c.hw.mode = .off) (hs : obj c.hw 0xC010 2 = 4) :
    trip cause sensor c = c.onHw (fun h => setTherm { h with thmErr := true } { h.therm with tripLow := true }) := by
  have hrun : ¬(c.hw.mode == .held || c.hw.mode == .trip || c.hw.mode == .dramOff) = true := by simp [hm]
  exact (if_neg hrun).trans ((if_pos (by simp [hm])).trans (if_pos hs))

/-- Any other stack is tripped. -/
theorem trip_mode (hm : c.hw.mode = .run ∨ c.hw.mode = .powerUp ∨ c.hw.mode = .stopping) : (trip cause sensor c).hw.mode = .trip := by
  have hstopped : (c.hw.mode == .held || c.hw.mode == .trip || c.hw.mode == .dramOff) = false := by rcases hm with hm | hm | hm <;> simp [hm]
  have hoff : (c.hw.mode == .off) = false := by rcases hm with hm | hm | hm <;> simp [hm]
  simp only [trip, hstopped, hoff, Bool.false_eq_true, if_false, Core.onHw]

end

/-- Settles O39: `trip` by the mode that it finds, and the record through what follows it (`recordTrip_keeps`). -/
theorem tripTakesEffect : Obligations.TripTakesEffect := by
  unfold Obligations.TripTakesEffect
  refine ⟨fun c cause sensor => trip_mode cause sensor, fun c cause sensor => trip_of_stopped cause sensor,
    fun c cause sensor => trip_after_shutdown cause sensor, fun h cause sensor => ?_⟩
  have hk := recordTrip_keeps cause sensor h
  obtain ⟨hstate, hcause, hsensor, hdram, hcount⟩ := obj_tripMarked cause sensor h
  have herr : (recordTrip cause sensor h).thmErr = true := hk.thmErr
  refine ⟨congrArg Therm.tripLow hk.therm, herr, ?_, congrArg Therm.tripAt hk.therm, ?_, ?_, ?_, ?_, ?_, hk.chans, hk.place⟩
  · rw [errLow, herr, Bool.or_true]
  · rw [hk.reg 1 (by decide) (by decide), hstate]
  · rw [hk.reg 3 (by decide) (by decide), hcause]
  · rw [hk.reg 4 (by decide) (by decide), hsensor]
  · rw [hk.reg 6 (by decide) (by decide), hdram]
  · rw [hk.reg 2 (by decide) (by decide), hcount]

end Sys2Proof.Machine

/-! Thermal and trip events, by the branch they take (R325, R326, R328, R331, R333 to R342, R348). -/

namespace Sys2Proof.Machine

section
variable {h : Hw}

/-- What follows the readings of a sample, in the order of R387. -/
theorem sample_eq (rs : List (Nat × Nat)) :
    sample rs h =
      let ns := rs.map Prod.fst
      let h := rs.foldl readSensor h
      let h := if h.mode = .trip ∨ h.mode = .dramOff then notePeak h rs else h
      let ds := (List.range 16).filter (fun d => ns.any (fun n => n / 8 == d))
      let h := ds.foldl followBand h
      let h := if ns.any (fun n => decide (128 ≤ n) && decide (n < 152)) then followBase h else h
      let h := ds.foldl followCycle h
      let h := if ns.any (fun n => decide (152 ≤ n)) then followOutlets h else h
      thermalWake h rs := by
  simp only [sample, Bool.or_eq_true, beq_iff_eq]

/-- A sensor that disagrees with its peers now is out (R328). -/
theorem sensorFails_disagrees {n : Nat} (hd : disagrees h n = true) :
    sensorFails n h =
      let h := failSensor h n
      if n < 128 then followDie h (n / 8) else if n < 152 then followBase h else followOutlets h := by
  simp only [sensorFails, hd, Bool.not_true, Bool.false_eq_true, if_false]

theorem sensorFails_agrees {n : Nat} (hd : disagrees h n = false) : sensorFails n h = h := by
  simp only [sensorFails, hd, Bool.not_false, if_true]

/-- From 100.00 °C on the ceiling drops one gear (R331). -/
theorem ceilingStep_hot {t : Nat} (ht : degC 100 ≤ trackTemp h t) (hc : obj h 0x7810 4 t < 2 ∨ obj h 0x7810 4 t = 3) :
    ceilingStep t h =
      let c := if obj h 0x7810 4 t = 3 then min 2 (gear h t + 1) else obj h 0x7810 4 t + 1
      modelRun (setTrk (setObj h 0x7810 4 t c) t { trkSt h t with ceilingAt := now h, returning := false }) := by
  have hmin : min 2 (if obj h 0x7810 4 t = 3 then gear h t + 1 else obj h 0x7810 4 t + 1) =
      if obj h 0x7810 4 t = 3 then min 2 (gear h t + 1) else obj h 0x7810 4 t + 1 := by
    split <;> omega
  have hmoves : (if obj h 0x7810 4 t = 3 then min 2 (gear h t + 1) else obj h 0x7810 4 t + 1) ≠ obj h 0x7810 4 t := by
    split <;> omega
  simp only [ceilingStep, ht, decide_true, if_true, hmin, if_neg hmoves, Bool.not_true]

/-- Below it, with no die of the track in Russet, the ceiling rises one gear, and from the second on it is lifted. -/
theorem ceilingStep_cool {t c' : Nat} (ht : trackTemp h t < degC 100) (hb : band h (2 * t) ≠ 2) (hb' : band h (2 * t + 1) ≠ 2)
    (hc' : (if obj h 0x7810 4 t = 2 then 1 else 3) = c') (hmoves : c' ≠ obj h 0x7810 4 t) :
    ceilingStep t h = modelRun (setTrk (setObj h 0x7810 4 t c') t { trkSt h t with ceilingAt := now h, returning := true }) := by
  have hcold : decide (degC 100 ≤ trackTemp h t) = false := decide_eq_false (Int.not_le.mpr ht)
  have hcool : (band h (2 * t) != 2 && band h (2 * t + 1) != 2) = true := by simp [hb, hb']
  simp only [ceilingStep, hcold, hcool, hc', Bool.false_eq_true, if_false, if_true, if_neg hmoves, Bool.not_false]

/-- A coolant that has become warm is reported (R348). -/
theorem coolantWarm_first {slice : Nat} (hw : (if slice = 1 then h.therm.warm1 else h.therm.warm2) = false)
    (hr : tempObj h 0x7860 4 0 < outletRise h slice) :
    coolantWarm slice h =
      raise (setActive (setTherm h (if slice = 1 then { h.therm with warm1 := true } else { h.therm with warm2 := true })) Src.coolantWarm true)
        Src.coolantWarm { detail := slice } := by
  simp only [coolantWarm, hw, decide_eq_false (Int.not_le.mpr hr), Bool.or_self, Bool.false_eq_true, if_false]

end

/-- A second stage that finds the stack tripped, or trips it, removes DRAM power (R340). -/
def secondStage (n : Nat) (c : Core) : Core :=
  let c := trip (if n < 128 then 1 else 2) n c
  if c.hw.mode == .trip then removeDram c else c

theorem secondStage_tripped (n : Nat) {c : Core} (hm : (trip (if n < 128 then 1 else 2) n c).hw.mode = .trip) :
    secondStage n c = removeDram (trip (if n < 128 then 1 else 2) n c) :=
  if_pos (beq_iff_eq.mpr hm)

/-- The pass over the dies, with no die that asks for a trip. -/
theorem evaluateAll_cool {c : Core} (hh : hotDies ((List.range 16).foldl evaluateDie c.hw) = []) :
    evaluateAll c = { c with hw := (List.range 16).foldl evaluateDie c.hw } := by
  unfold evaluateAll
  dsimp only [Core.onHw]
  rw [hh]

/-- The first die that does trips the stack (R335). -/
theorem evaluateAll_hot {c : Core} {d : Nat} {ds : List Nat} (hh : hotDies ((List.range 16).foldl evaluateDie c.hw) = d :: ds) :
    evaluateAll c = trip 3 d { c with hw := (List.range 16).foldl evaluateDie c.hw } := by
  unfold evaluateAll
  dsimp only [Core.onHw]
  rw [hh]

section
variable {c : Core} (eyes : List (List Eye))

/-- The restart of a stack that kept DRAM power, with an image (R341, R342). -/
theorem restart_kept (hc : allCool c.hw = true) (hm : c.hw.mode = .trip) (hi : c.hw.image.valid = true) :
    restart eyes c = c.onHw (restartFull true eyes) := by
  simp only [restart, hc, hm, hi, beq_self_eq_true, Bool.true_or, Bool.and_self, Bool.not_true, Bool.false_eq_true, if_false, if_true]

/-- The same after the loss of DRAM power. -/
theorem restart_lost (hc : allCool c.hw = true) (hm : c.hw.mode = .dramOff) (hi : c.hw.image.valid = true) :
    restart eyes c = (c.store (.fill .all)).onHw (restartFull false eyes) := by
  have htrip : (Mode.dramOff == Mode.trip) = false := rfl
  simp only [restart, hc, hm, hi, htrip, beq_self_eq_true, Bool.or_true, Bool.and_self, Bool.not_true, Bool.false_eq_true, if_false]

/-- Without an image power-up runs again (R343). -/
theorem restart_without_image (hc : allCool c.hw = true) (hm : c.hw.mode = .trip ∨ c.hw.mode = .dramOff) (hi : c.hw.image.valid = false) :
    restart eyes c = c.onHw restartBare := by
  have hstopped : (c.hw.mode == .trip || c.hw.mode == .dramOff) = true := by rcases hm with hm | hm <;> simp [hm]
  simp only [restart, hc, hi, hstopped, Bool.and_self, Bool.not_true, Bool.false_eq_true, if_false, Bool.not_false, if_true]

end

/-- Settles O38: each event's function, on the state that the clause describes, takes the branch of the event. -/
theorem thermalAndTripEventsComplete : Obligations.ThermalAndTripEventsComplete := by
  unfold Obligations.ThermalAndTripEventsComplete
  refine ⟨?_, ?_, ?_, ?_, ?_, ?_, ?_, ?_, ?_, ?_, ?_, ?_⟩
  · intro s sensors hw ht hx
    exact exec_eq_after rfl hw ((only_of_true _ (by simp [hx]; exact ht)).trans (sample_eq _))
  · intro s n hw ht hx hr
    have hon : (thmOn (begin s.hw) && !(begin s.hw).power.xckStopped && readable (begin s.hw) n) = true := by
      simp [hx]
      exact ⟨ht, hr⟩
    exact ⟨fun hd => exec_eq_after rfl hw ((only_of_true _ hon).trans (sensorFails_disagrees hd)),
      fun hd => exec_eq_after rfl hw ((only_of_true _ hon).trans (sensorFails_agrees hd))⟩
  · intro s hm
    exact exec_eq_after rfl rfl (only_of_true _ (by simp [hm]))
  · intro s ha hr hx
    have hon : (awake (coreOf s).hw && !(coreOf s).hw.faults.restarting && !(coreOf s).hw.power.xckStopped) = true := by
      simp [coreOf, hr, hx]
      exact ha
    exact ⟨fun hh => exec_eq_afterCore rfl rfl ((if_pos hon).trans (evaluateAll_cool hh)),
      fun d ds hh => exec_eq_afterCore rfl rfl ((if_pos hon).trans (evaluateAll_hot hh))⟩
  · intro s t hw ht
    refine ⟨fun hhot hc => ?_, fun hcold hb hb' => ⟨fun hc => ?_, fun hc => ?_⟩⟩
    · exact exec_eq_after rfl hw ((only_of_true _ ht).trans (ceilingStep_hot (h := begin s.hw) hhot hc))
    · exact exec_eq_after rfl hw ((only_of_true _ ht).trans (ceilingStep_cool (h := begin s.hw) hcold hb hb' (if_pos hc) (by rw [obj_begin]; omega)))
    · exact exec_eq_after rfl hw ((only_of_true _ ht).trans (ceilingStep_cool (h := begin s.hw) hcold hb hb' (if_neg (by rw [obj_begin]; omega))
        (by rw [obj_begin]; omega)))
  · intro s hm hwarm hr
    exact exec_eq_after rfl rfl ((only_of_true _ (by simp [hm])).trans (coolantWarm_first (h := begin s.hw) (slice := 1) hwarm hr))
  · intro s hm hwarm hr
    exact exec_eq_after rfl rfl ((only_of_true _ (by simp [hm])).trans (coolantWarm_first (h := begin s.hw) (slice := 2) hwarm hr))
  · intro s n hw _
    exact exec_eq_afterCore rfl hw rfl
  · intro s n hw hm
    have hsame := trip_of_stopped (c := coreOf s) (if n < 128 then 1 else 2) n (.inr (.inl hm))
    refine exec_eq_afterCore (f := secondStage n) rfl hw ((secondStage_tripped n (by rw [hsame]; exact hm)).trans ?_)
    rw [hsame]
    rfl
  · intro s n hw hm
    exact exec_eq_afterCore (f := secondStage n) rfl hw (secondStage_tripped n (trip_mode _ _ (.inl hm)))
  · intro s rs hw hm hx
    exact exec_eq_after rfl hw (only_of_true _ (by simp [hm, hx]))
  · intro s eyes hw hc
    exact ⟨fun hm hi => exec_eq_afterCore rfl hw (restart_kept (c := coreOf s) eyes hc hm hi),
      fun hm hi => exec_eq_afterCore rfl hw (restart_lost (c := coreOf s) eyes hc hm hi),
      fun hm hi => exec_eq_afterCore rfl hw (restart_without_image (c := coreOf s) eyes hc hm hi)⟩

end Sys2Proof.Machine

/-! A BEACON (R402): what it leaves of the time counter. -/

namespace Sys2Proof.Machine

/-- A loop whose passes leave the clock leaves it. -/
theorem foldl_clock {α : Type} {f : Hw → α → Hw} (hf : ∀ h x, (f h x).clock = h.clock) (xs : List α) (h : Hw) :
    (xs.foldl f h).clock = h.clock :=
  List.foldlRecOn (motive := fun t => t.clock = h.clock) xs f rfl (fun t ht x _ => (hf t x).trans ht)

section
variable (h : Hw)

@[simp] theorem raise_clock (s : Nat) (w : Where) : (raise h s w).clock = h.clock := (KeepsPlant.raise h s w).clock

@[simp] theorem sendWake_clock (ls : Nat) : (sendWake h ls).clock = h.clock :=
  foldl_clock (fun h _ => (KeepsPlant.sendFlit h ls .sync).clock) _ _

@[simp] theorem setLsState_clock (ls v : Nat) : (setLsState h ls v).clock = h.clock := rfl

@[simp] theorem wakeParked_clock (ls : List Nat) : (wakeParked h ls).clock = h.clock := by
  refine foldl_clock (fun h k => ?_) ls h
  dsimp only
  split
  · exact sendWake_clock ..
  · split <;> rfl

@[simp] theorem setDomain_clock (d v : Nat) : (setDomain h d v).clock = h.clock := by
  unfold setDomain
  dsimp only
  split
  · rfl
  · split
    · rfl
    · split
      · exact raise_clock ..
      · rfl

@[simp] theorem engOn_clock (t : Nat) : (engOn h t).clock = h.clock :=
  foldl_clock (fun h e => by split <;> rfl) _ h

@[simp] theorem noteReplay_clock (ch : Nat) (crc : Bool) : (noteReplay h ch crc).clock = h.clock := by
  unfold noteReplay
  split <;> exact raise_clock ..

@[simp] theorem ownCommands_clock (ch n : Nat) (wr : Bool) : (ownCommands h ch n wr).clock = h.clock := by
  unfold ownCommands
  dsimp only
  split_ifs <;> simp

@[simp] theorem takeSeq_clock (ch n : Nat) : (takeSeq h ch n).clock = h.clock := by
  unfold takeSeq
  dsimp only
  split <;> simp

@[simp] theorem leaveSr_clock (d : Nat) : (leaveSr h d).clock = h.clock := by
  simp only [leaveSr, setDieState, setObj_clock]
  refine (foldl_clock (fun h p => ?_) _ _).trans (foldl_clock (fun h ch => ?_) _ _)
  · rfl
  · exact takeSeq_clock h ch 2

@[simp] theorem restartBlocks_clock (q : Sleep) : (restartBlocks h q).clock = h.clock := by
  simp only [restartBlocks, setObj_clock]
  have hengines (h : Hw) := foldl_clock (f := fun h t => if domainState h (engDomain t) = 0 then engOn h t else h)
    (fun h t => by split <;> simp) (List.range 8) h
  have hdies (h : Hw) := foldl_clock (f := fun h d => if dieState h d = 2 then leaveSr h d else h)
    (fun h d => by split <;> simp) (List.range 16) h
  have hdomains (h : Hw) := foldl_clock (f := fun h d => setDomain h d (q.before.getD d (domainState h d)))
    (fun h d => setDomain_clock ..) (List.range 62) h
  split_ifs <;> simp only [setPower, hdies, hengines, hdomains, wakeParked_clock]

@[simp] theorem finishOp_clock (p : Nat) (a : Answer) : (finishOp h p a).clock = h.clock := by
  unfold finishOp
  split <;> rfl

@[simp] theorem endSleep_clock (result block : Nat) (a : Answer) : (endSleep h result block a).clock = h.clock := by
  unfold endSleep
  split
  · rfl
  · dsimp only
    split
    · rw [finishOp_clock]
      split
      · exact (raise_clock ..).trans (restartBlocks_clock ..)
      · exact restartBlocks_clock ..
    · split
      · exact (raise_clock ..).trans (restartBlocks_clock ..)
      · exact restartBlocks_clock ..

/-- A wake event leaves the time counter to run. -/
@[simp] theorem wakeEvent_clock (code detail : Nat) : (wakeEvent code detail h).clock = h.clock := by
  unfold wakeEvent
  dsimp only
  split_ifs
  · rfl
  · exact endSleep_clock ..
  · rfl
  · rfl
  · rfl
  · rfl

end

/-- A BEACON as it is counted: the receiver is back in search. -/
def beaconCounted (h : Hw) : Hw := bump (bump (frameEnd h) 0x1040 1) 0x9030 6

/-- The registers of the synchronisation stand as before the count. -/
theorem obj_beaconCounted (h : Hw) {j : Nat} (hj : j ≠ 6) : obj (beaconCounted h) 0x9030 j = obj h 0x9030 j :=
  (obj_setObj_other_sub _ _ _ _ hj).trans (obj_setObj_of_idx_lt (frameEnd h) _ j 0 (by decide) (by decide) (by decide))

/-- The error of the counter, as shown (0x9030:04). -/
def errorShown (e : Int) (h : Hw) : Hw :=
  if -2147483648 ≤ e ∧ e < 2147483648 then setObj h 0x9030 4 0 (ofSigned 32 e)
  else setObj (draw h 39).2 0x9030 4 0 ((draw h 39).1 % 2 ^ 32)

theorem errorShown_clock (e : Int) (h : Hw) : (errorShown e h).clock = h.clock := by
  unfold errorShown
  split <;> rfl

/-- The counter steps over an error ahead of it. -/
def stepCounter (e : Int) (h : Hw) : Hw :=
  raise (bump { h with clock := { h.clock with now := now h + e.toNat, slew := 0, slow := false } } 0x9030 5) Src.timeStep

/-- Any other error is left to slew. -/
def slewCounter (e threshold : Int) (h : Hw) : Hw := { h with clock := { h.clock with slew := e, slow := decide (e < -threshold) } }

/-- The counter after a BEACON of `time`: the error is shown, then stepped over or left to slew. -/
def synchronise (time : Nat) (h : Hw) : Hw :=
  let e : Int := (time : Int) + obj h 0x9030 2 - now h
  if (obj h 0x9030 3 : Int) < e then stepCounter e (errorShown e h) else slewCounter e (obj h 0x9030 3) (errorShown e h)

theorem beacon_eq (time : Nat) (h : Hw) :
    beacon time h = wakeEvent 3 63 (if !flag (beaconCounted h) 0x9030 1 then beaconCounted h else synchronise time (beaconCounted h)) := rfl

/-- What a BEACON does with synchronisation enabled. -/
theorem beacon_enabled (time : Nat) {h : Hw} (hf : flag h 0x9030 1 = true) :
    beacon time h = wakeEvent 3 63 (synchronise time (beaconCounted h)) := by
  have hflag : flag (beaconCounted h) 0x9030 1 = true := by
    rw [flag, obj_beaconCounted h (by decide)]
    exact hf
  rw [beacon_eq, hflag]
  rfl

/-- The counter after it, by the error. -/
theorem synchronise_clock (time : Nat) (h : Hw) {e : Int} (he : (time : Int) + obj h 0x9030 2 - now h = e) :
    ((obj h 0x9030 3 : Int) < e → now (synchronise time h) = now h + e.toNat) ∧
    (e ≤ obj h 0x9030 3 → now (synchronise time h) = now h ∧ (synchronise time h).clock.slew = e) := by
  have hshown : now (errorShown e h) = now h := congrArg Clock.now (errorShown_clock e h)
  refine ⟨fun hstep => ?_, fun hslew => ?_⟩
  · have hstepped : now (stepCounter e (errorShown e h)) = now (errorShown e h) + e.toNat := congrArg Clock.now (raise_clock ..)
    rw [synchronise, he, if_pos hstep, hstepped, hshown]
  · rw [synchronise, he, if_neg (Int.not_lt.mpr hslew)]
    exact ⟨hshown, rfl⟩

/-- Settles O44: the counter as the branch of the BEACON sets it; the wake event that follows leaves it. -/
theorem beaconSteps : Obligations.BeaconSteps := by
  unfold Obligations.BeaconSteps
  intro h time hf e
  have hclock : (beacon time h).clock = (synchronise time (beaconCounted h)).clock := by rw [beacon_enabled time hf, wakeEvent_clock]
  have hdelay := obj_beaconCounted h (j := 2) (by decide)
  obtain ⟨hstep, hslew⟩ := synchronise_clock time (beaconCounted h) (e := e) (by rw [hdelay]; rfl)
  rw [obj_beaconCounted h (j := 3) (by decide)] at hstep hslew
  rw [now, hclock]
  refine ⟨fun ht => ?_, hslew⟩
  have hstepped : now (synchronise time (beaconCounted h)) = now h + e.toNat := hstep ht
  have he : e = (time : Int) + obj h 0x9030 2 - now h := rfl
  rw [now] at hstepped
  omega

end Sys2Proof.Machine

/-! Milestone, time, steward, fuse, interconnect, BIST and session events, by the branch they take (R380, R396, R397, R402 to R404, R424,
R425, R430, R432, R435). -/

namespace Sys2Proof.Machine

section
variable {h : Hw}

theorem milestoneRelease_low (hb : h.faults.ballLow = true) :
    milestoneRelease h = emit (setFaults h { h.faults with ballLow := false }) .milestoneReleased :=
  if_pos hb

/-- The end of a restart of the stewards (R403, R404). -/
theorem stewardsBack_restarting (hr : h.faults.restarting = true) :
    stewardsBack h =
      let t := setObj (setFaults h { h.faults with restarting := false, modelDue := false }) 0x8200 3 0 ((now h - h.faults.runStart) / 1000)
      if h.faults.modelDue then runModels t false else t := by
  simp only [stewardsBack, hr, Bool.not_true, Bool.false_eq_true, if_false]
  rfl

/-- A loop whose passes leave the test state leaves it. -/
theorem foldl_test {α : Type} {f : Hw → α → Hw} (hf : ∀ h x, (f h x).test = h.test) (xs : List α) (h : Hw) : (xs.foldl f h).test = h.test :=
  List.foldlRecOn (motive := fun t => t.test = h.test) xs f rfl (fun t ht x _ => (hf t x).trans ht)

/-- Records that take effect leave the APPLY operations that wait. -/
theorem takeShadows_applyPaths (h : Hw) : (takeShadows h).test.applyPaths = h.test.applyPaths := by
  unfold takeShadows
  dsimp only
  rw [foldl_test (fun h d => by split <;> rfl)]
  rfl

/-- Every APPLY that waits takes effect at a quiescent point (R425). -/
theorem quiescentPoint_waiting (ha : h.test.applyPaths ≠ []) (hq : quiescent h = true) :
    quiescentPoint h =
      let t := setObj (takeShadows h) 0xA020 5 0 0
      h.test.applyPaths.foldl (fun h p => finishOp (bump h 0xA020 6) p { status := .ok, total := 4 }) (setTest t { t.test with applyPaths := [] }) := by
  have hpaths : (setObj (takeShadows h) 0xA020 5 0 0).test.applyPaths = h.test.applyPaths := by
    rw [setObj_test, takeShadows_applyPaths]
  have hempty : h.test.applyPaths.isEmpty = false := List.isEmpty_eq_false_iff.mpr ha
  unfold quiescentPoint
  rw [if_neg (by simp [hempty, hq])]
  dsimp only
  rw [hpaths]

/-- The oldest APPLY that waits ends (R425). -/
theorem applyTimeout_waiting {p : Nat} {ps : List Nat} (ha : h.test.applyPaths = p :: ps) :
    applyTimeout h = finishOp (setTest h { h.test with applyPaths := ps }) p { status := .notReady, total := 4 } := by
  simp only [applyTimeout, ha]

/-- An abandoned session is discarded and reported (R380). -/
theorem loadingAbandoned_open (hs : obj h 0x1010 1 = 1) :
    loadingAbandoned h = raise (bump (closeSession h h.dict.prior) 0x1010 9) Src.loadingAbandoned := by
  simp only [loadingAbandoned, dropSession, hs, if_true]

end

/-- The march of an array test ends (R430). -/
theorem arrayTestDone_running {c : Core} {d : Nat} (failing : Nat) (hd : c.hw.test.testDie = some d) :
    arrayTestDone failing c =
      (c.store (.fill (.die d))).onHw (fun h =>
        let h := setObj (setObj h 0xB300 2 d (if failing = 0 then 2 else 3)) 0xB300 3 d failing
        let h := setDomain (setDomain h (arrDomain d) 2) (dctDomain (d / 2)) 2
        let h := match h.test.testPath with | some p => finishOp h p { status := .ok, total := 4 } | none => h
        setTest h { h.test with testDie := none, testPath := none }) := by
  simp only [arrayTestDone, hd] <;> rfl

/-- Settles O43: each event's function, on the state that the clause describes, takes the branch of the event. -/
theorem faultAndTestEventsComplete : Obligations.FaultAndTestEventsComplete := by
  unfold Obligations.FaultAndTestEventsComplete
  refine ⟨?_, ?_, ?_, ?_, ?_, ?_, ?_, ?_, ?_, ?_, ?_, ?_⟩
  · intro s hm hb
    have hon : (((begin s.hw).mode == .run || (begin s.hw).mode == .stopping) && !(begin s.hw).faults.ballLow) = true := by
      rcases hm with hm | hm <;> simp [hm, hb]
    exact exec_eq_after rfl rfl (only_of_true _ hon)
  · intro s hb
    exact exec_eq_after rfl rfl (milestoneRelease_low (h := begin s.hw) hb)
  · intro s time hw ha
    exact exec_eq_after rfl hw (only_of_true _ ha)
  · intro s hr
    exact exec_eq_after rfl rfl (only_of_true mismatch hr)
  · intro s hr
    exact exec_eq_after rfl rfl (only_of_true _ hr)
  · intro s hr
    exact exec_eq_after rfl rfl (stewardsBack_restarting (h := begin s.hw) hr)
  · intro s ha hq
    exact exec_eq_after rfl rfl (quiescentPoint_waiting (h := begin s.hw) ha hq)
  · intro s p ps ha
    exact exec_eq_after rfl rfl (applyTimeout_waiting (h := begin s.hw) ha)
  · intro s failing d p hw hd _
    exact exec_eq_afterCore rfl hw (arrayTestDone_running (c := coreOf s) failing hd)
  · intro s
    exact exec_eq_after rfl rfl rfl
  · intro s found lanes layers hw _
    exact exec_eq_after rfl hw rfl
  · intro s hs
    exact exec_eq_after rfl rfl (loadingAbandoned_open (h := begin s.hw) hs)

end Sys2Proof.Machine

/-! Reset and power events, by the branch they take (R311, R438 to R449, R451). -/

namespace Sys2Proof.Machine

section
variable {c : Core}

/-- RESET_N resets any stack that it does not hold already (R440). -/
theorem resetLow_not_held (hm : c.hw.mode ≠ .held) : resetLow c = (c.onHw bare).store .lose :=
  if_neg (by simpa using hm)

/-- The end of power-up (R442, R445, R448, R449), but for one that a trip before the first COMMIT has made run again. -/
theorem powerUpEnd_first (found : List (List Byte)) (hm : c.hw.mode = .powerUp) (hw : c.hw.test.window = false) (ht : obj c.hw 0x7880 1 ≠ 3) :
    powerUpEnd found c =
      (c.store (.fill (fillZone c.hw))).onHw (fun h =>
        let h := interconnect found h
        let d := draw h 38
        let h := setObj (setObj d.2 0xC000 2 0 (now d.2 / 1000)) 0xC001 2 0 (if fillZone d.2 = .all then 19500 else d.1 % 2 ^ 32)
        let h := if obj h 0x7880 1 = 3 then setObj (setObj h 0x7880 1 0 0) 0x7880 7 0 ((now h - h.therm.tripAt) / 1000000) else h
        goActive 0 h) := by
  have hagain : (obj c.hw 0x7880 1 == 3) = false := beq_eq_false_iff_ne.mpr ht
  simp only [powerUpEnd, hm, hw, hagain, bne_self_eq_false, Bool.or_self, Bool.false_and, Bool.false_eq_true, if_false]

end

/-- What the loss of the rails leaves: the fuses, with every domain off (R311). -/
def railsLost (c : Core) : Core :=
  (c.onHw (fun h => (List.range 62).foldl (fun h d => setObj h 0x7040 d 0 2) { bare h with mode := .off })).store .lose

/-- PWR_OK falls on a stack that is up (R441). -/
theorem pwrFall_up {h : Hw} (hheld : h.mode ≠ .held) (hoff : h.mode ≠ .off) :
    pwrFall h = { (span 2 28).foldl (fun h d => setDomain h d 2) (allSr (band h) (idleLanes h)) with mode := .off } := by
  unfold pwrFall
  rw [if_neg (by simp [hheld, hoff])]

/-- Settles O41: each event's function, on the state that the clause describes, takes the branch of the event. -/
theorem startEventsComplete : Obligations.StartEventsComplete := by
  unfold Obligations.StartEventsComplete
  refine ⟨?_, ?_, ?_, ?_, ?_, ?_, ?_⟩
  · intro s hm
    exact exec_eq_afterCore rfl rfl (resetLow_not_held (c := coreOf s) hm)
  · intro s strap failed hw hm
    exact exec_eq_after rfl hw (only_of_true (release strap failed) (by simp [hm]))
  · intro s found hw hm hopen ht
    exact exec_eq_afterCore rfl hw (powerUpEnd_first (c := coreOf s) found hm hopen ht)
  · intro s found hw _ _ _
    exact exec_eq_afterCore rfl hw rfl
  · intro s
    exact exec_eq_afterCore (f := railsLost) rfl rfl rfl
  · intro s hheld hoff
    exact exec_eq_after rfl rfl (pwrFall_up (h := begin s.hw) hheld hoff)
  · intro s hm hb
    refine exec_eq_afterCore (f := shutdownReady) rfl rfl ?_
    unfold shutdownReady
    refine (if_neg (by simp [coreOf, hm, hb])).trans ?_
    refine congrArg _ (funext fun h => ?_)
    generalize railsDown _ = down
    cases hp : down.boot.shutdownPath <;> simp only [setObj_boot, hp]

end Sys2Proof.Machine

/-! The Ouvend receiver, by the branch that an event takes (R356 to R362, R370, R322). -/

namespace Sys2Proof.Machine

section
variable {h : Hw}

@[simp] theorem path_setPath_same (h : Hw) (p : Nat) (v : PathState) : path (setPath h p v) p = v := tget_tput_same ..

@[simp] theorem setPath_setPath (h : Hw) (p : Nat) (v w : PathState) : setPath (setPath h p v) p w = setPath h p w := by
  simp only [setPath, tput_tput]

/-- A POLL as it is counted. -/
def pollCounted (h : Hw) : Hw := bump (frameEnd h) 0x1040 1

/-- A POLL at the strap address is answered with the held final answer, or with STATUS (R361). -/
theorem poll_eq {dest : Nat} (ho : ovbHears h = true) (hd : toStrap h dest = true) :
    poll dest h = (path h 0).held.elim (reply (pollCounted h) 4 (statusPayload (pollCounted h))) (reply (pollCounted h) 2) := by
  have hcounted : (!toStrap (bump (frameEnd h) 0x1040 1) dest) = false := by
    have hsame : toStrap (bump (frameEnd h) 0x1040 1) dest = toStrap h dest := rfl
    rw [hsame, hd]
    rfl
  have hpath : path (bump (frameEnd h) 0x1040 1) 0 = path h 0 := rfl
  simp only [poll, ho, hd, hcounted, hpath, Bool.not_true, Bool.true_or, Bool.or_self, Bool.false_eq_true, if_false]
  cases (path h 0).held <;> rfl

/-- The search ends, with a reception if a start delimiter followed the run (R358, R359). -/
def receptionStart (delimiter : Bool) (reference : Nat) (h : Hw) : Hw :=
  { h with dict := { h.dict with search := !delimiter, reception := if delimiter then some reference else none } }

/-- A run during a reception: one of twice its amplitude takes over. -/
theorem detect_receiving {ref : Nat} (amplitude : Nat) (delimiter : Bool) (reference : Nat) (hr : h.dict.reception = some ref) :
    detect amplitude delimiter reference h =
      if 2 * ref ≤ amplitude then receptionStart delimiter reference (bump h 0x1040 5) else h := by
  unfold detect
  rw [hr]
  rfl

/-- A run outside a reception, in search or not. -/
theorem detect_idle (amplitude : Nat) (delimiter : Bool) (reference : Nat) (hr : h.dict.reception = none) :
    detect amplitude delimiter reference h = receptionStart delimiter reference (if h.dict.search then bump h 0x1040 6 else h) := by
  unfold detect
  rw [hr]
  rfl

/-- A window without a start delimiter ends the search. -/
theorem windowCloses_searching (hs : h.dict.search = true) : windowCloses h = frameEnd (bump h 0x1040 4) := if_pos hs

/-- A frame that fails its CRC is counted (R356). -/
theorem frameError_crc {f : List Byte} (hc : frameCrcOk f = false) : frameError f h = bump (frameEnd h) 0x1040 2 := by
  simp only [frameError, hc, Bool.not_false, if_true]

/-- A final answer that is ready on Ouvend is held for POLL (R370). -/
theorem finalAnswer_ouvend {q : PendingOp} {body : List Byte} (hp : (path h 0).pending = some q) (hf : q.final = some body) :
    finalAnswer 0 h =
      let t := if q.recorded then recordOp h 0 q.body body else h
      setPath t 0 { path t 0 with pending := none, held := some body } := by
  simp only [finalAnswer, hp, hf, if_true, path_setPath_same, setPath_setPath]

end

/-- Settles O46: each event's function, on the state that the clause describes, takes the branch of the event. -/
theorem ouvendEventsComplete : Obligations.OuvendEventsComplete := by
  unfold Obligations.OuvendEventsComplete
  refine ⟨?_, ?_, ?_, ?_, ?_, ?_⟩
  · intro s dest hw ho hd
    have hpoll := poll_eq (h := begin s.hw) ho hd
    refine ⟨fun body hb => exec_eq_after rfl hw (hpoll.trans ?_), fun hn => exec_eq_after rfl hw (hpoll.trans ?_)⟩
    · rw [show (path (begin s.hw) 0).held = some body from hb]
      rfl
    · rw [show (path (begin s.hw) 0).held = none from hn]
      rfl
  · intro s amplitude reference delimiter hw ho
    have hexec {t : Hw} (ht : detect amplitude delimiter reference (begin s.hw) = t) :
        exec (.preambleDetect amplitude delimiter reference) s = .next (after s t) :=
      exec_eq_after rfl hw ((only_of_true (detect amplitude delimiter reference) ho).trans ht)
    refine ⟨fun ref hr ha => hexec ?_, fun ref hr ha => hexec ?_, fun hr hs => hexec ?_, fun hr hs => hexec ?_⟩
    · exact (detect_receiving (h := begin s.hw) _ _ _ hr).trans (if_pos ha)
    · exact (detect_receiving (h := begin s.hw) _ _ _ hr).trans (if_neg (by omega))
    · exact (detect_idle (h := begin s.hw) _ _ _ hr).trans (congrArg _ (if_pos hs))
    · exact (detect_idle (h := begin s.hw) _ _ _ hr).trans (congrArg _ (if_neg (by simp [hs])))
  · intro s ho hs
    exact exec_eq_after rfl rfl ((only_of_true windowCloses ho).trans (windowCloses_searching (h := begin s.hw) hs))
  · intro s f hw ho hc
    exact exec_eq_after rfl hw ((only_of_true (frameError f) ho).trans (frameError_crc hc))
  · intro s q body hp hf
    exact exec_eq_after rfl rfl ((only_of_true (finalAnswer 0) rfl).trans (finalAnswer_ouvend (h := begin s.hw) hp hf))
  · intro s lost hw hm ho
    exact exec_eq_afterCore rfl hw (if_pos (by simp [hm, ho]))

end Sys2Proof.Machine

/-! What precedes the execution of a dictionary operation (R369, R371 to R373, R451). -/

namespace Sys2Proof.Machine

section
variable {s : State} {src : OpSource} {p : Nat} {b : OpBody} {h : Hw}

/-- What holds of the operation served holds of the source's operands. -/
theorem holds_of_served {q : OpBody → Bool} (hw : src.wf = true) (hs : Served s src p b h) (hq : q b = true) : src.holds q = true := by
  cases src with
  | ouvend dest body =>
    obtain ⟨rfl, -⟩ := hs
    simp only [OpSource.holds, hw, hq, Bool.and_self]
  | mgt n => simp only [OpSource.holds, hw, Bool.and_self]

/-- The row of a dictionary operation hands it to `serve`. -/
theorem exec_served {c : Instr} {x : Extra} {mine : OpBody → Bool} (he : exec c s = runCore c.wf (dictOp x mine src) s) (hw : c.wf = true)
    (hs : Served s src p b h) (hm : mine b = true) : exec c s = .next (afterCore s (serve x p true b { coreOf s with hw := h })) :=
  exec_eq_afterCore he hw (dictOp_served x mine hs hm)

/-- The row that serves an operation on any object, by its OP. -/
def IsRow (src : OpSource) (b : OpBody) (i : Instr) : Prop :=
  (b.op = 1 ∧ i = .get src) ∨ (b.op = 2 ∧ i = .set src) ∨ (b.op = 4 ∧ i = .list src) ∨ (b.op = 5 ∧ i = .blockGet src)

/-- Its frame: GET, SET, LIST and BLOCK-GET alike. -/
theorem row_frame {i : Instr} (hi : IsRow src b i) (hw : src.wf = true) (hs : Served s src p b h) :
    ∃ mine : OpBody → Bool, exec i s = runCore i.wf (dictOp {} mine src) s ∧ i.wf = true ∧ mine b = true := by
  rcases hi with ⟨ho, rfl⟩ | ⟨ho, rfl⟩ | ⟨ho, rfl⟩ | ⟨ho, rfl⟩
  · exact ⟨_, rfl, holds_of_served hw hs (by simp [OpBody.isGet, ho]), by simp [OpBody.isGet, ho]⟩
  · exact ⟨_, rfl, holds_of_served hw hs (by simp [OpBody.isSet, ho]), by simp [setRow, ho]⟩
  · exact ⟨_, rfl, holds_of_served hw hs (by simp [OpBody.does, ho]), by simp [OpBody.does, ho]⟩
  · exact ⟨_, rfl, holds_of_served hw hs (by simp [OpBody.does, ho]), by simp [OpBody.does, ho]⟩

/-- Any operation on such a row is served. -/
theorem exec_row {i : Instr} (hi : IsRow src b i) (hw : src.wf = true) (hs : Served s src p b h) :
    exec i s = .next (afterCore s (serve {} p true b { coreOf s with hw := h })) := by
  obtain ⟨mine, he, hwf, hm⟩ := row_frame hi hw hs
  exact exec_served he hwf hs hm

/-- One that is executed, and whose action ends at once, is answered. -/
theorem exec_row_answered_core {i : Instr} {d : Core} {a : Answer} (hi : IsRow src b i) (hw : src.wf = true) (ht : Takes s src p b h)
    (hx : execute {} { coreOf s with hw := h } p p b = .done d a) :
    exec i s = .next (afterCore s (d.onHw (fun h => answerNow h p b a true))) := by
  obtain ⟨mine, he, hwf, hm⟩ := row_frame hi hw ht.1
  exact exec_answered_core he hwf ht hm hx

/-- The same for an action that touches no stored line. -/
theorem exec_row_answered {i : Instr} {h' : Hw} {a : Answer} (hi : IsRow src b i) (hw : src.wf = true) (ht : Takes s src p b h)
    (hx : execute {} { coreOf s with hw := h } p p b = .done { coreOf s with hw := h' } a) : exec i s = .next (Answered s p b a h') :=
  exec_row_answered_core hi hw ht hx

end

section
variable {x : Extra} {p : Nat} {b : OpBody} {c : Core}

theorem serve_restarting (hr : c.hw.faults.restarting = true) :
    serve x p true b c = c.onHw (fun h => answerNow h p b { status := .retry, total := fixedTotal b } true) := by
  simp only [serve, hr, if_true]

theorem serve_malformed (hr : c.hw.faults.restarting = false) (hm : malformed b = true) :
    serve x p true b c = c.onHw (fun h => answerNow h p b { status := .badOperation, total := fixedTotal b } true) := by
  simp only [serve, hr, hm, Bool.false_eq_true, if_false, if_true]

theorem serve_pending (hr : c.hw.faults.restarting = false) (hm : malformed b = false) (hp : (path c.hw p).pending.isSome = true) :
    serve x p true b c = c.onHw (fun h => bump (answerNow h p b { status := .busy, total := fixedTotal b } true) 0x1040 11) := by
  simp only [serve, hr, hm, hp, Bool.false_eq_true, if_false, if_true]
  rfl

theorem serve_recorded {body : List Byte} (hr : c.hw.faults.restarting = false) (hm : malformed b = false) (hp : (path c.hw p).pending = none)
    (hb : recorded c.hw p b = some body) : serve x p true b c = c.onHw (fun h => sendAnswer (bump h 0x1040 9) p body) := by
  simp only [serve, hr, hm, hp, hb, Option.isSome_none, Bool.false_eq_true, if_false, if_true]

/-- An operation that a check of Table 13.10 refuses. -/
theorem serve_refused {a : Answer} (hf : Fresh c.hw p b) (ha : refusal c.hw p b = some a) :
    serve x p true b c = c.onHw (fun h => answerNow h p b a true) := by
  obtain ⟨hr, hm, hp, hn⟩ := hf
  simp only [serve, hr, hm, hp, hn, execute, ha, Option.isSome_none, Bool.false_eq_true, if_false, if_true]

/-- An object that an operation passes the checks for, but LIST, is there. -/
theorem rowAt_of_not_refused {h : Hw} (hr : refusal h p b = none) (h4 : b.op ≠ 4) : ∃ r, rowAt b.index b.sub = some r := by
  refine Option.ne_none_iff_exists'.mp (fun hn => ?_)
  simp only [refusal, h4, if_false, rightsCheck, hn] at hr
  exact absurd hr (Option.some_ne_none _)

/-- A SET once the shutdown has ended (R451). -/
theorem setAct_off {r : ObjRow} (hr : rowAt b.index b.sub = some r) (hm : c.hw.mode = .off) :
    setAct c p b = .done c { status := .notReady, total := fixedTotal b } := by
  simp only [setAct, hr, hm, beq_self_eq_true, if_true]

/-- A command then. -/
theorem execute_cmd_off {w : Nat} (hr : refusal c.hw p b = none) (ho : b.op = 3) (hm : c.hw.mode = .off) :
    execute x c p w b = .done c { status := .notReady, total := 4 } := by
  rw [execute_takes x c p w b hr]
  simp only [ho, hm, beq_self_eq_true, if_true]
  rfl

end

/-- Once the shutdown has ended the row of a command answers NOT_READY (R451). -/
theorem exec_cmd_off {c : Instr} {x : Extra} {index sub : Nat} {s : State} {src : OpSource} {p : Nat} {b : OpBody} {h : Hw} (ht : Takes s src p b h)
    (hm : h.mode = .off) (he : exec c s = runCore c.wf (dictOp x (OpBody.names 3 index sub) src) s) (hw : c.wf = true)
    (hb : b.names 3 index sub = true) : exec c s = .next (Answered s p b { status := .notReady, total := 4 } h) :=
  exec_answered he hw ht hb (execute_cmd_off (c := { coreOf s with hw := h }) ht.2.2 (namesRun_iff.mp hb).1 hm)

/-- Settles O48: `serve` by what it finds before execution, and the two branches that the end of a shutdown takes in it. -/
theorem refusedOperationDoesNothing : Obligations.RefusedOperationDoesNothing := by
  unfold Obligations.RefusedOperationDoesNothing
  intro s src p b h hsrc hs
  refine ⟨fun i hi => ?_, fun hf hr hm => ⟨fun ho => ?_, ?_⟩⟩
  · have hexec := exec_row hi hsrc hs
    refine ⟨fun hr => ?_, fun hr hm => ?_, fun hr hm hp => ?_, fun body hr hm hp hb => ?_, fun a hf ha => ?_⟩
    · exact hexec.trans (by rw [serve_restarting (c := { coreOf s with hw := h }) hr]; rfl)
    · exact hexec.trans (by rw [serve_malformed (c := { coreOf s with hw := h }) hr hm]; rfl)
    · exact hexec.trans (by rw [serve_pending (c := { coreOf s with hw := h }) hr hm hp]; rfl)
    · exact hexec.trans (by rw [serve_recorded (c := { coreOf s with hw := h }) hr hm hp hb]; rfl)
    · exact hexec.trans (by rw [serve_refused (c := { coreOf s with hw := h }) hf ha]; rfl)
  · obtain ⟨r, hrow⟩ := rowAt_of_not_refused hr (by omega)
    have hx : execute {} { coreOf s with hw := h } p p b = .done { coreOf s with hw := h } { status := .notReady, total := fixedTotal b } := by
      rw [execute_takes {} _ p p b hr]
      simp only [ho]
      exact setAct_off (c := { coreOf s with hw := h }) hrow hm
    exact exec_answered rfl (holds_of_served hsrc hs (by simp [OpBody.isSet, ho])) ⟨hs, hf, hr⟩ (by simp [setRow, ho]) hx
  · have hoff {c : Instr} {index sub : Nat} := exec_cmd_off (c := c) (x := {}) (index := index) (sub := sub) ⟨hs, hf, hr⟩ hm
    simp only [List.forall_mem_cons]
    exact ⟨hoff rfl, hoff rfl, hoff rfl, hoff rfl, hoff rfl, hoff rfl, hoff rfl, hoff rfl, hoff rfl, hoff rfl, hoff rfl, hoff rfl, hoff rfl,
      hoff rfl, hoff rfl, hoff rfl, hoff rfl, hoff rfl, hoff rfl, hoff rfl, hoff rfl, hoff rfl, hoff rfl, hoff rfl, hoff rfl, hoff rfl, hoff rfl,
      hoff rfl, hoff rfl, hoff rfl, hoff rfl, hoff rfl, hoff rfl, List.forall_mem_nil _⟩

end Sys2Proof.Machine

/-! GET, SET, LIST and BLOCK-GET, by the branch they take (R366 to R368, R379). -/

namespace Sys2Proof.Machine

section
variable {s : State} {src : OpSource} {p : Nat} {b : OpBody} {h : Hw} {r : ObjRow}

/-- An operation that is executed, by its OP. -/
theorem execute_op (x : Extra) (ht : Takes s src p b h) :
    (b.op = 1 → execute x { coreOf s with hw := h } p p b = getAct x { coreOf s with hw := h } p b) ∧
    (b.op = 2 → execute x { coreOf s with hw := h } p p b = setAct { coreOf s with hw := h } p b) ∧
    (b.op = 4 → execute x { coreOf s with hw := h } p p b = listAct { coreOf s with hw := h } b) ∧
    (b.op = 5 → execute x { coreOf s with hw := h } p p b = blockAct x { coreOf s with hw := h } p b) := by
  rw [execute_takes x _ p p b ht.2.2]
  refine ⟨fun ho => ?_, fun ho => ?_, fun ho => ?_, fun ho => ?_⟩ <;> simp only [ho]

end

section
variable {x : Extra} {c : Core} {p : Nat} {b : OpBody} {r : ObjRow}

/-- A GET of a fixed-size object that is no checker's counter answers its value at the selector (R366). -/
theorem getAct_value (hr : rowAt b.index b.sub = some r) (hs : segmented b.index b.sub = false) (h1 : r.idx ≠ 0x2231) (h2 : r.idx ≠ 0x2232) :
    getAct x c p b = .done { c with hw := powerOtp c.hw p r.idx b.sub }
      { status := .ok, count := 1, total := r.size, data := leBytes r.size (readAt c.hw p r b.sub b.selector (wantsShadow b)) } := by
  simp only [getAct, hr, hs, readObj, h1, h2, or_self, Bool.false_eq_true, if_false]

/-- A read of the debug line leaves the stored lines. -/
theorem debugAccess_eq (c : Core) (loc sub : Nat) : debugAccess c loc sub = { c with hw := (debugAccess c loc sub).hw } := by
  unfold debugAccess
  dsimp only
  split <;> rfl

/-- What the read of a STRING or BLOB does besides: the debug port reaches its line, OTP is powered for fuses. -/
def readPowered (c : Core) (p : Nat) (b : OpBody) : Hw :=
  if b.index = 0xB200 then (debugAccess c (obj c.hw 0xB200 1 p) 2).hw else powerOtp c.hw p b.index b.sub

/-- A GET of a STRING or BLOB answers a part of it from OFFSET on (R367). -/
theorem getAct_part {v : List Byte} {sel : Option Nat} (hr : rowAt b.index b.sub = some r) (hs : segmented b.index b.sub = true)
    (hv : readBytes c p r b.sub b.selector (wantsShadow b) = some (v, sel)) :
    getAct x c p b = .done { c with hw := readPowered c p b }
      { status := .ok, count := bit !((v.drop b.offset).take 240).isEmpty, total := v.length, selector := sel, data := (v.drop b.offset).take 240 } := by
  simp only [getAct, hr, hs, hv, if_true, readPowered]
  split
  · rw [← debugAccess_eq]
  · rfl

/-- One that cannot be read now is NOT_READY. -/
theorem getAct_unreadable (hr : rowAt b.index b.sub = some r) (hs : segmented b.index b.sub = true)
    (hv : readBytes c p r b.sub b.selector (wantsShadow b) = none) : getAct x c p b = .done c { status := .notReady } := by
  simp only [getAct, hr, hs, hv, if_true]

/-- A SET of a fixed-size object writes every member that the selector names (R25, R366). -/
theorem setAct_members (hm : c.hw.mode ≠ .off) (hr : rowAt b.index b.sub = some r) (hs : segmented b.index b.sub = false) :
    setAct c p b = .done { c with hw := (selMembers b.selector r.depth).foldl (fun h u => putVal h p r b.sub (leNat b.data) u) c.hw }
      { status := .ok, total := r.size } := by
  simp only [setAct, hr, hs, beq_iff_eq, hm, Bool.false_eq_true, if_false, Core.onHw]

/-- A SET of a STRING or BLOB that adds a segment puts the new value in place (R367). -/
theorem setAct_segment {v : List Byte} {d : Core} (hm : c.hw.mode ≠ .off) (hr : rowAt b.index b.sub = some r) (hs : segmented b.index b.sub = true)
    (hb : b.index = 0xB200 → b.data.length = 72)
    (hv : segment c.hw (segKey b.index b.sub p) (segmentMax r) (segmentBase c.hw p b.index b.sub) b.offset b.data = some (some v))
    (hd : putBytes c p b.index b.sub v = some d) :
    setAct c p b =
      .done (d.onHw (fun h => { h with dict := { h.dict with segments := tset h.dict.segments (segKey b.index b.sub p) (b.offset, b.data.length) } }))
        { status := .ok, total := v.length } := by
  have hwhole : ¬(b.index = 0xB200 ∧ b.data.length ≠ 72) := fun hn => hn.2 (hb hn.1)
  simp only [setAct, hr, hs, beq_iff_eq, hm, if_false, if_true, setBytesAct, if_neg hwhole, hv, hd]

end

/-- Settles O47: each operation is executed (`execute_op`), and the lemma about its branch says what it leaves and answers. -/
theorem dictionaryOperationsComplete : Obligations.DictionaryOperationsComplete := by
  unfold Obligations.DictionaryOperationsComplete
  intro s src p b h hsrc ht
  obtain ⟨hget, hset, hlist, hblock⟩ := execute_op {} ht
  refine ⟨fun r ho hr hs h1 h2 => ?_, fun r v sel ho hr hs hv => ?_, fun r ho hr hs hv => ?_, fun r ho hm hr hs => ?_,
    fun r v c ho hm hr hs hb hv hc => ?_, fun ho => ?_, fun ho => ?_⟩
  · exact exec_row_answered (.inl ⟨ho, rfl⟩) hsrc ht ((hget ho).trans (getAct_value hr hs h1 h2))
  · exact exec_row_answered (.inl ⟨ho, rfl⟩) hsrc ht ((hget ho).trans (getAct_part hr hs hv))
  · exact exec_row_answered (.inl ⟨ho, rfl⟩) hsrc ht ((hget ho).trans (getAct_unreadable hr hs hv))
  · exact exec_row_answered (.inr (.inl ⟨ho, rfl⟩)) hsrc ht ((hset ho).trans (setAct_members hm hr hs))
  · have hexec := exec_row_answered_core (i := .set src) (.inr (.inl ⟨ho, rfl⟩)) hsrc ht
      ((hset ho).trans (setAct_segment hm hr hs (fun hn => absurd hn hb) hv hc))
    rw [onHw_onHw] at hexec
    exact hexec
  · exact exec_row_answered (.inr (.inr (.inl ⟨ho, rfl⟩))) hsrc ht (hlist ho)
  · exact exec_row_answered (.inr (.inr (.inr ⟨ho, rfl⟩))) hsrc ht (hblock ho)

end Sys2Proof.Machine

/-! The commands of the configuration session, of fault sources, of Grey mode and of Milestone, by the branch they take (R379 to R381, R388,
R390, R391, R394, R396, R399, R405, R407, R443). -/

namespace Sys2Proof.Machine

section
variable {x : Extra} {c : Core} {p : Nat}

theorem beginLoadingAct_opens (hm : c.hw.mode ≠ .powerUp) :
    beginLoadingAct c p = actHw c (setObj (closeSession { c.hw with dict := { c.hw.dict with prior := obj c.hw 0x1010 1 } } 1) 0x1010 5 0 (p + 1)) := by
  simp only [beginLoadingAct, beq_iff_eq, hm, if_false]

/-- Before step 11 of power-up (R443). -/
theorem beginLoadingAct_early (hm : c.hw.mode = .powerUp) : beginLoadingAct c p = actHw c c.hw .notReady := by
  simp only [beginLoadingAct, hm, beq_self_eq_true, if_true]

/-- A COMMIT whose joint checks pass (R381). -/
theorem commitAct_passes (hf : commitFailure c.hw = none) : commitAct c = .done (limitGears { c with hw := commitEffect c.hw }) okAnswer := by
  simp only [commitAct, hf]
  rfl

/-- One that fails (R381). -/
theorem commitAct_fails {st : Status} {idx sub : Nat} {k : Hw} (hf : commitFailure c.hw = some (st, idx, sub, k)) :
    commitAct c = .done { c with hw := setObj k 0x1010 8 0 (idx * 256 + sub) } { status := st, index := some idx, sub := some sub, total := 4 } := by
  simp only [commitAct, hf]

/-- FORCE of an enabled source (R391). -/
theorem forceAct_enabled {n : Nat} (ha : assigned n = true) (he : srcEnabled c.hw n = true) : forceAct c n = actHw c (raise c.hw n { forced := true }) :=
  if_pos (by simp [ha, he])

theorem forceAct_disabled {n : Nat} (hn : assigned n = false ∨ srcEnabled c.hw n = false) : forceAct c n = actHw c c.hw .notReady :=
  if_neg (by rcases hn with hn | hn <;> simp [hn])

/-- CLEAR of a source by whether its condition holds (R390). -/
theorem clearAct_inactive {n : Nat} (ha : srcActive c.hw n = false) : clearAct c n = actHw c (setLatch (setObj c.hw 0x8000 2 n 0) n false) :=
  if_neg (by simp [ha])

theorem clearAct_active {n : Nat} (ha : srcActive c.hw n = true) : clearAct c n = actHw c c.hw .stillActive := if_pos ha

/-- RESUME outside Grey mode. -/
theorem resumeAct_not_grey (hg : grey c.hw = false) : resumeAct c = actHw c c.hw := if_pos (by simp [hg])

/-- RESUME that something still forbids (R407). -/
theorem resumeAct_refused (hg : grey c.hw = true) (hr : integrityLatch c.hw = true ∨ obj c.hw 0x4000 1 = 3) : resumeAct c = actHw c c.hw .notReady := by
  have hbarred : (integrityLatch c.hw || obj c.hw 0x4000 1 == 3 || c.hw.faults.restarting) = true := by rcases hr with hr | hr <;> simp [hr]
  exact (if_neg (by simp [hg])).trans (if_pos hbarred)

/-- What RESUME does (R407): placement goes on, halted engines may run again, every input is judged anew. -/
def resumed (h : Hw) : Hw :=
  let t := setObj h 0x8300 1 0 0
  let t := setPlace (setObj t 0x4000 1 0 t.faults.greyPlacement) { t.place with waitsEpoch := true }
  let t := (List.range 32).foldl (fun h e =>
    if engState h e = 3 && !engineUnit h e then setEngState h e (if domainState h (engDomain (e / 4)) = 0 then 0 else 2) else h) t
  (List.range 8).foldl reinput t

theorem resumeAct_resumes (hg : grey c.hw = true) (hl : integrityLatch c.hw = false) (hp : obj c.hw 0x4000 1 ≠ 3) (hr : c.hw.faults.restarting = false) :
    resumeAct c = actHw c (resumed c.hw) := by
  have hfree : (integrityLatch c.hw || obj c.hw 0x4000 1 == 3 || c.hw.faults.restarting) = false := by simp [hl, hp, hr]
  exact (if_neg (by simp [hg])).trans (if_neg (by simp [hfree]))

/-- The row of a snapshot value: a BLOB, which is no SHADOW and reads no fuse. -/
theorem getAct_snapshot {b : OpBody} (hi : b.index = 0x9020) (hs : b.sub = 2) :
    (∀ v sel, snapAt c.hw p b.selector = some (v, sel) → getAct x c p b = .done c
      { status := .ok, count := bit !((v.drop b.offset).take 240).isEmpty, total := v.length, selector := some sel, data := (v.drop b.offset).take 240 }) ∧
    (snapAt c.hw p b.selector = none → getAct x c p b = .done c { status := .notReady }) := by
  have hrow : ∃ r, rowAt 0x9020 2 = some r ∧ r.idx = 0x9020 := ⟨_, rfl, rfl⟩
  have hseg : segmented 0x9020 2 = true := by decide
  obtain ⟨r, hr, hidx⟩ := hrow
  rw [← hi, ← hs] at hr hseg
  have hbytes : readBytes c p r b.sub b.selector (wantsShadow b) = (snapAt c.hw p b.selector).map (fun v => (v.1, some v.2)) := by
    rw [readBytes, if_pos hidx]
  refine ⟨fun v sel hv => ?_, fun hv => getAct_unreadable hr hseg (by rw [hbytes, hv]; rfl)⟩
  have hunpowered : readPowered c p b = c.hw := by simp [readPowered, powerOtp, readsFuses, hi]
  rw [getAct_part (x := x) hr hseg (hbytes.trans (by rw [hv]; rfl)), hunpowered]

end

/-- A GET of one object that is executed. -/
theorem execute_get_names {x : Extra} {s : State} {src : OpSource} {p : Nat} {b : OpBody} {h : Hw} {index sub : Nat} (ht : Takes s src p b h)
    (hb : b.names 1 index sub = true) : execute x { coreOf s with hw := h } p p b = getAct x { coreOf s with hw := h } p b :=
  (execute_op x ht).1 (namesRun_iff.mp hb).1

/-- Settles O49: each operation is executed (`execute_cmd_names`), and the lemma about its object's action says what it leaves and how it is
answered. -/
theorem sessionAndFaultCommandsComplete : Obligations.SessionAndFaultCommandsComplete := by
  unfold Obligations.SessionAndFaultCommandsComplete
  intro s src p b h ht hn
  have hrestart : h.faults.restarting = false := ht.2.1.1
  refine ⟨?_, ?_, ?_, ?_, ?_, ?_, ?_, ?_, ?_, ?_, ?_, ?_, ?_⟩
  · intro hw hb
    have hx := execute_cmd_names (x := {}) ht hn hb
    exact ⟨fun hm => exec_answered rfl hw ht hb (hx.trans (beginLoadingAct_opens hm)),
      fun hm => exec_answered rfl hw ht hb (hx.trans (beginLoadingAct_early hm))⟩
  · intro hw hb
    have hx := execute_cmd_names (x := {}) ht hn hb
    exact ⟨fun hf => exec_answered_core rfl hw ht hb (hx.trans (commitAct_passes hf)),
      fun st idx sub k hf => exec_answered rfl hw ht hb (hx.trans (commitAct_fails hf))⟩
  · intro hw hb
    exact exec_answered (x := {}) rfl hw ht hb (execute_cmd_names ht hn hb)
  · intro hw hb
    have hx := execute_cmd_names (x := {}) ht hn hb
    exact ⟨fun ha he => exec_answered rfl hw ht hb (hx.trans (forceAct_enabled ha he)),
      fun hd => exec_answered rfl hw ht hb (hx.trans (forceAct_disabled hd))⟩
  · intro hw hb
    have hx := execute_cmd_names (x := {}) ht hn hb
    exact ⟨fun ha => exec_answered rfl hw ht hb (hx.trans (clearAct_inactive ha)),
      fun ha => exec_answered rfl hw ht hb (hx.trans (clearAct_active ha))⟩
  · intro hw hb
    exact exec_answered (x := {}) rfl hw ht hb (execute_cmd_names ht hn hb)
  · intro hw hb
    exact exec_answered (x := {}) rfl hw ht hb (execute_cmd_names ht hn hb)
  · intro hw hb
    exact exec_answered (x := {}) rfl hw ht hb (execute_cmd_names ht hn hb)
  · intro hw hb
    exact exec_answered (x := {}) rfl hw ht hb (execute_cmd_names ht hn hb)
  · intro hw hb
    have hx := execute_cmd_names (x := {}) ht hn hb
    exact ⟨fun hg hl hp => exec_answered rfl hw ht hb (hx.trans (resumeAct_resumes hg hl hp hrestart)),
      fun hg hr => exec_answered rfl hw ht hb (hx.trans (resumeAct_refused hg hr)),
      fun hg => exec_answered rfl hw ht hb (hx.trans (resumeAct_not_grey hg))⟩
  · intro hw hb
    exact exec_answered (x := {}) rfl hw ht hb (execute_cmd_names ht hn hb)
  · intro hw hb
    exact exec_answered (x := {}) rfl hw ht hb (execute_cmd_names ht hn hb)
  · intro hw hb
    obtain ⟨-, hi, hlo, hhi⟩ := namesRun_iff.mp hb
    have hx := execute_get_names (x := {}) ht hb
    obtain ⟨hpart, hnone⟩ := getAct_snapshot (x := {}) (c := { coreOf s with hw := h }) (p := p) hi (Nat.le_antisymm hhi hlo)
    exact ⟨fun v sel hv => exec_answered rfl hw ht hb (hx.trans (hpart v sel hv)),
      fun hv => exec_answered rfl hw ht hb (hx.trans (hnone hv))⟩

end Sys2Proof.Machine

/-! Fuse, calibration, lifecycle, interconnect and test commands, by the branch they take (R412, R414, R416, R417, R424 to R427, R430, R432,
R433, R435, R450). -/

namespace Sys2Proof.Machine

section
variable {c : Instr} {x : Extra} {mine : OpBody → Bool} {s : State} {src : OpSource} {p : Nat} {b : OpBody} {h h' : Hw} {d : Core} {a : Answer}

/-- An operation whose final answer is settled is answered PENDING. -/
theorem exec_later_core (he : exec c s = runCore c.wf (dictOp x mine src) s) (hw : c.wf = true) (ht : Takes s src p b h) (hm : mine b = true)
    (hx : execute x { coreOf s with hw := h } p p b = .later d a) :
    exec c s = .next (afterCore s (d.onHw (fun h => finishOp (answerPending h p b true) p a))) :=
  exec_eq_afterCore he hw (by rw [dictOp_takes x mine ht hm, hx])

/-- The same for an action that touches no stored line. -/
theorem exec_later (he : exec c s = runCore c.wf (dictOp x mine src) s) (hw : c.wf = true) (ht : Takes s src p b h) (hm : mine b = true)
    (hx : execute x { coreOf s with hw := h } p p b = .later { coreOf s with hw := h' } a) :
    exec c s = .next (AnsweredLater s p b a h') :=
  exec_later_core he hw ht hm hx

end

/-! Fuses. -/

section
variable {x : Extra} {c : Core} {p : Nat} {b : OpBody}

/-- A read-only object without units whose rule is MAX reads as its one value. -/
theorem readAt_one {h : Hw} {r : ObjRow} (sub sel : Nat) (shadow : Bool) (hd : r.depth = 0) (ha : r.acc = .ro) (hr : aggRule r = 1) :
    readAt h p r sub sel shadow = readVal h p r.idx sub (selUnit sel 0) := by
  have hunit : selMembers sel 0 = [selUnit sel 0] := by simp [selMembers, unitCount, span]
  have hro : (Acc.ro == Acc.rwl) = false := rfl
  simp [readAt, aggregate, hd, ha, hr, hro, hunit]

/-- The row of a fuse word, at the normal reference (0xA003:02) or the strict one (0xA003:03). -/
def fuseRow (sub : Nat) : ObjRow := ⟨0xA003, sub, sub, .u32, .ro, 0, 0, false, 4⟩

/-- A GET of a fuse word, with OTP powered if the read needs it (R414). -/
theorem getAct_fuse (hi : b.index = 0xA003) (hs : b.sub = 2 ∨ b.sub = 3) :
    getAct x c p b = .done { c with hw := powerOtp c.hw p 0xA003 b.sub }
      { status := .ok, count := 1, total := 4, data := leBytes 4 (readVal c.hw p 0xA003 b.sub (selUnit b.selector 0)) } := by
  have hrow : rowAt b.index b.sub = some (fuseRow b.sub) := by rcases hs with hs | hs <;> (rw [hi, hs]; rfl)
  have hseg : segmented b.index b.sub = false := by rcases hs with hs | hs <;> (rw [hi, hs]; rfl)
  have hrule : aggRule (fuseRow b.sub) = 1 := by rcases hs with hs | hs <;> (rw [hs]; rfl)
  rw [getAct_value hrow hseg (by simp [fuseRow]) (by simp [fuseRow]), readAt_one _ _ _ rfl rfl hrule]
  rfl

/-- The word comes from the cache, or from the fuses at the normal reference (R414, R418). -/
theorem getAct_fuse_word (hi : b.index = 0xA003) (hs : b.sub = 2) :
    getAct x c p b = .done { c with hw := if cached c.hw (obj c.hw 0xA003 1 p) then c.hw else otpRead c.hw }
      { status := .ok, count := 1, total := 4, data := leBytes 4 (fuseWord c.hw (obj c.hw 0xA003 1 p)) } := by
  have hpower : powerOtp c.hw p 0xA003 2 = if cached c.hw (obj c.hw 0xA003 1 p) then c.hw else otpRead c.hw := by
    cases hc : cached c.hw (obj c.hw 0xA003 1 p) <;> simp [powerOtp, readsFuses, hc]
  rw [getAct_fuse hi (.inl hs), hs]
  exact congrArg (fun h => Act.done { c with hw := h } _) hpower

/-- At the strict reference the fuses are read always. -/
theorem getAct_fuse_strict (hi : b.index = 0xA003) (hs : b.sub = 3) :
    getAct x c p b = .done { c with hw := otpRead c.hw }
      { status := .ok, count := 1, total := 4, data := leBytes 4 (strictWord c.hw (obj c.hw 0xA003 1 p)) } := by
  rw [getAct_fuse hi (.inr hs), hs]
  rfl

/-- A burn that its region is open to (R417). -/
theorem burnAct_open {failing w r : Nat} (hr : burnRegion w = some r) (ho : burnOpen c.hw r = true) (hf : finalised c.hw r = false) :
    burnAct failing c p w =
      let v := obj c.hw 0xA004 1 p
      let bad := v &&& failing
      .later { c with hw := if bad = 0 then burn c.hw w v bad else raise (burn c.hw w v bad) Src.fuseBurnFailed { detail := w } }
        { status := if bad = 0 then .ok else .notReady, total := 4 } := by
  simp only [burnAct, hr, ho, hf, Bool.not_false, Bool.and_self, Bool.not_true, Bool.false_eq_true, if_false]
  split
  · rfl
  · rfl

/-- The digest of a region that is open, not finalised and has no marginal word is burned (R416). -/
theorem finaliseAct_burns {r : Nat} (hf : finalised c.hw r = false) (ho : burnOpen c.hw r = true)
    (hm : ∀ w ∈ (region r).words, marginal c.hw w = false) :
    finaliseAct c r =
      .later { c with hw := ((region r).digestWords.zip (digestOf r (normalWord c.hw))).foldl (fun h e => burn h e.1 e.2 0) c.hw } okAnswer := by
  have hsound : ((region r).words.any (marginal c.hw)) = false := by simpa only [List.any_eq_false, Bool.not_eq_true] using hm
  simp only [finaliseAct, hf, ho, hsound, Bool.not_true, Bool.or_self, Bool.false_eq_true, if_false]
  rfl

/-! Lifecycle (Table 15.8). -/

theorem lifecycleAct_field (hs : obj c.hw 0xA040 4 = lifecycle c.hw) (hl : lifecycle c.hw = 0) :
    lifecycleAct c 1 = .later { c with hw := burnState c.hw 1 } okAnswer := by
  simp only [lifecycleAct, hs, hl, bne_self_eq_false, Bool.false_eq_true, if_false, and_self, if_true]
  rfl

theorem lifecycleAct_scrap (hs : obj c.hw 0xA040 4 = lifecycle c.hw) (hl : lifecycle c.hw < 3) :
    lifecycleAct c 3 = .later { c with hw := setObj (burnState c.hw 3) 0x1002 1 0 3 } okAnswer := by
  simp only [lifecycleAct, hs, hl, bne_self_eq_false, Bool.false_eq_true, if_false, and_true, if_true, OfNat.ofNat_ne_one, and_false]
  rfl

/-- RETURN without its authorisation is refused (R428). -/
theorem lifecycleAct_return_refused (hs : obj c.hw 0xA040 4 = lifecycle c.hw) (hl : lifecycle c.hw = 1) (hi : inUse c.hw 2 = true)
    (ha : authorised c.hw = false) :
    lifecycleAct c 2 = .later { c with hw := raise (bump (drawChallenge (otpRead c.hw)) 0xA040 5) Src.lifecycleAuthFailed }
      { status := .refused, total := 4 } := by
  simp only [lifecycleAct, hs, hl, hi, ha, bne_self_eq_false, Bool.false_eq_true, if_false, OfNat.ofNat_ne_one, and_false, if_true,
    Nat.reduceEqDiff, and_self]

/-! BIST, the debug port, the array test, shutdown. -/

/-- A BIST that runs is joined (R435). -/
theorem bistAct_joins (hb : obj c.hw 0xB010 2 = 1) :
    bistAct c p = .wait { c with hw := setTest c.hw { c.hw.test with bistPaths := c.hw.test.bistPaths ++ [p] } } := if_pos hb

/-- A stack with nothing to do begins one. -/
theorem bistAct_starts (hb : obj c.hw 0xB010 2 ≠ 1) (hm : c.hw.mode = .run) (ho : obj c.hw 0x7000 1 ≤ 1) (hj : jobHeld c.hw = false)
    (hr : reqHeld c.hw = false) :
    bistAct c p = .wait ((startBist c).onHw (fun h => setTest h { h.test with bistPaths := h.test.bistPaths ++ [p] })) :=
  (if_neg hb).trans (if_pos (by simp [hm, ho, hj, hr]))

/-- The row of the debug line: a BLOB of 72 bytes. -/
def debugLineRow : ObjRow := ⟨0xB200, 0x02, 0x02, .blob, .rw, 0, 0, false, 72⟩

theorem rowAt_debug_line (hi : b.index = 0xB200) (hs : b.sub = 2) :
    rowAt b.index b.sub = some debugLineRow ∧ segmented b.index b.sub = true := by
  rw [hi, hs]
  exact ⟨rfl, rfl⟩

/-- A read of the debug line (R430). -/
theorem getAct_debug_line (hi : b.index = 0xB200) (hs : b.sub = 2) (hd : debugReady c.hw (obj c.hw 0xB200 1 p) = true) :
    getAct x c p b =
      let v := debugRead c (obj c.hw 0xB200 1 p)
      .done { c with hw := (debugAccess c (obj c.hw 0xB200 1 p) 2).hw }
        { status := .ok, count := bit !((v.drop b.offset).take 240).isEmpty, total := v.length, data := (v.drop b.offset).take 240 } := by
  obtain ⟨hrow, hseg⟩ := rowAt_debug_line hi hs
  have hbytes : readBytes c p debugLineRow b.sub b.selector (wantsShadow b) =
      some (debugRead c (obj c.hw 0xB200 1 p), none) := by
    have hrw : (Acc.rw == Acc.rwl) = false := rfl
    simp [readBytes, readBlob, debugLineRow, hd, hrw]
  rw [getAct_part hrow hseg hbytes, readPowered, if_pos hi]

/-- A write of all 72 bytes of it. -/
theorem setAct_debug_line (hn : c.hw.mode ≠ .off) (hi : b.index = 0xB200) (hs : b.sub = 2) (hd : debugReady c.hw (obj c.hw 0xB200 1 p) = true)
    (ho : b.offset = 0) (hl : b.data.length = 72) :
    setAct c p b = .done (((debugAccess c (obj c.hw 0xB200 1 p) 3).storeLine (locLine (obj c.hw 0xB200 1 p))
        (leNat (b.data.take 64) * 2 ^ 64 + leNat (b.data.drop 64))).onHw
        (fun h => { h with dict := { h.dict with segments := tset h.dict.segments (segKey 0xB200 2 p) (0, 72) } }))
      { status := .ok, total := 72 } := by
  obtain ⟨hrow, hseg⟩ := rowAt_debug_line hi hs
  have hput : putBytes c p b.index b.sub b.data = some (debugWrite (debugAccess c (obj c.hw 0xB200 1 p) 3) (obj c.hw 0xB200 1 p) b.data) := by
    rw [hi]
    exact if_pos hd
  have hwhole (key : Nat) (cur : List Byte) :
      segment c.hw key (segmentMax debugLineRow) cur b.offset b.data = some (some b.data) := by
    simp [segment, segmentMax, debugLineRow, ho, hl]
  rw [setAct_segment hn hrow hseg (fun _ => hl) (hwhole _ _) hput, hi, hs, ho, hl]
  rfl

/-- A die under test, powered with its controller (R430). -/
def underTest (p d : Nat) (h : Hw) : Hw :=
  let h := setDomain (setDomain h (dctDomain (d / 2)) 0) (arrDomain d) 0
  setTest (setObj h 0xB300 2 d 1) { h.test with testDie := some d, testPath := some p }

/-- The array test takes a die of a parked track that nothing unparks, one at a time. -/
theorem arrayTestAct_starts {d : Nat} (ht : trackParked c.hw (d / 2) = true) (hd : c.hw.test.testDie = none)
    (hu : c.hw.place.unparking.contains (d / 2) = false) :
    arrayTestAct c p d = .wait { c with hw := underTest p d c.hw } :=
  if_neg (by simp only [ht, hd, hu, Bool.not_true, Option.isSome_none, Bool.or_self, Bool.false_eq_true, not_false_eq_true])

/-- Steps 1 and 2 of a shutdown without a BIST (R450): moves settle, the channels drain, every die goes into self-refresh. -/
def shutdownBegun (p : Nat) (c : Core) : Core :=
  let c := c.onHw (fun h =>
    let h := h.place.moves.foldl (rollBack false) h
    let h := h.place.journal.foldl (fun h _ => applyOldest h) h
    { h with boot := { h.boot with shutdownPath := if p = 0 then some 0 else none, shutdownAt := now h, shutdownBist := false } })
  let c := (drainEverything c).onHw (allSr (band c.hw))
  c.onHw (fun h => setObj { h with mode := .stopping } 0xC010 2 0 1)

theorem shutdownAct_begins (hj : jobHeld c.hw = false) (hr : reqHeld c.hw = false) (hs : c.hw.power.sleep = none) (ho : obj c.hw 0xC010 2 = 0)
    (ha : awake c.hw = true) :
    shutdownAct c p 0 = if p = 0 then .wait (shutdownBegun p c) else .done (shutdownBegun p c) okAnswer := by
  have hfree : ¬(jobHeld c.hw || reqHeld c.hw || c.hw.power.sleep.isSome || obj c.hw 0xC010 2 != 0 || !awake c.hw) = true := by
    simp [hj, hr, hs, ho, ha]
  exact if_neg hfree

end

/-- Settles O50: each operation is executed (`execute_cmd_names` and its kin), and the lemma about its object's action says what it leaves and
how it is answered. -/
theorem testCommandsComplete : Obligations.TestCommandsComplete := by
  unfold Obligations.TestCommandsComplete
  intro s src p b h ht hn
  refine ⟨?_, ?_, ?_, ?_, ?_, ?_, ?_, ?_, ?_, ?_, ?_, ?_, ?_, ?_⟩
  · intro hw hb
    obtain ⟨-, hi, hlo, hhi⟩ := namesRun_iff.mp hb
    exact exec_answered (x := {}) rfl hw ht hb ((execute_get_names ht hb).trans (getAct_fuse_word hi (Nat.le_antisymm hhi hlo)))
  · intro hw hb
    obtain ⟨-, hi, hlo, hhi⟩ := namesRun_iff.mp hb
    exact exec_answered (x := {}) rfl hw ht hb ((execute_get_names ht hb).trans (getAct_fuse_strict hi (Nat.le_antisymm hhi hlo)))
  · intro failing r hw hb hr ho hf
    exact exec_later (x := { failing := failing }) rfl hw ht hb ((execute_cmd_names ht hn hb).trans (burnAct_open hr ho hf))
  · intro hw hb r hf ho hm
    exact exec_later (x := {}) rfl hw ht hb ((execute_cmd_names ht hn hb).trans (finaliseAct_burns hf ho hm))
  · intro r v hw hb hr hv
    have hseg : segmented 0xA020 4 = true := by decide
    have hother : ¬0xA020 = 0xB200 := by decide
    exact exec_answered (x := {}) rfl hw ht hb ((execute_set_names ht hb).trans
      (setAct_segment (c := { coreOf s with hw := h }) (b := { b with op := 2, index := 0xA020, sub := 4 }) hn hr hseg (fun hi => absurd hi hother)
        hv rfl))
  · intro hw hb
    exact exec_waiting (x := {}) rfl hw ht hb (execute_cmd_names ht hn hb)
  · intro hw hb hs
    have hx := execute_cmd_names (x := {}) ht hn hb
    refine ⟨fun hl hv => ?_, fun hl hv => ?_, fun hl hv hi ha => ?_⟩
    · exact exec_later rfl hw ht hb (hx.trans ((congrArg (lifecycleAct _) hv).trans (lifecycleAct_field hs hl)))
    · exact exec_later rfl hw ht hb (hx.trans ((congrArg (lifecycleAct _) hv).trans (lifecycleAct_scrap hs hl)))
    · exact exec_later rfl hw ht hb (hx.trans ((congrArg (lifecycleAct _) hv).trans (lifecycleAct_return_refused hs hl hi ha)))
  · intro r v hw hb hr hwin hv
    have hseg : segmented 0xB000 1 = true := by decide
    have hother : ¬0xB000 = 0xB200 := by decide
    exact exec_answered (x := {}) rfl hw ht hb ((execute_set_names ht hb).trans
      (setAct_segment (c := { coreOf s with hw := h }) (b := { b with op := 2, index := 0xB000, sub := 1 }) hn hr hseg (fun hi => absurd hi hother)
        hv (if_pos hwin)))
  · intro hw hb
    exact exec_answered (x := {}) rfl hw ht hb (execute_cmd_names ht hn hb)
  · intro hw hb
    have hx := execute_cmd_names (x := {}) ht hn hb
    refine ⟨fun hr => exec_waiting rfl hw ht hb (hx.trans (bistAct_joins hr)), fun hr hm ho hj hq => ?_⟩
    have hexec := exec_waiting_core (c := .runShutdownBist src) rfl hw ht hb (hx.trans (bistAct_starts hr hm ho hj hq))
    rw [onHw_onHw] at hexec
    exact hexec
  · intro hw hb hd
    obtain ⟨-, hi, hlo, hhi⟩ := namesRun_iff.mp hb
    exact exec_answered (x := {}) rfl hw ht hb ((execute_get_names ht hb).trans (getAct_debug_line hi (Nat.le_antisymm hhi hlo) hd))
  · intro hw hb hd ho hl
    obtain ⟨hop, hi, hlo, hhi⟩ := namesRun_iff.mp hb
    have hexec := exec_answered_core (c := .debugLineWrite src) (x := {}) rfl hw ht hb
      (((execute_op {} ht).2.1 hop).trans (setAct_debug_line (c := { coreOf s with hw := h }) hn hi (Nat.le_antisymm hhi hlo) hd ho hl))
    rw [onHw_onHw] at hexec
    exact hexec
  · intro hw hb d hp hd hu
    exact exec_waiting (x := {}) rfl hw ht hb ((execute_cmd_names ht hn hb).trans (arrayTestAct_starts (c := { coreOf s with hw := h }) hp hd hu))
  · intro hw hb hj hr hs ho ha hv
    have hx := (execute_cmd_names (x := {}) ht hn hb).trans
      ((congrArg (shutdownAct _ p) hv).trans (shutdownAct_begins (c := { coreOf s with hw := h }) hj hr hs ho ha))
    change exec (.shutdown src) s = .next (afterCore s ((shutdownBegun p { coreOf s with hw := h }).onHw
      (fun h => if p = 0 then answerPending h p b true else answerNow h p b okAnswer true)))
    by_cases hp : p = 0
    · rw [if_pos hp] at hx
      simp only [if_pos hp]
      exact exec_waiting_core rfl hw ht hb hx
    · rw [if_neg hp] at hx
      simp only [if_neg hp]
      exact exec_answered_core rfl hw ht hb hx

end Sys2Proof.Machine
